-- ==== Sys2Proof/Word.lean ====
section
/-!
DEFINITION. The words of the OZ-3248 model: a character of either line, and the numbers that name stations,
channels, feeders, curves, profiles and air groups. Quantities that the manual counts are plain `Nat`s; only what
travels on a line is a bit vector.
-/

namespace Sys2Proof

/-- One character of the supervisor link or of the field line: eight data bits (R129, R164). -/
abbrev Byte := BitVec 8

/-- A station: S1 is 0, S40 is 39 (00, section 0.7). -/
abbrev StationId := Fin 40

/-- A channel of a station, 0 to 3. -/
abbrev Channel := Fin 4

/-- A feeder: F1 is 0, F4 is 3. -/
abbrev FeederId := Fin 4

/-- A curve: C1 is 0, C8 is 7. -/
abbrev CurveId := Fin 8

/-- A curfew profile: P1 is 0, P4 is 3. -/
abbrev ProfileId := Fin 4

/-- An air group: group 1 is 0, group 4 is 3. -/
abbrev GroupId := Fin 4

/-- A row of 48 half-hour slots; bit n is slot n, set when the slot is OPEN (R95, R177). -/
abbrev SlotRow := BitVec 48

end Sys2Proof
end

