-- ==== Sys2Proof/Syntax.lean ====
section
/-!
DEFINITION. The commands the OZ-3248 takes: one constructor of `Instr` for each row of spec/opcode_table.json.
Events carry what arrives with them (a load, a feeder, a character, the characters of a reply). Requests carry the
tag of their frame (R165) and their fields as the numbers that the frame carries (R177), in the order of their rules:
a field that is out of range is representable, because the part answers it RANGE (R169, R178).
-/

namespace Sys2Proof

namespace Machine

/-- The fields of a BIND LOAD payload after the load number, in the order of the layout of R177. -/
structure BindFields where
  station : Nat
  channel : Nat
  kind : Nat
  feeder : Nat
  demand : Nat
  zone : Nat
  airGroup : Nat
  curve : Nat
  restFloor : Nat
  noiseBand : Nat
  weight : Nat
  idleThreshold : Nat
  busyThreshold : Nat
  idleDwell : Nat
  profile : Nat
  wakeAtClose : Nat
  wakeRank : Nat
  fallback : Nat
  stepLimit : Nat
  coastLimit : Nat
  unloadDwell : Nat
  minimumOff : Nat
  settleLimit : Nat
  adoptParked : Nat
  events : Nat
deriving DecidableEq, Repr

/-- The thirteen parameters of SET ASSENT as numbers, in the order of the table of R140. -/
structure AssentFields where
  answerOpen : Nat
  answerClose : Nat
  answerTimeout : Nat
  requestOpen : Nat
  requestClose : Nat
  requestTimeout : Nat
  requestCheck : Nat
  timeoutAction : Nat
  startCount : Nat
  goodStep : Nat
  badStep : Nat
  lowThreshold : Nat
  highThreshold : Nat
deriving DecidableEq, Repr

/-- A date as a request carries it (R176). -/
structure Date where
  year : Nat
  month : Nat
  day : Nat
deriving DecidableEq, Repr

/-- The seven knots of SET CURVE (R28). -/
structure Knots where
  k1 : Nat
  k2 : Nat
  k3 : Nat
  k4 : Nat
  k5 : Nat
  k6 : Nat
  k7 : Nat
deriving DecidableEq, Repr

end Machine

open Machine

/-- The commands, in the order of spec/opcode_table.json. -/
inductive Instr where
  | powerOn
  | resetPinLow
  | leaveReset
  | secondsEvent
  | quarterSecondEvent
  | dwellComplete (load : Nat)
  | minimumOffElapsed
  | stepTimerExpiry (load : Nat)
  | coastLimitExpiry (load : Nat)
  | unloadDwellExpiry (load : Nat)
  | settleTimerExpiry (load : Nat)
  | spacingTimerExpiry (feeder : Nat)
  | answerWindowTimeout
  | requestWindowTimeout
  | pauseEnd
  | slotEnd
  | replyStartTimeout
  | fieldReplyReceived (frame : List Byte)
  | framingFault
  | lengthOutOfRange (byte : Byte)
  | gapTimeout
  | frameComplete (byte : Byte)
  | replySent
  | unknownRequest (kind tag : Byte) (payload : List Byte)
  | setFeeder (tag : Byte) (feeder capacity spacing : Nat)
  | setGroup (tag : Byte) (group minimum : Nat)
  | setCurve (tag : Byte) (curve : Nat) (knots : Knots)
  | setStation (tag : Byte) (station enabled fitted : Nat)
  | bindLoad (tag : Byte) (load : Nat) (fields : BindFields)
  | unbindLoad (tag : Byte) (load : Nat)
  | setProfileDay (tag : Byte) (profile day : Nat) (slots : SlotRow)
  | setHoliday (tag : Byte) (date : Date) (rule : Nat)
  | dropHoliday (tag : Byte) (date : Date)
  | setAssent (tag : Byte) (fields : AssentFields)
  | setAlert (tag : Byte) (mode tolerance enable stationSet deviceSet : Nat)
  | setSweep (tag : Byte) (rate pause : Nat)
  | setClock (tag : Byte) (date : Date) (dayOfWeek seconds : Nat)
  | startSweep (tag : Byte) (mode lastStation : Nat)
  | stopSweep (tag : Byte)
  | setLastStation (tag : Byte) (lastStation : Nat)
  | hold (tag : Byte) (load : Nat)
  | release (tag : Byte) (load : Nat)
  | parkNow (tag : Byte) (load : Nat)
  | cancelPark (tag : Byte) (load : Nat)
  | wakeNow (tag : Byte) (load override : Nat)
  | cancelWake (tag : Byte) (load : Nat)
  | clearFault (tag : Byte) (load : Nat)
  | setInquiry (tag : Byte) (station kind options : Nat)
  | challenge (tag : Byte)
  | answer (tag : Byte) (echo value : Nat)
  | readLoad (tag : Byte) (load : Nat)
  | readLoads (tag : Byte) (page : Nat)
  | readStation (tag : Byte) (station : Nat)
  | readFeeder (tag : Byte) (feeder page : Nat)
  | readStatus (tag : Byte)
  | fetchNotice (tag : Byte)
  | identify (tag : Byte)
  | softRestart (tag : Byte)
  | softRestartTakesEffect
  | replyCharacterFault
  | visitFrameSent
  | replyStartBit
  | characterReceived (byte : Byte)
deriving DecidableEq, Repr

end Sys2Proof
end

