-- ==== Sys2Proof/Decode.lean ====
section
/-!
DEFINITION. Words and commands. No row of spec/opcode_table.json has bits: the commands of this block are requests and
events, and none is spelled by a word (log entry 25). The frames that carry requests are read in
Machine/SupervisorLink.lean.
-/

namespace Sys2Proof

/-- The command that a word of the opcode table spells: none, for the table gives no row bits (log entry 25). -/
def decodeTableWord (_nbits _w : Nat) : Option Instr := none

end Sys2Proof
end

