-- ==== Sys2Proof/Config.lean ====
section
/-!
DEFINITION. What is fixed for the part the manual describes (its capacities and identity, R173), and the FREE VALUES:
values that the manual leaves open and that no theorem of this package can know. Each free value is an opaque
constant applied to `State.draws`, a plain counter of the state, so that two draws need not agree.
-/

namespace Sys2Proof.Config

/-- The part code that IDENTIFY returns (R173). -/
def partCode : Nat := 3248

/-- The silicon level of the part this manual describes (R173). -/
def siliconLevel : Nat := 1

/-- Load numbers run from 1 to 96 (R1). -/
def loadCount : Nat := 96

/-- Station numbers run from 1 to 40 (R105). -/
def stationCount : Nat := 40

/-- Feeders F1 to F4 (R72). -/
def feederCount : Nat := 4

/-- Curves C1 to C8 (R27). -/
def curveCount : Nat := 8

/-- Curfew profiles P1 to P4 (R95). -/
def profileCount : Nat := 4

/-- The holiday list holds at most 16 entries (R96). -/
def holidayCapacity : Nat := 16

/-- FREE VALUE (log entry 5). A timer started inside a second is read inside a second. Whether the part of the second
already gone takes one more whole second off the remaining time is not determined by the events the block takes.
The arguments are `State.draws` and the timer that is read. -/
opaque timerFraction : Nat → Nat → Bool

/-- FREE VALUE (log entry 9). "The minimum-off look and the curfew-close wake requests ... may both reach one start
queue within one seconds event, and either may be taken first" (R93). True: the look comes first. The argument is
`State.draws`. -/
opaque minimumOffFirst : Nat → Bool

end Sys2Proof.Config
end

