-- ==== Sys2Proof/Machine/State.lean ====
section
/-!
DEFINITION. Everything the OZ-3248 holds, as plain data, and its value right after reset. The records are grouped as
the manual's blocks are (00, section 0.3); each field's docstring names the rule that gives it. What another field
determines (the reported activity, the current station, whether the alert is asserted) is computed, not stored.
-/

namespace Sys2Proof.Machine

/-! ## Loads (LDT) -/

/-- The kind of machine (R2). -/
inductive LoadKind where
  | press | compressor | fan | auxiliary
deriving DecidableEq, Repr

/-- The orders a station carries out (R3, R105). -/
inductive OrderKind where
  | declutch | unload | motorOff | motorOn
deriving DecidableEq, Repr

/-- Where UNLOADING stands: its order phase before and after the echo TAKEN, and its dwell phase (R58, R59). -/
inductive UnloadPhase where
  | order | orderTaken | dwell
deriving DecidableEq, Repr

/-- The park steps (R3, R54). -/
inductive ParkStep where
  | unloading (phase : UnloadPhase) | declutching | coasting | stopping
deriving DecidableEq, Repr

/-- The wake steps (R3, R84). -/
inductive WakeStep where
  | ordered | settling
deriving DecidableEq, Repr

/-- The ten states of a bound load (R3). The park step is present in PARKING only, the wake step in WAKING only. -/
inductive LoadState where
  | offline | active | idling | parkPending | parking (step : ParkStep) | parked | wakeQueued
  | waking (step : WakeStep) | stopped | faulted
deriving DecidableEq, Repr

/-- A plant-clock second: a date and the seconds of the day (R3, R155). -/
structure Stamp where
  date : Date
  seconds : Nat
deriving DecidableEq, Repr

/-- A running timer: its limit in seconds and how many seconds events have come since it was started. Its expiry is
an event of its own; the elapsed count serves the remaining time that reads return (R68, R90, log entry 5). -/
structure Timer where
  limit : Nat
  elapsed : Nat
deriving DecidableEq, Repr

/-- The reasons that keep a load from parking (R19, R20). -/
structure HoldSet where
  /-- LOCAL, the operator's call. -/
  byCall : Bool
  /-- HOST. -/
  byHost : Bool
  /-- LOCKOUT. -/
  byLockout : Bool
deriving DecidableEq, Repr

/-- The latest flags of a press or a compressor (R3). -/
structure LatestFlags where
  safeStop : Bool
  speedLow : Bool
  unloaded : Bool
deriving DecidableEq, Repr

/-- The configured fields of a bound load, each within its range of R2. An air group or curfew profile of 0 is `none`. -/
structure LoadConfig where
  station : StationId
  channel : Channel
  kind : LoadKind
  feeder : FeederId
  demand : Nat
  zone : Nat
  airGroup : Option GroupId
  curve : CurveId
  restFloor : Nat
  noiseBand : Nat
  weight : Nat
  idleThreshold : Nat
  busyThreshold : Nat
  idleDwell : Nat
  profile : Option ProfileId
  wakeAtClose : Bool
  wakeRank : Nat
  /-- Fallback on lapse is WAKE. -/
  fallbackWake : Bool
  stepLimit : Nat
  coastLimit : Nat
  unloadDwell : Nat
  minimumOff : Nat
  settleLimit : Nat
  adoptParked : Bool
  /-- The event enables, in the bit order of R176. -/
  events : BitVec 9
deriving DecidableEq, Repr

/-- A bound load record (R2, R3). -/
structure Load where
  /-- The load number, 1 to 96. -/
  num : Nat
  cfg : LoadConfig
  state : LoadState
  hold : HoldSet
  a16 : Nat
  idle : Bool
  dwell : Nat
  sampleTime : Option Stamp
  sampleAge : Option Nat
  manual : Bool
  wakeDue : Bool
  parkOwned : Bool
  due : Option OrderKind
  timer : Option Timer
  stopTime : Option Stamp
  awaitingFan : Bool
  latest : LatestFlags
deriving DecidableEq, Repr

/-! ## Feeders (SAL) -/

/-- An entry of a start queue (R72). Its awaiting-fan flag is the load's. -/
structure QueueEntry where
  load : Nat
  passed : Nat
deriving DecidableEq, Repr

/-- A feeder record (R72). -/
structure Feeder where
  capacity : Nat
  free : Nat
  spacing : Nat
  spacingTimer : Option Timer
  queue : List QueueEntry
deriving DecidableEq, Repr

/-- A feeder after power-on or RESET (R91). -/
def Feeder.reset : Feeder := { capacity := 0, free := 0, spacing := 0, spacingTimer := none, queue := [] }

/-! ## Stations (STT) -/

/-- The link states (R105). -/
inductive LinkState where
  | unheard | live | suspect | lost | excluded
deriving DecidableEq, Repr

/-- What a visit asks for (R105, R114). `none` is a routine visit. -/
inductive InquiryKind where
  | routine | hours | temps | faults | ident
deriving DecidableEq, Repr

/-- An order in a station's slot (R105). -/
structure Order where
  channel : Channel
  kind : OrderKind
deriving DecidableEq, Repr

/-- A station record (R105). -/
structure Station where
  enabled : Bool
  fitted : Nat
  link : LinkState
  misses : Nat
  slot : Option Order
  lastServed : Channel
  inquiry : InquiryKind
  once : Bool
  round : Bool
  /-- One count for each channel from channel 0 upwards, for as many channels as have a result. -/
  runHours : Option (List Nat)
  /-- One temperature for each channel from channel 0 upwards, for as many channels as have a result. -/
  temperatures : Option (List Int)
  faultList : Option (List Nat)
  ident : Option (Nat × Nat)
  restartNoted : Bool
  lastCall : Vector Bool 4
  lastLockout : Vector Bool 4
deriving DecidableEq, Repr

/-- A station after power-on or RESET (R105). -/
def Station.reset : Station :=
  { enabled := false, fitted := 1, link := .excluded, misses := 0, slot := none, lastServed := 3,
    inquiry := .routine, once := false, round := false, runHours := none, temperatures := none,
    faultList := none, ident := none, restartNoted := false,
    lastCall := Vector.replicate 4 false, lastLockout := Vector.replicate 4 false }

/-! ## Curves (ACA) -/

/-- The curve every Ci holds after power-on or RESET: Kj = 125 j (R27). -/
def straightLine : Knots := { k1 := 125, k2 := 250, k3 := 375, k4 := 500, k5 := 625, k6 := 750, k7 := 875 }

/-- What the wake and park machinery works on: the load table, the stations, the feeders, the group minimums and the
curves. -/
structure Plant where
  /-- The bound loads, in ascending load number; a number not listed is an UNBOUND record (R1). -/
  loads : List Load
  stations : Vector Station 40
  feeders : Vector Feeder 4
  /-- The group minimums (R53). -/
  groups : Vector Nat 4
  curves : Vector Knots 8
deriving DecidableEq, Repr

/-- The plant blocks after power-on or RESET (R1, R27, R53, R91, R105). -/
def Plant.reset : Plant :=
  { loads := [], stations := Vector.replicate 40 Station.reset, feeders := Vector.replicate 4 Feeder.reset,
    groups := Vector.replicate 4 0, curves := Vector.replicate 8 straightLine }

/-! ## Curfew calendar (CCL) -/

/-- A set plant clock (R92). -/
structure Clock where
  date : Date
  /-- 1 (Monday) to 7 (Sunday). -/
  dayOfWeek : Nat
  seconds : Nat
deriving DecidableEq, Repr

/-- A holiday day rule (R96). `asDay d` uses row d, written from 0. -/
inductive DayRule where
  | allOpen | asDay (row : Fin 7) | allClosed
deriving DecidableEq, Repr

/-- A holiday list entry (R96). -/
structure Holiday where
  date : Date
  rule : DayRule
deriving DecidableEq, Repr

/-- The calendar: the plant clock (`none` is UNSET), the profiles, the holiday list and the held profile states
(R92, R95, R96, R100). -/
structure Calendar where
  clock : Option Clock
  profiles : Vector (Vector SlotRow 7) 4
  holidays : List Holiday
  /-- The held state of each profile; true is OPEN. -/
  held : Vector Bool 4
deriving DecidableEq, Repr

/-- The calendar after power-on or RESET (R92, R95, R96). The held states are CLOSED: log entry 27. -/
def Calendar.reset : Calendar :=
  { clock := none, profiles := Vector.replicate 4 (Vector.replicate 7 0), holidays := [],
    held := Vector.replicate 4 false }

/-! ## Sweep (FLC) -/

inductive SweepMode where
  | stopped | continuous | single
deriving DecidableEq, Repr

inductive LineRate where
  | b19200 | b38400 | b57600 | b115200
deriving DecidableEq, Repr

/-- The digest and round flags (R121). -/
structure RoundFlags where
  newCall : Bool
  newLoss : Bool
  anyMiss : Bool
deriving DecidableEq, Repr

def RoundFlags.clear : RoundFlags := { newCall := false, newLoss := false, anyMiss := false }

/-- The round digest (R121, R133). -/
structure Digest where
  flags : RoundFlags
  activity : Nat
  parked : Nat
  round : Nat
deriving DecidableEq, Repr

/-- How far a visit's slot has come (R129 to R131): the visit frame is on the line with FL DE asserted; the listening
window is open and no start bit has come; a reply has begun; the reply was taken or the miss determined. -/
inductive SlotPhase where
  | sending | listening | receiving | over
deriving DecidableEq, Repr

/-- What the FLC keeps of a visit for the duration of its slot (R128), with the slot's phase and whether SET INQUIRY
has replaced the station's inquiry slot since the frame was built (R114, R115). -/
structure Visit where
  station : StationId
  kind : InquiryKind
  order : Option Order
  fitted : Nat
  notedMark : Bool
  inquiryReplaced : Bool
  phase : SlotPhase
deriving DecidableEq, Repr

/-- What the field line is doing: idle (STOPPED), in a visit's slot, in the empty slot of a round without a visit
(R127), or in the pause after a round end (R134). -/
inductive LinePhase where
  | idle | slot (visit : Visit) | emptySlot | pausing
deriving DecidableEq, Repr

/-- The sweep record (R121). The current station is `Sweep.currentStation`. -/
structure Sweep where
  mode : SweepMode
  /-- The last station in force, 1 to 40. -/
  lastStation : Nat
  pendingLast : Option Nat
  stopRequested : Bool
  rate : LineRate
  pause : Nat
  roundNumber : Nat
  flags : RoundFlags
  digest : Digest
  line : LinePhase
deriving DecidableEq, Repr

/-- The station being visited, present while a visit's slot runs (R121, R127). -/
def Sweep.currentStation (w : Sweep) : Option StationId :=
  match w.line with
  | .slot v => some v.station
  | _ => none

/-- The sweep record after power-on or RESET (R121). -/
def Sweep.reset : Sweep :=
  { mode := .stopped, lastStation := 1, pendingLast := none, stopRequested := false, rate := .b57600, pause := 0,
    roundNumber := 0, flags := .clear, digest := { flags := .clear, activity := 0, parked := 0, round := 0 },
    line := .idle }

/-! ## Assent monitor (ASM) -/

/-- The monitor's state. The window timer is present, with its kind, exactly in the two AWAIT states (R139), so they
carry its elapsed count. -/
inductive AssentState where
  | dormant | awaitAnswer (elapsed : Nat) | awaitChallenge (elapsed : Nat) | lapsed
deriving DecidableEq, Repr

/-- The assent parameters (R140). -/
structure AssentParams where
  answerOpen : Nat
  answerClose : Nat
  answerTimeout : Nat
  requestOpen : Nat
  requestClose : Nat
  requestTimeout : Nat
  requestCheck : Bool
  /-- The timeout action is LAPSE. -/
  timeoutLapse : Bool
  startCount : Nat
  goodStep : Nat
  badStep : Nat
  lowThreshold : Nat
  highThreshold : Nat
deriving DecidableEq, Repr

/-- The defaults of R140. -/
def AssentParams.reset : AssentParams :=
  { answerOpen := 8, answerClose := 40, answerTimeout := 20, requestOpen := 200, requestClose := 80,
    requestTimeout := 40, requestCheck := true, timeoutLapse := false, startCount := 6, goodStep := 1, badStep := 3,
    lowThreshold := 5, highThreshold := 11 }

/-- The assent status flags (R139). -/
structure AssentFlags where
  earlyAnswer : Bool
  lateAnswer : Bool
  wrongAnswer : Bool
  earlyRequest : Bool
  lateRequest : Bool
  answerTimeout : Bool
  requestTimeout : Bool
  lapsedByCount : Bool
deriving DecidableEq, Repr

def AssentFlags.empty : AssentFlags :=
  { earlyAnswer := false, lateAnswer := false, wrongAnswer := false, earlyRequest := false, lateRequest := false,
    answerTimeout := false, requestTimeout := false, lapsedByCount := false }

/-- The assent record (R139). -/
structure Assent where
  state : AssentState
  params : AssentParams
  trust : Nat
  permit : Bool
  token : Nat
  flags : AssentFlags
  lapses : Nat
deriving DecidableEq, Repr

/-- The assent record after power-on or RESET (R139, R142). -/
def Assent.reset : Assent :=
  { state := .dormant, params := .reset, trust := 0, permit := false, token := 4660, flags := .empty, lapses := 0 }

/-! ## Notices and the alert (NQA) -/

/-- The load event kinds, in the bit order of R176. -/
inductive LoadEvent where
  | parked | woken | parkAborted | faulted | localStart | stoppedExt | offline | callOn | callOff
deriving DecidableEq, Repr

/-- The station event kinds, in the bit order of R176. -/
inductive StationEvent where
  | lost | back | restarted | inquiryDone
deriving DecidableEq, Repr

/-- The device event kinds, in the bit order of R176. -/
inductive DeviceEvent where
  | curfewOpen | curfewClose | permitOn | permitOff | assentLapsed | sweepDone | digest | softRestarted
deriving DecidableEq, Repr

/-- The source of a notice (R155). -/
inductive Source where
  | device | load (num : Nat) | station (id : StationId)
deriving DecidableEq, Repr

/-- A notice (R155). Its kinds are bits in the order of its source's enable set; the profile sets are bits P1 to P4. -/
structure Notice where
  source : Source
  kinds : BitVec 16
  time : Option Stamp
  opened : BitVec 4
  closed : BitVec 4
deriving DecidableEq, Repr

inductive AlertMode where
  | notice | beacon
deriving DecidableEq, Repr

/-- The notice queue, oldest first, the five alert settings and the beacon state (R155, R159). -/
structure Alerts where
  queue : List Notice
  mode : AlertMode
  tolerance : Nat
  enabled : Bool
  stationSet : BitVec 4
  deviceSet : BitVec 8
  faultCount : Nat
  beacon : Bool
  statusRead : Bool
deriving DecidableEq, Repr

/-- The alert block after power-on or RESET (R159, R163). -/
def Alerts.reset : Alerts :=
  { queue := [], mode := .notice, tolerance := 1, enabled := false, stationSet := 0, deviceSet := 0,
    faultCount := 0, beacon := false, statusRead := true }

/-! ## Supervisor link (SLP) -/

/-- A frame of the supervisor link without its mark, length and CRC, which it determines (R165). -/
structure Frame where
  kind : Byte
  tag : Byte
  payload : List Byte
deriving DecidableEq, Repr

/-- Where the deframer stands (R165): hunting; after a start mark, before the length byte; or part-way through a body
of the given length, with the bytes received after the length byte, latest last. -/
inductive Deframer where
  | hunting | expectLength | body (length : Byte) (received : List Byte)
deriving DecidableEq, Repr

/-- A reply being sent, and the request it answers (10, section 10.1). -/
structure ReplyInProgress where
  request : Frame
  reply : Frame
deriving DecidableEq, Repr

/-- The supervisor link port (10, section 10.1). -/
structure Link where
  deframer : Deframer
  /-- The complete frames held, oldest first; the frame that is being answered is the first of them (R168). -/
  buffer : List Frame
  reply : Option ReplyInProgress
  errors : Nat
deriving DecidableEq, Repr

def Link.reset : Link := { deframer := .hunting, buffer := [], reply := none, errors := 0 }

/-! ## Pins -/

/-- A transmit pin: high at rest, or carrying the characters of a frame (R129, R164, R175). -/
inductive TxPin where
  | high | carrying
deriving DecidableEq, Repr

/-- The output pins (R175, section 10.8.1). -/
structure Pins where
  slpTxd : TxPin
  flTxd : TxPin
  /-- FL DE is high: the field-line driver is on. -/
  flDe : Bool
  /-- ALERT is driven low: the alert is asserted. -/
  alertLow : Bool
deriving DecidableEq, Repr

/-- The pins in reset and on leaving it (R163, R175). -/
def Pins.reset : Pins := { slpTxd := .high, flTxd := .high, flDe := false, alertLow := false }

/-! ## The whole part -/

/-- The state of the OZ-3248. -/
structure State where
  plant : Plant
  calendar : Calendar
  sweep : Sweep
  assent : Assent
  alerts : Alerts
  link : Link
  /-- The part is held in reset (R175). -/
  inReset : Bool
  pins : Pins
  /-- The model's own: how many free values have been drawn (log entry 5). -/
  draws : Nat
  /-- The model's own: the commands that wait, first in, first out (log entry 1). -/
  pending : List Instr
deriving DecidableEq, Repr

/-- The OZ-3248 stops at nothing: a request that cannot be carried out is answered by its code (R169), a bad reply is a
miss (R131), a load, a station or the monitor that fails goes into a state of its own (R22, R110, R151). So there is no
fault to raise, and the type has no constructor. -/
inductive Fault where
deriving DecidableEq, Repr

/-- Why the model gives a command no meaning. -/
inductive Refusal where
  /-- Raised by an arm of `exec` for a command that has no meaning yet (safe). No arm raises it. -/
  | notModelled (mnemonic : String)
deriving DecidableEq, Repr

/-- The part right after it leaves reset: every field at the value its own rule gives for power-on and RESET (R175). -/
def State.reset : State :=
  { plant := .reset, calendar := .reset, sweep := .reset, assent := .reset, alerts := .reset, link := .reset,
    inReset := false, pins := .reset, draws := 0, pending := [] }

end Sys2Proof.Machine
end

