-- ==== Sys2Proof/Machine/Flags.lean ====
section
/-!
DEFINITION. Sets and flags: the bit each member occupies (R176), the bytes that carry sets in replies, the sets that
requests carry, and the CRC of both lines (R166, R179).
-/

namespace Sys2Proof.Machine

/-! ## Event kinds (R176) -/

/-- The bit of a load event kind (R176). -/
def LoadEvent.bit : LoadEvent → Nat
  | .parked => 0
  | .woken => 1
  | .parkAborted => 2
  | .faulted => 3
  | .localStart => 4
  | .stoppedExt => 5
  | .offline => 6
  | .callOn => 7
  | .callOff => 8

/-- The bit of a station event kind (R176). -/
def StationEvent.bit : StationEvent → Nat
  | .lost => 0
  | .back => 1
  | .restarted => 2
  | .inquiryDone => 3

/-- The bit of a device event kind (R176). -/
def DeviceEvent.bit : DeviceEvent → Nat
  | .curfewOpen => 0
  | .curfewClose => 1
  | .permitOn => 2
  | .permitOff => 3
  | .assentLapsed => 4
  | .sweepDone => 5
  | .digest => 6
  | .softRestarted => 7

/-- The set of kinds with one member, at the given bit. -/
def kindBit (i : Nat) : BitVec 16 := BitVec.ofNat 16 (2 ^ i)

/-- The set of profiles with one member. -/
def profileBit (p : ProfileId) : BitVec 4 := BitVec.ofNat 4 (2 ^ p.val)

/-! ## Sets as numbers (R176) -/

/-- A flag as the value of the bit at position `i`. -/
def bitValue (b : Bool) (i : Nat) : Nat := if b then 2 ^ i else 0

/-- Bit `i` of a number. -/
def bitOf (n i : Nat) : Bool := n / 2 ^ i % 2 == 1

/-- The hold set: LOCAL, HOST, LOCKOUT from bit 0 (R176). -/
def HoldSet.code (h : HoldSet) : Nat := bitValue h.byCall 0 + bitValue h.byHost 1 + bitValue h.byLockout 2

/-- The latest flags: safe-stop, speed-low, unloaded from bit 0 (R176). -/
def LatestFlags.code (f : LatestFlags) : Nat := bitValue f.safeStop 0 + bitValue f.speedLow 1 + bitValue f.unloaded 2

/-- The digest flags: NEW_CALL, NEW_LOSS, ANY_MISS from bit 0 (R177). -/
def RoundFlags.code (f : RoundFlags) : Nat := bitValue f.newCall 0 + bitValue f.newLoss 1 + bitValue f.anyMiss 2

/-- The assent status flags in the order of R176. -/
def AssentFlags.code (f : AssentFlags) : Nat :=
  bitValue f.earlyAnswer 0 + bitValue f.lateAnswer 1 + bitValue f.wrongAnswer 2 + bitValue f.earlyRequest 3 +
  bitValue f.lateRequest 4 + bitValue f.answerTimeout 5 + bitValue f.requestTimeout 6 + bitValue f.lapsedByCount 7

/-- The inquiry options: ONCE, ROUND from bit 0 (R176). -/
def Station.optionsCode (st : Station) : Nat := bitValue st.once 0 + bitValue st.round 1

/-- The profile states, P1 in bit 0; a set bit is OPEN (R176). -/
def heldCode (held : Vector Bool 4) : Nat :=
  bitValue held[0] 0 + bitValue held[1] 1 + bitValue held[2] 2 + bitValue held[3] 3

/-- The flags byte of a load summary: idle, manual, wake-due, park-owned, awaiting-fan from bit 0 (R177). -/
def Load.summaryFlags (l : Load) : Nat :=
  bitValue l.idle 0 + bitValue l.manual 1 + bitValue l.wakeDue 2 + bitValue l.parkOwned 3 + bitValue l.awaitingFan 4

/-! ## The CRC (R166) -/

/-- One bit of the CRC register's shift: the generator is x^16 + x^12 + x^5 + 1. -/
def crcBit (c : BitVec 16) : BitVec 16 := if c.msb then (c <<< 1) ^^^ 0x1021#16 else c <<< 1

/-- `k` shifts of the CRC register. -/
def crcShift : Nat → BitVec 16 → BitVec 16
  | 0, c => c
  | k + 1, c => crcShift k (crcBit c)

/-- One byte enters the CRC register, most significant bit first. -/
def crcByte (c : BitVec 16) (b : Byte) : BitVec 16 := crcShift 8 (c ^^^ (b.zeroExtend 16 <<< 8))

/-- The CRC of a sequence of bytes: the register starts at all ones and is neither reflected nor inverted. -/
def crc (bytes : List Byte) : BitVec 16 := bytes.foldl crcByte 0xFFFF#16

/-- The CRC as it is sent, high byte first. -/
def crcBytes (bytes : List Byte) : List Byte := [(crc bytes).extractLsb' 8 8, (crc bytes).extractLsb' 0 8]

end Sys2Proof.Machine
end

