-- ==== Sys2Proof/Machine/Operands.lean ====
section
/-!
DEFINITION. Every operand form: the codes of the enumerations (R176), numbers as bytes and bytes as numbers (R176,
R177), the fields of requests and the configuration they stand for (R2, R7, R140, R178), the frames of both lines
(R165, R179) and the content of a field reply (R179, R180).
-/

namespace Sys2Proof.Machine

/-! ## Numbers and bytes -/

/-- A number in one byte. -/
def b8 (n : Nat) : Byte := BitVec.ofNat 8 n

/-- A number in two bytes, high byte first (R176). -/
def b16 (n : Nat) : List Byte := [b8 (n / 256), b8 n]

/-- A number in three bytes, high byte first (R176). -/
def b24 (n : Nat) : List Byte := [b8 (n / 65536), b8 (n / 256), b8 n]

/-- A yes/no or on/off field (R176). -/
def bBool (b : Bool) : Byte := if b then 1 else 0

/-- A signed byte in two's complement (R177, R179). -/
def bSigned (n : Int) : Byte := BitVec.ofInt 8 n

/-- The byte at an offset of a payload, as a number. -/
def u8 (p : List Byte) (i : Nat) : Nat := (p.getD i 0).toNat

/-- The two bytes at an offset, high byte first. -/
def u16 (p : List Byte) (i : Nat) : Nat := u8 p i * 256 + u8 p (i + 1)

/-- The three bytes at an offset, high byte first. -/
def u24 (p : List Byte) (i : Nat) : Nat := u8 p i * 65536 + u8 p (i + 1) * 256 + u8 p (i + 2)

/-- An optional item: a byte that is 1 and the item, or a byte that is 0 (R177). -/
def optItem : Option (List Byte) → List Byte
  | none => [0]
  | some bytes => 1 :: bytes

/-- A remaining time in two bytes; all ones when absent (R177). -/
def remainingBytes : Option Nat → List Byte
  | none => [0xFF, 0xFF]
  | some n => b16 n

/-- A date in four bytes (R176). -/
def Date.bytes (d : Date) : List Byte := b16 d.year ++ [b8 d.month, b8 d.day]

/-- A time in seven bytes, a date and the seconds of the day; all date bytes 0 when absent (R177). -/
def stampBytes : Option Stamp → List Byte
  | none => [0, 0, 0, 0, 0, 0, 0]
  | some t => t.date.bytes ++ b24 t.seconds

/-- The date at an offset of a payload. -/
def dateAt (p : List Byte) (i : Nat) : Date := { year := u16 p i, month := u8 p (i + 2), day := u8 p (i + 3) }

/-! ## Enumerations (R176) -/

def LoadKind.code : LoadKind → Nat
  | .press => 0
  | .compressor => 1
  | .fan => 2
  | .auxiliary => 3

def LoadKind.ofCode? : Nat → Option LoadKind
  | 0 => some .press
  | 1 => some .compressor
  | 2 => some .fan
  | 3 => some .auxiliary
  | _ => none

def LoadState.code : LoadState → Nat
  | .offline => 1
  | .active => 2
  | .idling => 3
  | .parkPending => 4
  | .parking _ => 5
  | .parked => 6
  | .wakeQueued => 7
  | .waking _ => 8
  | .stopped => 9
  | .faulted => 10

def OrderKind.code : OrderKind → Nat
  | .declutch => 1
  | .unload => 2
  | .motorOff => 3
  | .motorOn => 4

def OrderKind.ofCode? : Nat → Option OrderKind
  | 1 => some .declutch
  | 2 => some .unload
  | 3 => some .motorOff
  | 4 => some .motorOn
  | _ => none

def SweepMode.code : SweepMode → Nat
  | .stopped => 0
  | .continuous => 1
  | .single => 2

def LineRate.code : LineRate → Nat
  | .b19200 => 0
  | .b38400 => 1
  | .b57600 => 2
  | .b115200 => 3

def LineRate.ofCode? : Nat → Option LineRate
  | 0 => some .b19200
  | 1 => some .b38400
  | 2 => some .b57600
  | 3 => some .b115200
  | _ => none

def AssentState.code : AssentState → Nat
  | .dormant => 0
  | .awaitAnswer _ => 1
  | .awaitChallenge _ => 2
  | .lapsed => 3

def InquiryKind.code : InquiryKind → Nat
  | .routine => 0
  | .hours => 1
  | .temps => 2
  | .faults => 3
  | .ident => 4

def InquiryKind.ofCode? : Nat → Option InquiryKind
  | 0 => some .routine
  | 1 => some .hours
  | 2 => some .temps
  | 3 => some .faults
  | 4 => some .ident
  | _ => none

/-- A holiday day rule from its code: 0 ALL_OPEN, 1 to 7 AS_DAY d, 8 ALL_CLOSED. -/
def DayRule.ofCode? (n : Nat) : Option DayRule :=
  if n = 0 then some .allOpen
  else if h : n < 8 ∧ n ≠ 0 then some (.asDay ⟨n - 1, by omega⟩)
  else if n = 8 then some .allClosed
  else none

def LinkState.code : LinkState → Nat
  | .unheard => 0
  | .live => 1
  | .suspect => 2
  | .lost => 3
  | .excluded => 4

def ParkStep.code : ParkStep → Nat
  | .unloading _ => 1
  | .declutching => 2
  | .coasting => 3
  | .stopping => 4

/-- The UNLOADING phase: 0 order phase, 1 dwell phase. -/
def UnloadPhase.code : UnloadPhase → Nat
  | .order => 0
  | .orderTaken => 0
  | .dwell => 1

def WakeStep.code : WakeStep → Nat
  | .ordered => 1
  | .settling => 2

/-- The notice source: 0 the device, 1 to 96 loads, 101 to 140 stations. -/
def Source.code : Source → Nat
  | .device => 0
  | .load n => n
  | .station i => 101 + i.val

def AlertMode.code : AlertMode → Nat
  | .notice => 0
  | .beacon => 1

def AlertMode.ofCode? : Nat → Option AlertMode
  | 0 => some .notice
  | 1 => some .beacon
  | _ => none

/-- A yes/no byte; a value other than 0 and 1 is undefined (R178). -/
def bool? : Nat → Option Bool
  | 0 => some false
  | 1 => some true
  | _ => none

/-- The reply codes in the order of the reply-code table (R170, R176). -/
inductive ReplyCode where
  | done | deferred | ignored | busy | range | conflict | notBound | wrongState | locked | notStarted | notFound
  | empty | unknown | length
deriving DecidableEq, Repr

def ReplyCode.code : ReplyCode → Nat
  | .done => 0
  | .deferred => 1
  | .ignored => 2
  | .busy => 3
  | .range => 4
  | .conflict => 5
  | .notBound => 6
  | .wrongState => 7
  | .locked => 8
  | .notStarted => 9
  | .notFound => 10
  | .empty => 11
  | .unknown => 12
  | .length => 13

/-- What a request is answered: its code, and the data after it (R170). -/
structure Answer where
  code : ReplyCode
  data : List Byte
deriving DecidableEq, Repr

/-- An answer without data. -/
def Answer.plain (c : ReplyCode) : Answer := { code := c, data := [] }

/-- The payload of a reply begins with the code (R170). -/
def Answer.payload (a : Answer) : List Byte := b8 a.code.code :: a.data

/-! ## Numbers that name things -/

/-- A number from 1 as an index from 0. -/
def index? (size n : Nat) : Option (Fin size) :=
  if h : 1 ≤ n ∧ n ≤ size then some ⟨n - 1, by omega⟩ else none

/-- A number of which 0 stands for "none": `some none`, `some (some i)`, or out of range. -/
def index0? (size n : Nat) : Option (Option (Fin size)) :=
  if n = 0 then some none else (index? size n).map some

/-- A channel number 0 to 3. -/
def channel? (n : Nat) : Option Channel := if h : n < 4 then some ⟨n, h⟩ else none

/-- The number that 0 or an index stands for in a layout. -/
def index0Code {size : Nat} : Option (Fin size) → Nat
  | none => 0
  | some i => i.val + 1

/-- The value lies within the two limits. -/
def within (lo hi n : Nat) : Bool := lo ≤ n && n ≤ hi

/-- A field marked for one kind only: within its limits for that kind, 0 for the others (R2). -/
def onlyFor (applies : Bool) (lo hi n : Nat) : Bool := if applies then within lo hi n else n == 0

/-! ## BIND LOAD (R2, R7, R177) -/

/-- The fields of a BIND LOAD payload by their offsets (R177). -/
def BindFields.ofPayload (p : List Byte) : BindFields :=
  { station := u8 p 1, channel := u8 p 2, kind := u8 p 3, feeder := u8 p 4, demand := u8 p 5, zone := u8 p 6,
    airGroup := u8 p 7, curve := u8 p 8, restFloor := u16 p 9, noiseBand := u8 p 11, weight := u8 p 12,
    idleThreshold := u16 p 13, busyThreshold := u16 p 15, idleDwell := u16 p 17, profile := u8 p 19,
    wakeAtClose := u8 p 20, wakeRank := u8 p 21, fallback := u8 p 22, stepLimit := u16 p 23, coastLimit := u16 p 25,
    unloadDwell := u16 p 27, minimumOff := u16 p 29, settleLimit := u8 p 31, adoptParked := u8 p 32,
    events := u16 p 33 }

/-- The bytes of a BIND LOAD payload from offset 1 (R177). -/
def BindFields.bytes (f : BindFields) : List Byte :=
  [b8 f.station, b8 f.channel, b8 f.kind, b8 f.feeder, b8 f.demand, b8 f.zone, b8 f.airGroup, b8 f.curve] ++
  b16 f.restFloor ++ [b8 f.noiseBand, b8 f.weight] ++ b16 f.idleThreshold ++ b16 f.busyThreshold ++
  b16 f.idleDwell ++ [b8 f.profile, b8 f.wakeAtClose, b8 f.wakeRank, b8 f.fallback] ++ b16 f.stepLimit ++
  b16 f.coastLimit ++ b16 f.unloadDwell ++ b16 f.minimumOff ++ [b8 f.settleLimit, b8 f.adoptParked] ++ b16 f.events

/-- The numeric ranges of R2, with the fields of one kind only, and the thresholds of R7 stage 1. The event enables
hold no bit above the nine kinds (R178). -/
def BindFields.numbersInRange (f : BindFields) (k : LoadKind) : Bool :=
  within 1 30 f.demand && within 0 12 f.zone && onlyFor (k == .compressor) 0 4 f.airGroup &&
  within 0 1000 f.restFloor && within 0 63 f.noiseBand && within 1 16 f.weight &&
  within 0 999 f.idleThreshold && within 1 1000 f.busyThreshold && decide (f.idleThreshold < f.busyThreshold) &&
  within 60 14400 f.idleDwell && within 1 255 f.wakeRank && within 10 600 f.stepLimit &&
  onlyFor (k == .press) 30 600 f.coastLimit && onlyFor (k == .compressor) 60 900 f.unloadDwell &&
  onlyFor (k == .compressor) 0 1800 f.minimumOff && within 5 255 f.settleLimit && decide (f.events < 512)

/-- The configuration that the fields stand for, if every field is within its range (R7 stage 1, R178). -/
def BindFields.config? (f : BindFields) : Option LoadConfig := do
  let station ← index? 40 f.station
  let channel ← channel? f.channel
  let kind ← LoadKind.ofCode? f.kind
  let feeder ← index? 4 f.feeder
  let curve ← index? 8 f.curve
  let airGroup ← index0? 4 f.airGroup
  let profile ← index0? 4 f.profile
  let wakeAtClose ← bool? f.wakeAtClose
  let fallbackWake ← bool? f.fallback
  let adoptParked ← bool? f.adoptParked
  if f.numbersInRange kind then
    some { station, channel, kind, feeder, demand := f.demand, zone := f.zone, airGroup, curve,
           restFloor := f.restFloor, noiseBand := f.noiseBand, weight := f.weight, idleThreshold := f.idleThreshold,
           busyThreshold := f.busyThreshold, idleDwell := f.idleDwell, profile, wakeAtClose, wakeRank := f.wakeRank,
           fallbackWake, stepLimit := f.stepLimit, coastLimit := f.coastLimit, unloadDwell := f.unloadDwell,
           minimumOff := f.minimumOff, settleLimit := f.settleLimit, adoptParked, events := BitVec.ofNat 9 f.events }
  else none

/-- The fields that carry a configuration, for READ LOAD (R177). -/
def LoadConfig.fields (c : LoadConfig) : BindFields :=
  { station := c.station.val + 1, channel := c.channel.val, kind := c.kind.code, feeder := c.feeder.val + 1,
    demand := c.demand, zone := c.zone, airGroup := index0Code c.airGroup, curve := c.curve.val + 1,
    restFloor := c.restFloor, noiseBand := c.noiseBand, weight := c.weight, idleThreshold := c.idleThreshold,
    busyThreshold := c.busyThreshold, idleDwell := c.idleDwell, profile := index0Code c.profile,
    wakeAtClose := c.wakeAtClose.toNat, wakeRank := c.wakeRank, fallback := c.fallbackWake.toNat,
    stepLimit := c.stepLimit, coastLimit := c.coastLimit, unloadDwell := c.unloadDwell, minimumOff := c.minimumOff,
    settleLimit := c.settleLimit, adoptParked := c.adoptParked.toNat, events := c.events.toNat }

/-! ## SET ASSENT (R140) -/

/-- The parameters of a SET ASSENT payload (R177). -/
def AssentFields.ofPayload (p : List Byte) : AssentFields :=
  { answerOpen := u8 p 0, answerClose := u8 p 1, answerTimeout := u8 p 2, requestOpen := u8 p 3,
    requestClose := u8 p 4, requestTimeout := u8 p 5, requestCheck := u8 p 6, timeoutAction := u8 p 7,
    startCount := u8 p 8, goodStep := u8 p 9, badStep := u8 p 10, lowThreshold := u8 p 11, highThreshold := u8 p 12 }

/-- The bytes of a SET ASSENT payload. -/
def AssentFields.bytes (f : AssentFields) : List Byte :=
  [b8 f.answerOpen, b8 f.answerClose, b8 f.answerTimeout, b8 f.requestOpen, b8 f.requestClose, b8 f.requestTimeout,
   b8 f.requestCheck, b8 f.timeoutAction, b8 f.startCount, b8 f.goodStep, b8 f.badStep, b8 f.lowThreshold,
   b8 f.highThreshold]

/-- The parameters that the fields stand for, if every one is within its range (R140 stage 1). Timeout action 0 is
LAPSE, 1 is STEP (R176). -/
def AssentFields.params? (f : AssentFields) : Option AssentParams := do
  let requestCheck ← bool? f.requestCheck
  let step ← bool? f.timeoutAction
  if within 0 255 f.answerOpen && within 1 63 f.answerClose && within 0 63 f.answerTimeout &&
      within 0 255 f.requestOpen && within 1 63 f.requestClose && within 0 63 f.requestTimeout &&
      within 1 15 f.startCount && within 1 4 f.goodStep && within 1 7 f.badStep && within 1 14 f.lowThreshold &&
      within (f.lowThreshold + 1) 15 f.highThreshold then
    some { answerOpen := f.answerOpen, answerClose := f.answerClose, answerTimeout := f.answerTimeout,
           requestOpen := f.requestOpen, requestClose := f.requestClose, requestTimeout := f.requestTimeout,
           requestCheck, timeoutLapse := !step, startCount := f.startCount, goodStep := f.goodStep,
           badStep := f.badStep, lowThreshold := f.lowThreshold, highThreshold := f.highThreshold }
  else none

/-! ## SET CURVE, SET PROFILE DAY -/

/-- The knots of a SET CURVE payload, two bytes each (R177). -/
def Knots.ofPayload (p : List Byte) : Knots :=
  { k1 := u16 p 1, k2 := u16 p 3, k3 := u16 p 5, k4 := u16 p 7, k5 := u16 p 9, k6 := u16 p 11, k7 := u16 p 13 }

/-- The knots as the bytes of a SET CURVE payload. -/
def Knots.bytes (k : Knots) : List Byte :=
  b16 k.k1 ++ b16 k.k2 ++ b16 k.k3 ++ b16 k.k4 ++ b16 k.k5 ++ b16 k.k6 ++ b16 k.k7

/-- Every knot is at most 1000 (R28). -/
def Knots.inRange (k : Knots) : Bool :=
  within 0 1000 k.k1 && within 0 1000 k.k2 && within 0 1000 k.k3 && within 0 1000 k.k4 && within 0 1000 k.k5 &&
  within 0 1000 k.k6 && within 0 1000 k.k7

/-- Six slot bytes, slot 0 in bit 0 of the first (R177). -/
def slotsOf (p : List Byte) (i : Nat) : SlotRow :=
  BitVec.ofNat 48 (u8 p i + u8 p (i + 1) * 2 ^ 8 + u8 p (i + 2) * 2 ^ 16 + u8 p (i + 3) * 2 ^ 24 +
    u8 p (i + 4) * 2 ^ 32 + u8 p (i + 5) * 2 ^ 40)

/-- The slots as six bytes. -/
def slotBytes (r : SlotRow) : List Byte :=
  [b8 r.toNat, b8 (r.toNat / 2 ^ 8), b8 (r.toNat / 2 ^ 16), b8 (r.toNat / 2 ^ 24), b8 (r.toNat / 2 ^ 32),
   b8 (r.toNat / 2 ^ 40)]

/-! ## Dates (R93, R94, R96) -/

/-- February has 29 days in every year of the range that is divisible by 4 (R93). -/
def daysInMonth (year month : Nat) : Nat :=
  if month = 2 then (if year % 4 = 0 then 29 else 28)
  else if month = 4 ∨ month = 6 ∨ month = 9 ∨ month = 11 then 30
  else 31

/-- A date from 2000-01-01 to 2099-12-31 (R92, R94, R96). -/
def Date.valid (d : Date) : Bool :=
  within 2000 2099 d.year && within 1 12 d.month && within 1 (daysInMonth d.year d.month) d.day

/-- The date after, with 2000-01-01 after 2099-12-31 (R93). -/
def Date.next (d : Date) : Date :=
  if d.day < daysInMonth d.year d.month then { d with day := d.day + 1 }
  else if d.month < 12 then { d with month := d.month + 1, day := 1 }
  else if d.year < 2099 then { year := d.year + 1, month := 1, day := 1 }
  else { year := 2000, month := 1, day := 1 }

/-- Days of the year before a month begins. -/
def daysBefore (year : Nat) : Nat → Nat
  | 0 => 0
  | m + 1 => daysBefore year m + (if m = 0 then 0 else daysInMonth year m)

/-- Days from 2000-01-01 to the date; every fourth year of the range, 2000 the first, has 366. -/
def Date.dayNumber (d : Date) : Nat :=
  (d.year - 2000) * 365 + (d.year - 2000 + 3) / 4 + daysBefore d.year d.month + (d.day - 1)

/-- The dates' order (R96, R98). -/
def Date.before (a b : Date) : Bool := a.dayNumber < b.dayNumber

/-- Seconds from 2000-01-01 00:00:00, across midnights and dates (R79). -/
def Stamp.absolute (t : Stamp) : Nat := t.date.dayNumber * 86400 + t.seconds

/-! ## Supervisor link frames (R165, R177) -/

/-- The start mark of a supervisor link frame (R177). -/
def linkMark : Byte := 0xA5

/-- The bytes the CRC covers: length, kind, tag and payload (R166). -/
def Frame.covered (f : Frame) : List Byte := b8 (f.payload.length + 2) :: f.kind :: f.tag :: f.payload

/-- A frame as it is sent (R165). -/
def Frame.wire (f : Frame) : List Byte := linkMark :: f.covered ++ crcBytes f.covered

/-! ## Field line frames (R179) -/

/-- The start mark of a field line frame (R179). -/
def fieldMark : Byte := 0x5A

/-- The body of the visit frame (R128, R179). -/
def Visit.body (v : Visit) : List Byte :=
  [b8 (v.station.val + 1), b8 (v.kind.code + bitValue v.notedMark 7)] ++
  match v.order with
  | none => []
  | some o => [b8 o.channel.val, b8 o.kind.code]

/-- The visit frame as it is sent (R179). -/
def Visit.wire (v : Visit) : List Byte :=
  let covered := b8 v.body.length :: v.body
  fieldMark :: covered ++ crcBytes covered

/-- A run state as a report gives it (R4, R179). -/
inductive RunState where
  | stopped | starting | running
deriving DecidableEq, Repr

/-- Reported running: RUNNING or STARTING (R4). -/
def RunState.isRunning : RunState → Bool
  | .stopped => false
  | .starting => true
  | .running => true

/-- A run state from its two bits; 3 is none (R179, R180). -/
def RunState.ofCode? : Nat → Option RunState
  | 0 => some .stopped
  | 1 => some .starting
  | 2 => some .running
  | _ => none

/-- One channel report (R4, R29, R179). The sample is absent in an inquiry reply and where the field holds no reading;
the stroke count is absent in an inquiry reply. -/
structure Report where
  run : RunState
  call : Bool
  lockout : Bool
  safeStop : Bool
  speedLow : Bool
  unloaded : Bool
  sample : Option Nat
  strokes : Option Nat
deriving DecidableEq, Repr

/-- The results of an inquiry reply (R115, R179). -/
inductive Results where
  | routine | hours (counts : List Nat) | temps (degrees : List Int) | faults (codes : List Nat)
  | ident (type level : Nat)
deriving DecidableEq, Repr

/-- An echo (R113, R179). -/
structure Echo where
  channel : Nat
  kind : OrderKind
  refused : Bool
deriving DecidableEq, Repr

/-- The content of a reply that passed every check. -/
structure Reply where
  echo : Option Echo
  restart : Bool
  reports : List Report
  results : Results
deriving DecidableEq, Repr

/-- The report of a channel status byte, with the sample and strokes given (R179). -/
def reportOf (status : Nat) (sample strokes : Option Nat) : Option Report :=
  (RunState.ofCode? (status % 4)).map fun run =>
    { run, call := bitOf status 2, lockout := bitOf status 3, safeStop := bitOf status 4,
      speedLow := bitOf status 5, unloaded := bitOf status 6, sample, strokes }

/-- A sample field: 0 to 4095 is a reading, anything else is absent (R29, R180). -/
def sampleOf (n : Nat) : Option Nat := if n < 4096 then some n else none

/-- `count` routine records of four bytes each; `none` if a run state is 3 (R179, R180). -/
def routineReports : Nat → List Byte → Option (List Report)
  | 0, _ => some []
  | count + 1, bytes => do
    let r ← reportOf (u8 bytes 0) (sampleOf (u16 bytes 1)) (some (u8 bytes 3))
    let rest ← routineReports count (bytes.drop 4)
    return r :: rest

/-- `count` status bytes of an inquiry reply (R179). -/
def inquiryReports : Nat → List Byte → Option (List Report)
  | 0, _ => some []
  | count + 1, bytes => do
    let r ← reportOf (u8 bytes 0) none none
    let rest ← inquiryReports count (bytes.drop 1)
    return r :: rest

/-- `count` run hours of two bytes each. -/
def hoursOf : Nat → List Byte → List Nat
  | 0, _ => []
  | count + 1, bytes => u16 bytes 0 :: hoursOf count (bytes.drop 2)

/-- A temperature outside -40 to +125 is stored as the limit it passes (R180). -/
def clampTemperature (t : Int) : Int := if t < -40 then -40 else if 125 < t then 125 else t

/-- `count` signed temperatures. -/
def tempsOf : Nat → List Byte → List Int
  | 0, _ => []
  | count + 1, bytes => clampTemperature (bytes.getD 0 0).toInt :: tempsOf count (bytes.drop 1)

/-- The echo of two bytes; an order kind other than 1 to 4 makes it no echo (R179, R180). -/
def echoOf (bytes : List Byte) : Option Echo :=
  (OrderKind.ofCode? (u8 bytes 1 % 16)).map fun kind =>
    { channel := u8 bytes 0, kind, refused := bitOf (u8 bytes 1) 7 }

/-- How many bytes the results of a visit kind take; a FAULTS count above 4 takes none (R179, R180). -/
def resultsLength (kind : InquiryKind) (count : Nat) (bytes : List Byte) : Option Nat :=
  match kind with
  | .routine => some 0
  | .hours => some (2 * count)
  | .temps => some count
  | .faults => if u8 bytes 0 ≤ 4 then some (1 + u8 bytes 0) else none
  | .ident => some 2

/-- The results of a visit kind (R115, R179, R180). Fault codes of 0 are dropped. -/
def resultsOf (kind : InquiryKind) (count : Nat) (bytes : List Byte) : Results :=
  match kind with
  | .routine => .routine
  | .hours => .hours (hoursOf count bytes)
  | .temps => .temps (tempsOf count bytes)
  | .faults => .faults (((bytes.drop 1).map BitVec.toNat).filter (· != 0))
  | .ident => .ident (u8 bytes 0) (u8 bytes 1)

/-- The content of a reply body after its station number, judged by R180 for the visit that was sent: `none` is a miss.
The body's length must be the one that the report count, the echo bit, the visit kind and, for FAULTS, the count byte
together imply, and the report count must be the channels fitted at sending (R108). -/
def replyOf (kind : InquiryKind) (fitted : Nat) (body : List Byte) : Option Reply :=
  let status := u8 body 1
  let count := status % 8
  let hasEcho := bitOf status 3
  let afterEcho := if hasEcho then body.drop 4 else body.drop 2
  let width := if kind = .routine then 4 else 1
  let afterReports := afterEcho.drop (count * width)
  match resultsLength kind count afterReports with
  | none => none
  | some resultBytes =>
    if body.length = 2 + (if hasEcho then 2 else 0) + count * width + resultBytes ∧ count = fitted then
      match (if kind = .routine then routineReports count afterEcho else inquiryReports count afterEcho) with
      | none => none
      | some reports =>
        some { echo := if hasEcho then echoOf (body.drop 2) else none, restart := bitOf status 4, reports,
               results := resultsOf kind count afterReports }
    else none

/-- The checks of R131 on the characters of a reply, for the station that was visited: the start mark, a length of 2 to
40, all the characters the length asks for, the CRC and the station number. It answers the body. -/
def replyBody (station : StationId) (chars : List Byte) : Option (List Byte) :=
  let length := u8 chars 1
  let body := (chars.drop 2).take length
  let covered := (chars.drop 1).take (length + 1)
  if u8 chars 0 = fieldMark.toNat ∧ within 2 40 length ∧ length + 4 ≤ chars.length ∧
      (chars.drop (length + 2)).take 2 = crcBytes covered ∧ u8 body 0 = station.val + 1 then
    some body
  else none

/-- A whole reply: the checks of the visit, then the judgement of its content (R131, R180). `none` is a miss. -/
def parseReply (v : Visit) (chars : List Byte) : Option Reply :=
  match replyBody v.station chars with
  | none => none
  | some body => replyOf v.kind v.fitted body

end Sys2Proof.Machine
end

