-- ==== Sys2Proof/Machine/Ops.lean ====
section
/-!
DEFINITION. The named operations over the plant records that every block shares: finding and changing a load, a station
or a feeder; orders and order slots (R6, R112); start units, grants and start queues (R72 to R83, R88); fan dependency
(R76, R77); wake requests (R69, R70). None of them raises an event, so they act on `Plant` alone; a grant reads the
plant clock for a compressor's minimum off (R79).
-/

namespace Sys2Proof.Machine

/-! ## Finding and changing records -/

/-- The record of a bound load; `none` for a number that is UNBOUND (R1). -/
def Plant.load? (p : Plant) (n : Nat) : Option Load := p.loads.find? (fun l => l.num == n)

/-- The load bound to a station's channel; no two bound loads share one (R7). -/
def Plant.loadAt? (p : Plant) (i : StationId) (c : Channel) : Option Load :=
  p.loads.find? (fun l => l.cfg.station == i && l.cfg.channel == c)

/-- Changes the record of one load. -/
def Plant.setLoad (n : Nat) (f : Load → Load) (p : Plant) : Plant :=
  { p with loads := p.loads.map (fun l => if l.num == n then f l else l) }

/-- Puts a record into the load table at its number's place. -/
def insertLoad (l : Load) : List Load → List Load
  | [] => [l]
  | x :: rest => if l.num < x.num then l :: x :: rest else if l.num = x.num then l :: rest else x :: insertLoad l rest

/-- Makes a record bound. -/
def Plant.bind (l : Load) (p : Plant) : Plant := { p with loads := insertLoad l p.loads }

/-- Makes a record UNBOUND (R11). -/
def Plant.unbind (n : Nat) (p : Plant) : Plant := { p with loads := p.loads.filter (fun l => l.num != n) }

/-- A station record. -/
def Plant.station (p : Plant) (i : StationId) : Station := p.stations[i]

/-- Changes a station record. -/
def Plant.setStation (i : StationId) (f : Station → Station) (p : Plant) : Plant :=
  { p with stations := p.stations.set i (f p.stations[i]) }

/-- A feeder record. -/
def Plant.feeder (p : Plant) (i : FeederId) : Feeder := p.feeders[i]

/-- Changes a feeder record. -/
def Plant.setFeeder (i : FeederId) (f : Feeder → Feeder) (p : Plant) : Plant :=
  { p with feeders := p.feeders.set i (f p.feeders[i]) }

/-- The link state of a load's station. -/
def Plant.linkOf (p : Plant) (l : Load) : LinkState := (p.station l.cfg.station).link

/-- The numbers of the loads of a station in ascending channel order (R24, R46). -/
def Plant.loadsOf (p : Plant) (i : StationId) : List Nat :=
  ([0, 1, 2, 3] : List Channel).filterMap (fun c => (p.loadAt? i c).map Load.num)

/-- The reported activity (R34). -/
def Load.reported (l : Load) : Nat := (l.a16 + 8) / 16

/-- The load is in ACTIVE, IDLING or PARK_PENDING: the states that are assessed (R35), that an air group counts (R50)
and in which a fan counts as running (R76). -/
def Load.isAssessed (l : Load) : Bool :=
  match l.state with
  | .active => true
  | .idling => true
  | .parkPending => true
  | _ => false

/-- The load is in WAKING, in either step. -/
def Load.isWaking (l : Load) : Bool :=
  match l.state with
  | .waking _ => true
  | _ => false

/-- The load is in PARKING, in any step. -/
def Load.isParking (l : Load) : Bool :=
  match l.state with
  | .parking _ => true
  | _ => false

/-- A timer of so many seconds that has just been started. -/
def Timer.start (limit : Nat) : Timer := { limit, elapsed := 0 }

/-! ## Orders and order slots (R6, R112) -/

/-- The due order of the load on a channel, as an order for the slot. -/
def Plant.waitingOrder (p : Plant) (i : StationId) (c : Channel) : Option Order :=
  (p.loadAt? i c).bind (fun l => l.due.map (fun k => { channel := c, kind := k }))

/-- The turns of R112: the channels after the last-served one, itself last. -/
def turns (c : Channel) : List Channel := [c + 1, c + 2, c + 3, c]

/-- An empty slot takes the next waiting order by turns; its channel becomes the last-served one (R112). -/
def Plant.refillSlot (i : StationId) (p : Plant) : Plant :=
  match (p.station i).slot with
  | some _ => p
  | none =>
    match (turns (p.station i).lastServed).findSome? (p.waitingOrder i) with
    | none => p
    | some o => p.setStation i (fun st => { st with slot := some o, lastServed := o.channel })

/-- Makes an order due for a load, unless its hold set contains LOCKOUT (R6). An empty slot takes it at once and its
channel becomes the last-served one; otherwise it waits in the load record (R112). -/
def Plant.makeDue (n : Nat) (k : OrderKind) (p : Plant) : Plant :=
  match p.load? n with
  | none => p
  | some l =>
    if l.hold.byLockout then p
    else
      let q := p.setLoad n (fun l => { l with due := some k })
      if (p.station l.cfg.station).slot.isNone then
        q.setStation l.cfg.station
          (fun st => { st with slot := some { channel := l.cfg.channel, kind := k }, lastServed := l.cfg.channel })
      else q

/-- Withdraws a load's due order (R6): it becomes absent, and if it sat in its station's slot the slot empties and is
refilled from the other loads of the station (R112). -/
def Plant.withdraw (n : Nat) (p : Plant) : Plant :=
  match p.load? n with
  | none => p
  | some l =>
    if l.due.isNone then p
    else
      let q := p.setLoad n (fun l => { l with due := none })
      match (p.station l.cfg.station).slot with
      | none => q
      | some o =>
        if o.channel = l.cfg.channel then
          (q.setStation l.cfg.station (fun st => { st with slot := none })).refillSlot l.cfg.station
        else q

/-- Withdraws the due order of every load of a station and leaves the slot empty, not refilled (R110, R117). -/
def Plant.dropOrders (i : StationId) (p : Plant) : Plant :=
  let q : Plant := { p with loads := p.loads.map (fun l => if l.cfg.station == i then { l with due := none } else l) }
  q.setStation i (fun st => { st with slot := none })

/-! ## The plant clock as an instant -/

/-- The reading of a set clock as a date and the seconds of the day. -/
def Clock.stamp (c : Clock) : Stamp := { date := c.date, seconds := c.seconds }

/-- A compressor's minimum off has elapsed: it is 0, the stop time is absent, or the clock has advanced by at least
that many seconds since it (R79). -/
def minimumOffElapsed (clock : Option Clock) (l : Load) : Bool :=
  l.cfg.minimumOff == 0 ||
  match l.stopTime with
  | none => true
  | some stop =>
    match clock with
    | none => false
    | some c => decide (stop.absolute + l.cfg.minimumOff ≤ c.stamp.absolute)

/-! ## Grants (R78 to R83) -/

/-- The load may be granted units: its station is LIVE, it is not locked out, it awaits no fan, and a compressor's
minimum off has elapsed (R78). -/
def Plant.eligibleLoad (clock : Option Clock) (p : Plant) (l : Load) : Bool :=
  p.linkOf l == .live && !l.hold.byLockout && !l.awaitingFan &&
  (l.cfg.kind != .compressor || minimumOffElapsed clock l)

/-- The entry is eligible (R78). -/
def Plant.eligible (clock : Option Clock) (p : Plant) (e : QueueEntry) : Bool :=
  match p.load? e.load with
  | none => false
  | some l => p.eligibleLoad clock l

/-- The start demand of an entry's load. -/
def Plant.demandOf (p : Plant) (e : QueueEntry) : Nat :=
  match p.load? e.load with
  | none => 0
  | some l => l.cfg.demand

/-- The examination of R81, from the oldest entry: the entry to be granted and the queue without it, in which each
eligible entry passed on the way has its count raised; `none` if nothing is granted, and then no count changes. -/
def pickEntry (eligible : QueueEntry → Bool) (demand : QueueEntry → Nat) (free : Nat) :
    List QueueEntry → Option (QueueEntry × List QueueEntry)
  | [] => none
  | e :: rest =>
    if eligible e then
      if demand e ≤ free then some (e, rest)
      else if e.passed < 3 then
        (pickEntry eligible demand free rest).map (fun r => (r.1, { e with passed := e.passed + 1 } :: r.2))
      else none
    else (pickEntry eligible demand free rest).map (fun r => (r.1, e :: r.2))

/-- A grant (R82): the units are taken, the entry has left the queue, the load enters WAKING in step ORDERED with
MOTOR ON due and its settle timer running, and the spacing timer is started if there is a spacing. -/
def Plant.grantTo (i : FeederId) (n : Nat) (rest : List QueueEntry) (p : Plant) : Plant :=
  match p.load? n with
  | none => p
  | some l =>
    let taken := p.setFeeder i (fun f => { f with free := f.free - l.cfg.demand, queue := rest })
    let waking := taken.setLoad n (fun l => { l with state := .waking .ordered, awaitingFan := false })
    let ordered := (waking.withdraw n).makeDue n .motorOn
    let timed := ordered.setLoad n (fun l => { l with timer := some (Timer.start l.cfg.settleLimit) })
    timed.setFeeder i
      (fun f => if f.spacing = 0 then f else { f with spacingTimer := some (Timer.start f.spacing) })

/-- Grant attempts on one feeder, one after another while a grant is made and the spacing is 0 (R81, R82). Each grant
shortens the queue, so `fuel` is the queue's length. -/
def Plant.grantLoop (clock : Option Clock) (i : FeederId) : Nat → Plant → Plant
  | 0, p => p
  | fuel + 1, p =>
    if (p.feeder i).spacingTimer.isSome then p
    else
      match pickEntry (p.eligible clock) p.demandOf (p.feeder i).free (p.feeder i).queue with
      | none => p
      | some (e, rest) =>
        if (p.feeder i).spacing = 0 then Plant.grantLoop clock i fuel (p.grantTo i e.load rest)
        else p.grantTo i e.load rest

/-- A grant attempt on a feeder (R81), with the further attempts that a spacing of 0 brings (R82). -/
def Plant.grantAttempt (clock : Option Clock) (i : FeederId) (p : Plant) : Plant :=
  p.grantLoop clock i (p.feeder i).queue.length

/-- A grant attempt on every feeder, F1 to F4 in turn (R80). -/
def Plant.grantAll (clock : Option Clock) (p : Plant) : Plant :=
  ([0, 1, 2, 3] : List FeederId).foldl (fun p i => p.grantAttempt clock i) p

/-- Start units come back to the feeder, and a grant attempt is made on it (R88). -/
def Plant.returnUnits (clock : Option Clock) (i : FeederId) (units : Nat) (p : Plant) : Plant :=
  (p.setFeeder i (fun f => { f with free := f.free + units })).grantAttempt clock i

/-- A load's entry leaves its feeder's queue without a grant; its awaiting-fan flag is cleared (R74). -/
def Plant.leaveQueue (n : Nat) (p : Plant) : Plant :=
  match p.load? n with
  | none => p
  | some l =>
    (p.setFeeder l.cfg.feeder (fun f => { f with queue := f.queue.filter (fun e => e.load != n) })).setLoad n
      (fun l => { l with awaitingFan := false })

/-! ## Fan dependency (R76, R77) and entry into ACTIVE (R38) -/

/-- A bound fan that serves a zone. -/
def servesZone (z : Nat) (l : Load) : Bool := l.cfg.kind == .fan && l.cfg.zone == z

/-- The awaiting-fan flag is cleared on every WAKE_QUEUED load of a zone (R12, R77). -/
def Plant.clearAwaiting (z : Nat) (p : Plant) : Plant :=
  { p with loads := p.loads.map (fun l =>
      if l.state == .wakeQueued && l.cfg.zone == z then { l with awaitingFan := false } else l) }

/-- A load enters ACTIVE: dwell 0, idle flag clear (R38). When it is a fan of zone 1 to 12, the awaiting-fan flags of
the zone are cleared and a grant attempt is made on each feeder (R77). -/
def Plant.enterActive (clock : Option Clock) (n : Nat) (p : Plant) : Plant :=
  let q := p.setLoad n (fun l => { l with state := .active, dwell := 0, idle := false })
  match p.load? n with
  | none => q
  | some l =>
    if l.cfg.kind = .fan ∧ l.cfg.zone ≠ 0 then (q.clearAwaiting l.cfg.zone).grantAll clock else q

/-! ## Wake requests (R69 to R76) -/

/-- Inserts a load behind those of lower or equal wake rank. -/
def insertByRank (l : Load) : List Load → List Load
  | [] => [l]
  | x :: rest => if l.cfg.wakeRank < x.cfg.wakeRank then l :: x :: rest else x :: insertByRank l rest

/-- Loads in ascending wake rank, equal ranks in the order given (R69). -/
def byRank (ls : List Load) : List Load := ls.foldl (fun acc l => insertByRank l acc) []

/-- A join without the judgement of fan dependency: steps 1 and 3 of R73. -/
def Plant.joinPlain (clock : Option Clock) (l : Load) (p : Plant) : Plant :=
  ((p.setFeeder l.cfg.feeder (fun f => { f with queue := f.queue ++ [{ load := l.num, passed := 0 }] })).setLoad l.num
    (fun l => { l with state := .wakeQueued, wakeDue := false })).grantAttempt clock l.cfg.feeder

/-- The effect of a wake request by the load's state, with what a PARKED load does given (R70). -/
def Plant.wakeBy (join : Load → Plant → Plant) (n : Nat) (p : Plant) : Plant :=
  match p.load? n with
  | none => p
  | some l =>
    match l.state with
    | .parked => join l p
    | .parking _ => p.setLoad n (fun l => { l with wakeDue := true })
    | .offline => if l.parkOwned then p.setLoad n (fun l => { l with wakeDue := true }) else p
    | _ => p

/-- A wake request whose join is not judged for fan dependency: a fan's own, or WAKE NOW with override (R71, R76). -/
def Plant.wakePlain (clock : Option Clock) (n : Nat) (p : Plant) : Plant := p.wakeBy (Plant.joinPlain clock) n

/-- The load awaits a fan when it joins: it is no fan, its zone is served, and no fan of the zone is running (R76). -/
def Plant.needsFan (p : Plant) (l : Load) : Bool :=
  l.cfg.kind != .fan && l.cfg.zone != 0 && p.loads.any (servesZone l.cfg.zone) &&
  !p.loads.any (fun f => servesZone l.cfg.zone f && f.isAssessed)

/-- A join of a load whose dependency on a fan is judged: steps 1 to 3 of R73. The dependency wakes take their whole
effect before the load's own grant attempt. -/
def Plant.joinJudged (clock : Option Clock) (l : Load) (p : Plant) : Plant :=
  let q := (p.setFeeder l.cfg.feeder
      (fun f => { f with queue := f.queue ++ [{ load := l.num, passed := 0 }] })).setLoad l.num
      (fun l => { l with state := .wakeQueued, wakeDue := false })
  let r :=
    if q.needsFan l then
      (byRank (q.loads.filter (servesZone l.cfg.zone))).foldl (fun p fan => p.wakePlain clock fan.num)
        (q.setLoad l.num (fun l => { l with awaitingFan := true }))
    else q
  r.grantAttempt clock l.cfg.feeder

/-- A wake request from any source but WAKE NOW with override (R70, R73). -/
def Plant.wake (clock : Option Clock) (n : Nat) (p : Plant) : Plant := p.wakeBy (Plant.joinJudged clock) n

/-- Wake requests for several loads, one after another, each taking its whole effect (R69). -/
def Plant.wakeAll (clock : Option Clock) (ns : List Nat) (p : Plant) : Plant :=
  ns.foldl (fun p n => p.wake clock n) p

/-- The load numbers of a wake batch: the bound loads chosen, in ascending rank, then load number (R69, R102, R152). -/
def Plant.batch (chosen : Load → Bool) (p : Plant) : List Nat := (byRank (p.loads.filter chosen)).map Load.num

end Sys2Proof.Machine
end

