-- ==== Sys2Proof/Machine/Notices.lean ====
section
/-!
DEFINITION. The notice queue, the fault count, the beacon and the alert line (R155 to R163), and the operations on the
whole state that raise events. An event is offered to the queue at the moment it is raised (R156).
-/

namespace Sys2Proof.Machine

/-- The plant-clock reading, absent while the clock is UNSET (R155). -/
def State.now (s : State) : Option Stamp := s.calendar.clock.map Clock.stamp

/-- Acts on the plant records alone. -/
def State.onPlant (f : Plant → Plant) (s : State) : State := { s with plant := f s.plant }

/-- Acts on the plant records with the plant clock at hand (R79). -/
def State.onPlantNow (f : Option Clock → Plant → Plant) (s : State) : State :=
  { s with plant := f s.calendar.clock s.plant }

/-- The record of a bound load. -/
def State.load? (s : State) (n : Nat) : Option Load := s.plant.load? n

/-- Changes one load record. -/
def State.setLoad (n : Nat) (f : Load → Load) (s : State) : State := s.onPlant (Plant.setLoad n f)

/-- A station record. -/
def State.station (s : State) (i : StationId) : Station := s.plant.station i

/-- Changes a station record. -/
def State.setStation (i : StationId) (f : Station → Station) (s : State) : State := s.onPlant (Plant.setStation i f)

/-! ## The queue (R155 to R157) -/

/-- A queued event merges into its source's notice, which keeps its place and time, or starts a notice at the tail
(R156). -/
def mergeNotice (event : Notice) : List Notice → List Notice
  | [] => [event]
  | x :: rest =>
    if x.source = event.source then
      { x with kinds := x.kinds ||| event.kinds, opened := x.opened ||| event.opened,
               closed := x.closed ||| event.closed } :: rest
    else x :: mergeNotice event rest

/-- Queues an event if its conditions hold (R156). -/
def State.offer (enabled : Bool) (event : Notice) (s : State) : State :=
  if s.alerts.enabled && enabled then
    { s with alerts := { s.alerts with queue := mergeNotice event s.alerts.queue } }
  else s

/-- Raises a load event. It is queued only if its kind is in the load's event enables (R2, R156). -/
def State.raiseLoad (n : Nat) (e : LoadEvent) (s : State) : State :=
  match s.load? n with
  | none => s
  | some l =>
    s.offer (l.cfg.events.getLsbD e.bit)
      { source := .load n, kinds := kindBit e.bit, time := s.now, opened := 0, closed := 0 }

/-- Raises a station event (R156). -/
def State.raiseStation (i : StationId) (e : StationEvent) (s : State) : State :=
  s.offer (s.alerts.stationSet.getLsbD e.bit)
    { source := .station i, kinds := kindBit e.bit, time := s.now, opened := 0, closed := 0 }

/-- Raises a device event with the profiles it opens and closes (R156, R157). -/
def State.raiseDeviceWith (opened closed : BitVec 4) (e : DeviceEvent) (s : State) : State :=
  s.offer (s.alerts.deviceSet.getLsbD e.bit)
    { source := .device, kinds := kindBit e.bit, time := s.now, opened, closed }

/-- Raises a device event that names no profile. -/
def State.raiseDevice (e : DeviceEvent) (s : State) : State := s.raiseDeviceWith 0 0 e

/-! ## Fault events and the beacon (R160, R161) -/

/-- A fault event: counted up to 255, the status-read mark cleared, the beacon set at the tolerance (R160). -/
def Alerts.countFault (a : Alerts) : Alerts :=
  let count := min 255 (a.faultCount + 1)
  { a with faultCount := count, statusRead := false, beacon := a.beacon || decide (a.tolerance ≤ count) }

/-- A fault event of the part (R160). -/
def State.countFault (s : State) : State := { s with alerts := s.alerts.countFault }

/-- No fault stands: no bound load is FAULTED, no station LOST, the monitor not LAPSED (R161). -/
def State.noFaultStands (s : State) : Bool :=
  !s.plant.loads.any (fun l => l.state == .faulted) && !s.plant.stations.toList.any (fun st => st.link == .lost) &&
  s.assent.state != .lapsed

/-- The evaluation of the beacon's release (R161). -/
def State.evaluateBeacon (s : State) : State :=
  if s.noFaultStands && s.alerts.statusRead then { s with alerts := { s.alerts with beacon := false } } else s

/-! ## The alert line and the pins (R159, R175) -/

/-- The alert is asserted: in NOTICE mode while a notice waits, in BEACON mode while the beacon is set (R159). -/
def Alerts.asserted (a : Alerts) : Bool :=
  match a.mode with
  | .notice => !a.queue.isEmpty
  | .beacon => a.beacon

/-- A visit frame is on the field line (R129). -/
def LinePhase.sending : LinePhase → Bool
  | .slot v => v.phase == .sending
  | _ => false

/-- The levels of the output pins. In reset and until the part leaves it they stand as R175 says; otherwise FL DE and
FL TXD follow the visit frame (R129), SLP TXD the reply (R164), and ALERT the alert (R159). -/
def State.pinLevels (s : State) : Pins :=
  if s.inReset then .reset
  else
    { slpTxd := if s.link.reply.isSome then .carrying else .high,
      flTxd := if s.sweep.line.sending then .carrying else .high,
      flDe := s.sweep.line.sending,
      alertLow := s.alerts.asserted }

/-- The pins take the levels that the state gives them, without delay (R159). Every command ends with this. -/
def State.settlePins (s : State) : State := { s with pins := s.pinLevels }

/-- What every command but the three of R175 does: while the part is held in reset nothing reaches it (R175, log entry
4), otherwise its effect is made; then the pins settle. -/
def State.perform (f : State → State) (s : State) : Host.Outcome State Fault Refusal :=
  .next (if s.inReset then s else f s).settlePins

end Sys2Proof.Machine
end

