-- ==== Sys2Proof/Machine/Assessment.lean ====
section
/-!
DEFINITION. The activity assessor: the arithmetic of a sample (R31 to R34), the idle flag (R35, R36), press strokes
(R37), and the dwell and sample age at a seconds event (R30, R39).
-/

namespace Sys2Proof.Machine

/-! ## The arithmetic stages -/

/-- Knot K0 to K8 of a curve: K0 and K8 are fixed (R27). -/
def Knots.knot (k : Knots) : Nat → Nat
  | 0 => 0
  | 1 => k.k1
  | 2 => k.k2
  | 3 => k.k3
  | 4 => k.k4
  | 5 => k.k5
  | 6 => k.k6
  | 7 => k.k7
  | _ => 1000

/-- Stage 1: the level of a raw sample, K(s) + floor((P + 256) / 512) (R31). Integer division by a positive number
rounds towards minus infinity. -/
def level (k : Knots) (raw : Nat) : Nat :=
  let s := raw / 512
  let f : Int := raw - 512 * s
  let delta : Int := (k.knot (s + 1) : Int) - k.knot s
  ((k.knot s : Int) + (delta * f + 256) / 512).toNat

/-- Stage 2: the sample activity is what the level has above rest floor and noise band, and 0 otherwise (R32). -/
def sampleActivity (restFloor noiseBand lvl : Nat) : Nat := lvl - (restFloor + noiseBand)

/-- A sixteenth rounded to the nearest whole number, an exact half away from zero (R33). -/
def roundSixteenth (x : Int) : Int := if 0 ≤ x then (x + 8) / 16 else -((-x + 8) / 16)

/-- Stage 3: the smoothed activity moves towards sixteen times the sample activity (R33). -/
def smooth (a16 activity weight : Nat) : Nat :=
  ((a16 : Int) + roundSixteenth ((16 * (activity : Int) - a16) * weight)).toNat

/-- Stages 1 to 3 for a load and its curve (R31 to R33). -/
def Load.sampled (k : Knots) (raw : Nat) (l : Load) : Nat :=
  smooth l.a16 (sampleActivity l.cfg.restFloor l.cfg.noiseBand (level k raw)) l.cfg.weight

/-! ## Idleness -/

/-- The idle flag as R35 judges it on the reported activity: set at or below the idle threshold, cleared at or above the
busy threshold, kept between them. -/
def Load.judgedIdle (l : Load) : Bool :=
  if l.reported ≤ l.cfg.idleThreshold then true
  else if l.cfg.busyThreshold ≤ l.reported then false
  else l.idle

/-- The move that a change of the idle flag makes (R36). -/
def Plant.moveByIdle (clock : Option Clock) (n : Nat) (p : Plant) : Plant :=
  match p.load? n with
  | none => p
  | some l =>
    if l.judgedIdle = l.idle then p
    else if l.judgedIdle then
      if l.state = .active then p.setLoad n (fun l => { l with idle := true, state := .idling, dwell := 0 })
      else p.setLoad n (fun l => { l with idle := true })
    else
      match l.state with
      | .idling => p.enterActive clock n
      | .parkPending => if l.manual then p.setLoad n (fun l => { l with idle := false }) else p.enterActive clock n
      | _ => p.setLoad n (fun l => { l with idle := false })

/-- A valid sample (R29): stages 1 to 3, sample age 0, sample time the clock reading; then, in an assessed state, the
judgement of R35 and R36. -/
def Plant.takeSample (clock : Option Clock) (n raw : Nat) (p : Plant) : Plant :=
  match p.load? n with
  | none => p
  | some l =>
    let q := p.setLoad n (fun l =>
      { l with a16 := l.sampled p.curves[l.cfg.curve] raw, sampleAge := some 0, sampleTime := clock.map Clock.stamp })
    if l.isAssessed then q.moveByIdle clock n else q

/-- A press stroke count above 0 in an assessed state: idle flag and dwell are cleared and the load is ACTIVE (R37). -/
def Plant.takeStrokes (clock : Option Clock) (n strokes : Nat) (p : Plant) : Plant :=
  match p.load? n with
  | none => p
  | some l =>
    if l.cfg.kind = .press ∧ l.isAssessed ∧ 0 < strokes then
      if l.state = .active then p.setLoad n (fun l => { l with idle := false, dwell := 0 })
      else (p.setLoad n (fun l => { l with manual := false })).enterActive clock n
    else p

/-- The latest flags a report leaves: safe-stop and speed-low for a press, unloaded for a compressor (R5). -/
def Load.keepFlags (r : Report) (l : Load) : Load :=
  match l.cfg.kind with
  | .press => { l with latest := { l.latest with safeStop := r.safeStop, speedLow := r.speedLow } }
  | .compressor => { l with latest := { l.latest with unloaded := r.unloaded } }
  | _ => l

/-- Step 3 of the report handling: the sample, the strokes after it, and the latest flags (R5, R29, R37). -/
def Plant.assess (clock : Option Clock) (n : Nat) (r : Report) (p : Plant) : Plant :=
  let sampled := match r.sample with
    | none => p
    | some raw => p.takeSample clock n raw
  let stroked := match r.strokes with
    | none => sampled
    | some k => sampled.takeStrokes clock n k
  stroked.setLoad n (Load.keepFlags r)

/-! ## The seconds event -/

/-- The sample age one second on; it stays at 31 (R30). -/
def Load.ageSample (l : Load) : Load := { l with sampleAge := l.sampleAge.map (fun a => min 31 (a + 1)) }

/-- The load's latest sample is fresh: the age is present and at most 30 (R30). -/
def Load.isFresh (l : Load) : Bool :=
  match l.sampleAge with
  | none => false
  | some a => a ≤ 30

/-- One second of dwell: an IDLING load with a fresh sample counts it, and at the idle dwell enters PARK_PENDING with
its manual flag clear (R39). -/
def Load.countDwell (l : Load) : Load :=
  if l.state = .idling ∧ l.isFresh then
    if l.cfg.idleDwell ≤ l.dwell + 1 then
      { l with dwell := l.cfg.idleDwell, state := .parkPending, manual := false }
    else { l with dwell := l.dwell + 1 }
  else l

/-- One second more on a running timer (log entry 5). -/
def Timer.tick (t : Timer) : Timer := { t with elapsed := t.elapsed + 1 }

/-- The seconds event for every load: timers and sample ages (R30). -/
def Plant.ageAll (p : Plant) : Plant :=
  ([0, 1, 2, 3] : List FeederId).foldl
    (fun p i => p.setFeeder i (fun f => { f with spacingTimer := f.spacingTimer.map Timer.tick }))
    { p with loads := p.loads.map (fun l => { l.ageSample with timer := l.timer.map Timer.tick }) }

/-- The seconds event for the dwell of every load (R39). -/
def Plant.dwellAll (p : Plant) : Plant := { p with loads := p.loads.map Load.countDwell }

end Sys2Proof.Machine
end

