-- ==== Sys2Proof/Machine/LoadControl.lean ====
section
/-!
DEFINITION. Load control: entry into FAULTED (R22) and PARKED (R63), the gate check (R46 to R51), the park sequence (R54
to R62), the wake sequence (R84 to R86), adoption (R13), the run state of a report (R15 to R18), holds and edges (R19,
R21), and the loss of a load's station (R24).
-/

namespace Sys2Proof.Machine

/-! ## Entries -/

/-- A load leaves WAKING: its units go back to its feeder and a grant attempt is made (R88). -/
def State.returnUnits (l : Load) (s : State) : State :=
  s.onPlantNow (fun c => Plant.returnUnits c l.cfg.feeder l.cfg.demand)

/-- A load enters ACTIVE (R38, R77). -/
def State.enterActive (n : Nat) (s : State) : State := s.onPlantNow (fun c => Plant.enterActive c n)

/-- Withdraws a load's due order (R6). -/
def State.withdraw (n : Nat) (s : State) : State := s.onPlant (Plant.withdraw n)

/-- Makes an order due for a load (R6, R112). -/
def State.makeDue (n : Nat) (k : OrderKind) (s : State) : State := s.onPlant (Plant.makeDue n k)

/-- A wake request (R70). -/
def State.wake (n : Nat) (s : State) : State := s.onPlantNow (fun c => Plant.wake c n)

/-- A load enters FAULTED from PARKING or WAKING (R22): timer, order and step end, manual and wake-due are cleared, the
event is raised and counted, and a load that leaves WAKING returns its units. -/
def State.enterFaulted (n : Nat) (s : State) : State :=
  match s.load? n with
  | none => s
  | some l =>
    let faulted := s.setLoad n (fun l => { l with state := .faulted, timer := none, manual := false, wakeDue := false })
    let raised := ((faulted.withdraw n).raiseLoad n .faulted).countFault
    if l.isWaking then raised.returnUnits l else raised

/-- A load enters PARKED from PARKING (R62, R63): it is park-owned, a compressor's stop time is recorded, PARKED is
raised, and a pending wake is requested at once. -/
def State.enterParked (n : Nat) (s : State) : State :=
  match s.load? n with
  | none => s
  | some l =>
    let parked := s.setLoad n (fun l =>
      { l with state := .parked, timer := none, parkOwned := true, manual := false,
               stopTime := if l.cfg.kind = .compressor then s.now else l.stopTime })
    let raised := (parked.withdraw n).raiseLoad n .parked
    if l.wakeDue then raised.wake n else raised

/-! ## The gate check (R46 to R51) -/

/-- How many other compressors of an air group are in ACTIVE, IDLING or PARK_PENDING (R50). -/
def Plant.groupCount (p : Plant) (g : GroupId) (n : Nat) : Nat :=
  (p.loads.filter (fun x => x.num != n && x.cfg.kind == .compressor && x.cfg.airGroup == some g && x.isAssessed)).length

/-- Every other bound non-fan load of a zone is in PARKED or STOPPED (R51). -/
def Plant.zoneAtRest (p : Plant) (z n : Nat) : Bool :=
  p.loads.all (fun x => x.num == n || x.cfg.kind == .fan || x.cfg.zone != z || x.state == .parked || x.state == .stopped)

/-- Gate 5, by the kind of the load (R49, R50, R51). The press's safe-stop flag is the one of this reply's report, which
the latest flags hold (R5). -/
def Plant.kindGate (p : Plant) (l : Load) : Bool :=
  match l.cfg.kind with
  | .press => l.latest.safeStop
  | .compressor =>
    match l.cfg.airGroup with
    | none => true
    | some g => p.groups[g] ≤ p.groupCount g l.num
  | .fan => l.cfg.zone == 0 || p.zoneAtRest l.cfg.zone l.num
  | .auxiliary => true

/-- Gate 3: the load's profile is OPEN, or the load is manual (R48). -/
def Calendar.gate (c : Calendar) (l : Load) : Bool :=
  l.manual ||
  match l.cfg.profile with
  | none => false
  | some p => c.held[p]

/-- The gate check: all five gates hold together (R47). -/
def State.gatesHold (l : Load) (s : State) : Bool :=
  !(l.hold.byCall || l.hold.byHost || l.hold.byLockout) && s.assent.permit && s.calendar.gate l &&
  s.plant.linkOf l == .live && s.plant.kindGate l

/-- The first park step of a kind (R54). -/
def LoadKind.firstStep : LoadKind → ParkStep
  | .press => .declutching
  | .compressor => .unloading .order
  | .fan => .stopping
  | .auxiliary => .stopping

/-- The order a park step issues (R55 to R61). -/
def ParkStep.order? : ParkStep → Option OrderKind
  | .declutching => some .declutch
  | .unloading .order => some .unload
  | .unloading .orderTaken => none
  | .unloading .dwell => none
  | .coasting => none
  | .stopping => some .motorOff

/-- The limit that times a park step: the coast limit for COASTING, the unload dwell for the dwell phase, the step limit
for the others (R55, R57, R58). -/
def LoadConfig.limitOf (c : LoadConfig) : ParkStep → Nat
  | .coasting => c.coastLimit
  | .unloading .dwell => c.unloadDwell
  | _ => c.stepLimit

/-- A park step begins: its timer is started, and the order it issues is made due (R55 to R61). -/
def State.beginStep (n : Nat) (step : ParkStep) (s : State) : State :=
  let begun := s.setLoad n (fun l =>
    { l with state := .parking step, timer := some (Timer.start (l.cfg.limitOf step)) })
  match step.order? with
  | none => begun
  | some k => begun.makeDue n k

/-- A gate check of one load: a PARK_PENDING load whose gates hold enters PARKING (R46, R54). -/
def State.gateCheck (n : Nat) (s : State) : State :=
  match s.load? n with
  | none => s
  | some l =>
    if l.state = .parkPending ∧ s.gatesHold l then s.beginStep n l.cfg.kind.firstStep else s

/-- The gate checks of a reply: the station's loads in ascending channel order, each reading the state the one before
left (R46, R52). -/
def State.gateChecks (i : StationId) (s : State) : State :=
  (s.plant.loadsOf i).foldl (fun s n => s.gateCheck n) s

/-! ## The park sequence (R55 to R62) -/

/-- A compressor in its dwell phase has taken load again: the sequence is abandoned (R60). -/
def State.abandonReload (n : Nat) (s : State) : State :=
  let cleared := s.setLoad n (fun l => { l with timer := none, manual := false, wakeDue := false })
  ((cleared.withdraw n).enterActive n).raiseLoad n .parkAborted

/-- A report for a load in PARKING (R56 to R62). -/
def State.parkingReport (n : Nat) (step : ParkStep) (r : Report) (s : State) : State :=
  if r.run.isRunning then
    match step with
    | .declutching => s
    | .coasting => if r.speedLow then s.beginStep n .stopping else s
    | .unloading .order => s
    | .unloading .orderTaken => if r.unloaded then s.beginStep n (.unloading .dwell) else s
    | .unloading .dwell => if r.unloaded then s else s.abandonReload n
    | .stopping => s
  else s.enterParked n

/-- The echo TAKEN for the order of a park step (R56, R58, R61). -/
def State.parkTaken (n : Nat) (step : ParkStep) (k : OrderKind) (s : State) : State :=
  match step, k with
  | .declutching, .declutch => s.beginStep n .coasting
  | .unloading .order, .unload => s.setLoad n (fun l => { l with state := .parking (.unloading .orderTaken) })
  | _, _ => s

/-! ## The wake sequence (R84 to R86) -/

/-- A report for a load in WAKING: RUNNING brings it into ACTIVE (R85). The settle timer is cancelled, a MOTOR ON still
due is withdrawn, the units are returned before the fan clearing of R77, park-owned is cleared and WOKEN is raised. -/
def State.wakingReport (n : Nat) (l : Load) (r : Report) (s : State) : State :=
  if r.run = .running then
    let left := s.setLoad n (fun l =>
      { l with state := .active, dwell := 0, idle := false, timer := none, parkOwned := false })
    (((left.withdraw n).returnUnits l).enterActive n).raiseLoad n .woken
  else s

/-- An echo's result is passed to the load whose due order it ended (R55, R84, R113). In PARKED and WAKE_QUEUED the
order was a MOTOR OFF issued again after a station restart, and the load keeps its state. -/
def State.passEcho (n : Nat) (k : OrderKind) (refused : Bool) (s : State) : State :=
  match s.load? n with
  | none => s
  | some l =>
    match l.state with
    | .parking step => if refused then s.enterFaulted n else s.parkTaken n step k
    | .waking step =>
      if refused then s.enterFaulted n
      else if step = .ordered ∧ k = .motorOn then s.setLoad n (fun l => { l with state := .waking .settling })
      else s
    | _ => s

/-- The settle timer expires in WAKING (R86): on a station that is LIVE or SUSPECT the load is FAULTED; otherwise it
goes to OFFLINE with park-owned set and wake-due clear, and OFFLINE is raised. -/
def State.settleExpired (n : Nat) (s : State) : State :=
  match s.load? n with
  | none => s
  | some l =>
    if s.plant.linkOf l = .live ∨ s.plant.linkOf l = .suspect then s.enterFaulted n
    else
      let offline := s.setLoad n (fun l =>
        { l with state := .offline, timer := none, parkOwned := true, wakeDue := false })
      ((offline.withdraw n).returnUnits l).raiseLoad n .offline

/-! ## Adoption (R13) -/

/-- How a load came to be adopted: by a report for an OFFLINE load, or in a station restart, where a load that comes out
PARKED has its MOTOR OFF issued again, and one whose wake the restart interrupted is requested again (R87, R117). -/
inductive Adoption where
  | plain | restarted | interrupted
deriving DecidableEq, Repr

/-- A load enters PARKED by adoption (R13, R14, R87, R117): after a restart MOTOR OFF is made due; then the wake request
of a wake-due flag or of an interrupted wake is made at once. -/
def State.adoptParked (n : Nat) (how : Adoption) (l : Load) (s : State) : State :=
  let parked := s.setLoad n (fun l =>
    { l with state := .parked, parkOwned := true, cfg := { l.cfg with adoptParked := l.cfg.adoptParked && l.parkOwned } })
  let ordered := if how = .plain then parked else parked.makeDue n .motorOff
  if l.wakeDue ∨ how = .interrupted then ordered.wake n else ordered

/-- Adoption of an OFFLINE load by its report (R13). -/
def State.adopt (n : Nat) (how : Adoption) (r : Report) (s : State) : State :=
  match s.load? n with
  | none => s
  | some l =>
    if r.run.isRunning then
      let active := (s.setLoad n (fun l => { l with wakeDue := false, parkOwned := false })).enterActive n
      if l.parkOwned then active.raiseLoad n .localStart else active
    else if l.parkOwned ∨ l.cfg.adoptParked then s.adoptParked n how l
    else s.setLoad n (fun l => { l with state := .stopped, wakeDue := false, dwell := 0 })

/-! ## Running and stopped reports (R15 to R18) -/

/-- A running load is found stopped (R15). -/
def State.stoppedAtMachine (n : Nat) (s : State) : State :=
  (s.setLoad n (fun l => { l with state := .stopped, manual := false, dwell := 0 })).raiseLoad n .stoppedExt

/-- A PARKED load is found running: a local start (R17). -/
def State.localStart (n : Nat) (s : State) : State :=
  let cleared := s.setLoad n (fun l => { l with parkOwned := false, wakeDue := false })
  ((cleared.withdraw n).enterActive n).raiseLoad n .localStart

/-- A WAKE_QUEUED load is found running: its entry leaves the queue, and it is a local start (R18). A MOTOR OFF issued
again after a station restart is withdrawn by the local start (R117, log entry 13). -/
def State.queuedLocalStart (n : Nat) (s : State) : State :=
  let left := (s.onPlant (Plant.leaveQueue n)).setLoad n (fun l => { l with parkOwned := false })
  ((left.withdraw n).enterActive n).raiseLoad n .localStart

/-- Step 2 of the report handling: the run state is applied by the load's state (R5). -/
def State.applyRunState (n : Nat) (how : Adoption) (r : Report) (s : State) : State :=
  match s.load? n with
  | none => s
  | some l =>
    match l.state with
    | .offline => s.adopt n how r
    | .active => if r.run.isRunning then s else s.stoppedAtMachine n
    | .idling => if r.run.isRunning then s else s.stoppedAtMachine n
    | .parkPending => if r.run.isRunning then s else s.stoppedAtMachine n
    | .stopped => if r.run.isRunning then s.enterActive n else s
    | .parked => if r.run.isRunning then s.localStart n else s
    | .wakeQueued => if r.run.isRunning then s.queuedLocalStart n else s
    | .parking step => s.parkingReport n step r
    | .waking _ => s.wakingReport n l r
    | .faulted => s

/-! ## Holds and edges (R19, R21) -/

/-- LOCKOUT has been added to a load's hold set (R21). A due order is withdrawn; a park sequence is abandoned, and the
load follows the run state of the same report. -/
def State.lockoutAdded (n : Nat) (r : Report) (s : State) : State :=
  match s.load? n with
  | none => s
  | some l =>
    let withdrawn := s.withdraw n
    if l.isParking then
      let cleared := withdrawn.setLoad n (fun l => { l with timer := none, manual := false, wakeDue := false })
      let moved :=
        if r.run.isRunning then cleared.enterActive n
        else cleared.setLoad n (fun l => { l with state := .stopped, dwell := 0 })
      moved.raiseLoad n .parkAborted
    else withdrawn

/-- Step 1 of the report handling: LOCAL and LOCKOUT follow the flags; then a call edge (its wake request takes its
whole effect, R181) and a lockout edge have their effects (R19). The station's last values are given. -/
def State.applyHolds (n : Nat) (lastCall lastLockout : Bool) (r : Report) (s : State) : State :=
  let held := s.setLoad n (fun l => { l with hold := { l.hold with byCall := r.call, byLockout := r.lockout } })
  let called :=
    if r.call && !lastCall then (held.raiseLoad n .callOn).wake n
    else if !r.call && lastCall then held.raiseLoad n .callOff
    else held
  if r.lockout && !lastLockout then called.lockoutAdded n r
  else if !r.lockout && lastLockout then
    match called.load? n with
    | none => called
    | some l => called.onPlantNow (fun c => Plant.grantAttempt c l.cfg.feeder)
  else called

/-- A channel report for a bound load (R5): holds, run state, assessment. -/
def State.takeReport (n : Nat) (how : Adoption) (lastCall lastLockout : Bool) (r : Report) (s : State) : State :=
  ((s.applyHolds n lastCall lastLockout r).applyRunState n how r).onPlantNow (fun c => Plant.assess c n r)

/-! ## Loss of the station (R24) -/

/-- One load of a station that has entered LOST or EXCLUDED (R24). Its due order has already been withdrawn (R110). -/
def State.loseStation (n : Nat) (s : State) : State :=
  match s.load? n with
  | none => s
  | some l =>
    match l.state with
    | .offline => s
    | .faulted => s
    | .waking _ => s
    | .wakeQueued =>
      ((s.onPlant (Plant.leaveQueue n)).setLoad n (fun l => { l with state := .offline, wakeDue := true })).raiseLoad n
        .offline
    | .parking _ =>
      (s.setLoad n (fun l =>
        { l with state := .offline, timer := none, parkOwned := false, manual := false, wakeDue := false })).raiseLoad n
        .offline
    | _ => (s.setLoad n (fun l => { l with state := .offline, manual := false })).raiseLoad n .offline

end Sys2Proof.Machine
end

