-- ==== Sys2Proof/Machine/Stations.lean ====
section
/-!
DEFINITION. The station table: misses and loss (R109, R110), the judgement of a round start (R107), and a valid reply
in its five steps (R108): link health, the echo (R113), inquiries (R114, R115), the restart flag (R117, R118) and the
channel reports (R116).
-/

namespace Sys2Proof.Machine

/-- The stations in ascending order of their numbers. -/
def stationIds : List StationId :=
  [0, 1, 2, 3, 4, 5, 6, 7, 8, 9, 10, 11, 12, 13, 14, 15, 16, 17, 18, 19, 20, 21, 22, 23, 24, 25, 26, 27, 28, 29, 30,
   31, 32, 33, 34, 35, 36, 37, 38, 39]

/-- The channels in ascending order. -/
def channelIds : List Channel := [0, 1, 2, 3]

/-- Changes the round flags (R132). -/
def State.flagRound (f : RoundFlags → RoundFlags) (s : State) : State :=
  { s with sweep := { s.sweep with flags := f s.sweep.flags } }

/-! ## Misses, loss and exclusion (R107, R109, R110) -/

/-- What entries into LOST and EXCLUDED share (R110): the due orders of the station's loads are withdrawn with its slot,
restart-noted is cleared, and the loads are moved in ascending channel order (R24). -/
def State.dropStation (i : StationId) (s : State) : State :=
  let dropped := (s.onPlant (Plant.dropOrders i)).setStation i (fun st => { st with restartNoted := false })
  (dropped.plant.loadsOf i).foldl (fun s n => s.loseStation n) dropped

/-- A station has entered LOST (R110). -/
def State.stationLost (i : StationId) (s : State) : State :=
  (((s.raiseStation i .lost).countFault).flagRound (fun f => { f with newLoss := true })).dropStation i

/-- The link state after a miss that brings the miss count to `count` (R109). -/
def LinkState.afterMiss (count : Nat) : LinkState → LinkState
  | .live => if count < 3 then .suspect else .lost
  | .suspect => if count < 3 then .suspect else .lost
  | .unheard => if count < 3 then .unheard else .lost
  | .lost => .lost
  | .excluded => .excluded

/-- A miss of a station (R109). -/
def State.miss (i : StationId) (s : State) : State :=
  let before := s.station i
  let count := min 7 (before.misses + 1)
  let after := before.link.afterMiss count
  let missed := (s.setStation i (fun st => { st with misses := count, link := after })).flagRound
    (fun f => { f with anyMiss := true })
  if after = .lost ∧ before.link ≠ .lost then missed.stationLost i else missed

/-- A station enters EXCLUDED (R107, R110). When it leaves LOST by this, the beacon's release is evaluated (R161). -/
def State.exclude (i : StationId) (s : State) : State :=
  let excluded := (s.setStation i (fun st => { st with link := .excluded })).dropStation i
  if (s.station i).link = .lost then excluded.evaluateBeacon else excluded

/-- The judgement of one station at a round start against the last station in force (R107). The round start takes the
stations in ascending order (log entry 35). -/
def State.judgeStation (i : StationId) (s : State) : State :=
  let st := s.station i
  if st.enabled ∧ i.val < s.sweep.lastStation then
    if st.link = .excluded then s.setStation i (fun st => { st with link := .unheard, misses := 0 }) else s
  else if st.link = .excluded then s
  else s.exclude i

/-! ## Step 1 of a valid reply: link health (R108) -/

/-- The station has been heard: LIVE with miss count 0, BACK from LOST or UNHEARD, the beacon's release on leaving LOST
(R161), and a grant attempt on every feeder on entering LIVE (R80). -/
def State.heard (i : StationId) (s : State) : State :=
  let before := (s.station i).link
  let live := s.setStation i (fun st => { st with link := .live, misses := 0 })
  let back := if before = .lost ∨ before = .unheard then live.raiseStation i .back else live
  let released := if before = .lost then back.evaluateBeacon else back
  if before = .live then released else released.onPlantNow Plant.grantAll

/-! ## Step 2: the echo (R113) -/

/-- An echo that matches the slot's order ends it: the slot empties, the due order becomes absent, the result is passed
to the load, and the slot is refilled. Any other echo is ignored. -/
def State.takeEcho (i : StationId) (e : Echo) (s : State) : State :=
  match (s.station i).slot with
  | none => s
  | some o =>
    if o.channel.val = e.channel ∧ o.kind = e.kind then
      let emptied := s.setStation i (fun st => { st with slot := none })
      match s.plant.loadAt? i o.channel with
      | none => emptied.onPlant (Plant.refillSlot i)
      | some l =>
        ((emptied.setLoad l.num (fun l => { l with due := none })).passEcho l.num o.kind e.refused).onPlant
          (Plant.refillSlot i)
    else s

/-! ## Step 3: inquiries (R114, R115) -/

/-- The cycle of ROUND: HOURS, TEMPS, FAULTS, NONE, HOURS; IDENT advances to HOURS (R115). -/
def InquiryKind.following : InquiryKind → InquiryKind
  | .hours => .temps
  | .temps => .faults
  | .faults => .routine
  | .routine => .hours
  | .ident => .hours

/-- The inquiry slot after an answered inquiry visit that it has not been replaced since (R115). -/
def Station.afterInquiry (st : Station) : Station :=
  if st.round then
    if st.once ∧ st.inquiry = .faults then { st with inquiry := .routine, once := false, round := false }
    else { st with inquiry := st.inquiry.following }
  else if st.once then { st with inquiry := .routine, once := false }
  else st

/-- The inquiry slot after an answered routine visit: NONE with ROUND set advances to HOURS (R115). -/
def Station.afterRoutine (st : Station) : Station :=
  if st.round ∧ st.inquiry = .routine then { st with inquiry := .hours } else st

/-- The stored results replace the earlier ones of their kind (R115). A channel that is no longer fitted keeps none
(R106, log entry 17). -/
def Station.store (r : Results) (st : Station) : Station :=
  match r with
  | .routine => st
  | .hours counts => { st with runHours := some (counts.take st.fitted) }
  | .temps degrees => { st with temperatures := some (degrees.take st.fitted) }
  | .faults codes => { st with faultList := some codes }
  | .ident type level => { st with ident := some (type, level) }

/-- Step 3 of R108: the results of the kind that was sent are stored and INQUIRY_DONE is raised; then the slot advances,
unless SET INQUIRY has replaced it since the visit was sent (R114, R115). -/
def State.takeResults (v : Visit) (r : Results) (s : State) : State :=
  if v.kind = .routine then
    if v.inquiryReplaced then s else s.setStation v.station Station.afterRoutine
  else
    let stored := (s.setStation v.station (Station.store r)).raiseStation v.station .inquiryDone
    if v.inquiryReplaced then stored else stored.setStation v.station Station.afterInquiry

/-! ## Step 4: the restart flag (R65, R87, R117, R118) -/

/-- Step 2 of R117 for one load, by the state it was in when the restart was seen: a PARKING sequence is abandoned
(R65), a WAKING one ended with its units returned (R87). -/
def State.endSequence (l : Load) (s : State) : State :=
  match l.state with
  | .parking _ =>
    (s.setLoad l.num (fun l => { l with state := .offline, timer := none, manual := false, wakeDue := false })).raiseLoad
      l.num .parkAborted
  | .waking _ => (s.setLoad l.num (fun l => { l with state := .offline, timer := none })).returnUnits l
  | _ => s

/-- A state from which a station restart marks a load for re-adoption (R117 step 3). -/
def LoadState.isMarked : LoadState → Bool
  | .offline => true
  | .active => true
  | .idling => true
  | .parkPending => true
  | .stopped => true
  | .parked => true
  | _ => false

/-- Step 3 of R117: a marked load is handled as if it were OFFLINE, and loses its manual flag. No event is raised. -/
def Plant.markLoads (i : StationId) (p : Plant) : Plant :=
  { p with loads := p.loads.map (fun l =>
      if l.cfg.station == i && l.state.isMarked then { l with state := .offline, manual := false } else l) }

/-- The loads of a station in ascending channel order, as records. -/
def Plant.recordsOf (p : Plant) (i : StationId) : List Load := channelIds.filterMap (p.loadAt? i)

/-- A station restart: steps 1, 2, 3 and 5 of R117. In step 2 the loads are treated in ascending channel order, each with
its PARK_ABORTED event (R65) or its returned units and their grant attempt (R87): the manual names no order there, and
this one is the model's choice (log entry 34). -/
def State.restartStation (i : StationId) (s : State) : State :=
  let ended := ((s.plant.recordsOf i).foldl (fun s l => s.endSequence l) (s.onPlant (Plant.dropOrders i)))
  ((ended.onPlant (Plant.markLoads i)).setStation i (fun st => { st with restartNoted := true })).raiseStation i
    .restarted

/-- How the loads of a reply are adopted: none for a reply without a restart; otherwise the numbers of the loads whose
wake the restart interrupted (R87, R117). -/
abbrev RestartMark := Option (List Nat)

/-- How one load is adopted (R13, R87, R117). -/
def adoptionOf (mark : RestartMark) (n : Nat) : Adoption :=
  match mark with
  | none => .plain
  | some interrupted => if interrupted.contains n then .interrupted else .restarted

/-- Whether a reply's restart flag is acted on as a station restart (R117, R118). -/
def State.actsOnRestart (i : StationId) (flag : Bool) (s : State) : Bool := flag && !(s.station i).restartNoted

/-- The mark that a restart leaves for the adoption of the reply's loads. -/
def State.restartMark (i : StationId) (flag : Bool) (s : State) : RestartMark :=
  if s.actsOnRestart i flag then some (((s.plant.recordsOf i).filter Load.isWaking).map Load.num) else none

/-- Step 4 of R108: a restart is acted on, a reply without the flag clears restart-noted, and a flag that has been noted
is not acted on again (R118). -/
def State.judgeRestart (i : StationId) (flag : Bool) (s : State) : State :=
  if s.actsOnRestart i flag then s.restartStation i
  else if flag then s
  else s.setStation i (fun st => { st with restartNoted := false })

/-! ## Step 5: the channel reports (R116) -/

/-- One channel report: the station's last call and last lockout take its values, a call edge from off to on sets
NEW_CALL, and a bound load takes the report (R5, R116, R132). -/
def State.takeChannel (i : StationId) (mark : RestartMark) (c : Channel) (r : Report) (s : State) : State :=
  let lastCall := (s.station i).lastCall[c]
  let lastLockout := (s.station i).lastLockout[c]
  let kept := s.setStation i
    (fun st => { st with lastCall := st.lastCall.set c r.call, lastLockout := st.lastLockout.set c r.lockout })
  let flagged := if r.call && !lastCall then kept.flagRound (fun f => { f with newCall := true }) else kept
  match s.plant.loadAt? i c with
  | none => flagged
  | some l => flagged.takeReport l.num (adoptionOf mark l.num) lastCall lastLockout r

/-- The reports of a reply, from channel 0 upwards, for the channels that are fitted (R108). A channel that SET STATION has
taken away since the visit was sent is left out (R106, log entry 17). -/
def State.takeChannels (i : StationId) (mark : RestartMark) : List Channel → List Report → State → State
  | c :: cs, r :: rs, s =>
    State.takeChannels i mark cs rs (if c.val < (s.station i).fitted then s.takeChannel i mark c r else s)
  | _, _, s => s

/-! ## A valid reply (R108) -/

/-- A valid reply to a visit: link health, echo, inquiry, restart flag, channel reports, and then the gate checks of the
station's PARK_PENDING loads (R46). -/
def State.validReply (v : Visit) (r : Reply) (s : State) : State :=
  let i := v.station
  let heard := s.heard i
  let echoed := match r.echo with
    | none => heard
    | some e => heard.takeEcho i e
  let stored := echoed.takeResults v r.results
  ((stored.judgeRestart i r.restart).takeChannels i (stored.restartMark i r.restart) channelIds r.reports).gateChecks i

end Sys2Proof.Machine
end

