-- ==== Sys2Proof/Machine/FieldLine.lean ====
section
/-!
DEFINITION. The field line controller: rounds (R126, R127, R133, R134), visits and their slots (R128 to R131), and the
rows of the opcode table that the field line brings.
-/

namespace Sys2Proof.Machine

/-- Changes the sweep record. -/
def State.setSweep (f : Sweep → Sweep) (s : State) : State := { s with sweep := f s.sweep }

/-! ## Visits (R111, R127, R128) -/

/-- A station is visited in the round in progress: it is not EXCLUDED, and at miss count 7 only in a round whose number
is divisible by 4 (R111, R127). -/
def State.isVisited (s : State) (i : StationId) : Bool :=
  decide (i.val < s.sweep.lastStation) && (s.station i).link != .excluded &&
  ((s.station i).misses != 7 || s.sweep.roundNumber % 4 == 0)

/-- The lowest station to be visited whose index is not below `first` (R127). -/
def State.nextVisit (first : Nat) (s : State) : Option StationId :=
  stationIds.find? (fun i => decide (first ≤ i.val) && s.isVisited i)

/-- What the FLC keeps of a visit whose frame it builds now (R128). -/
def State.visitOf (s : State) (i : StationId) : Visit :=
  let st := s.station i
  { station := i, kind := st.inquiry, order := st.slot, fitted := st.fitted, notedMark := st.restartNoted,
    inquiryReplaced := false, phase := .sending }

/-- The slot of a station's visit begins, and its visit frame goes onto the line (R128, R129). -/
def State.beginVisit (i : StationId) (s : State) : State :=
  s.setSweep (fun w => { w with line := .slot (s.visitOf i) })

/-! ## Rounds (R126, R133, R134) -/

/-- A pending last station replaces the last station (R121, R126). -/
def Sweep.takePending (w : Sweep) : Sweep := { w with lastStation := w.pendingLast.getD w.lastStation, pendingLast := none }

/-- A round starts (R126): the pending last station is taken, the stations are judged (R107), the round flags are
cleared; then the first visit begins, or the round's one empty slot (R127). The stations are judged from S1 to S40, one
after another: the manual names no order there, and this one is the model's choice (log entry 35). -/
def State.startRound (s : State) : State :=
  let taken := s.setSweep Sweep.takePending
  let judged := stationIds.foldl (fun s i => s.judgeStation i) taken
  let cleared := judged.flagRound (fun _ => .clear)
  match cleared.nextVisit 0 with
  | some i => cleared.beginVisit i
  | none => cleared.setSweep (fun w => { w with line := .emptySlot })

/-- The plant activity: the sum of the reported activities in ACTIVE, IDLING and PARK_PENDING (R43). -/
def Plant.activity (p : Plant) : Nat :=
  p.loads.foldl (fun sum l => if l.isAssessed then sum + l.reported else sum) 0

/-- The parked count (R43). -/
def Plant.parkedCount (p : Plant) : Nat := (p.loads.filter (fun l => l.state == .parked)).length

/-- The mode becomes STOPPED (R121, R134): stop requested is cleared, a pending last station is taken, the line is idle,
and the round flags are clear (R136, log entry 31). -/
def Sweep.stopped (w : Sweep) : Sweep :=
  { w.takePending with mode := .stopped, stopRequested := false, flags := .clear, line := .idle }

/-- The end of the pause (R134). -/
def State.endPause (s : State) : State :=
  match s.sweep.mode with
  | .continuous => if s.sweep.stopRequested then s.setSweep Sweep.stopped else s.startRound
  | .single => (s.setSweep Sweep.stopped).raiseDevice .sweepDone
  | .stopped => s

/-- The round ends (R133): the digest is recorded, DIGEST raised, the round number advanced, and the pause begins; a
pause of 0 ends at once (R134). -/
def State.endRound (s : State) : State :=
  let recorded := s.setSweep (fun w =>
    { w with digest := { flags := w.flags, activity := s.plant.activity, parked := s.plant.parkedCount,
                         round := w.roundNumber } })
  let paused := (recorded.raiseDevice .digest).setSweep
    (fun w => { w with roundNumber := (w.roundNumber + 1) % 65536, line := .pausing })
  if paused.sweep.pause = 0 then paused.endPause else paused

/-! ## The slot (R129 to R131) -/

/-- The visit in progress moves to a phase of its slot. -/
def State.setPhase (v : Visit) (phase : SlotPhase) (s : State) : State :=
  s.setSweep (fun w => { w with line := .slot { v with phase } })

/-- A part of a reply can arrive now: the listening window is open and the reply has neither been taken nor missed
(R129, R130). -/
def Visit.listens (v : Visit) : Bool := v.phase == .listening || v.phase == .receiving

/-- The visit in progress is determined to be a miss (R131); the slot runs on. -/
def State.missVisit (v : Visit) (s : State) : State := (s.setPhase v .over).miss v.station

/-- A slot ends (R130): a visit whose reply has not ended is a miss (R131); then the next visit begins, or the round
ends. -/
def State.endSlot (s : State) : State :=
  match s.sweep.line with
  | .slot v =>
    let judged := if v.phase = .over then s else s.miss v.station
    match judged.nextVisit (v.station.val + 1) with
    | some i => judged.beginVisit i
    | none => judged.endRound
  | .emptySlot => s.endRound
  | .idle => s
  | .pausing => s

/-- The visit frame's last stop bit has ended: FL DE is released and the listening window opens (R129, R130). -/
def State.frameSent (s : State) : State :=
  match s.sweep.line with
  | .slot v => if v.phase = .sending then s.setPhase v .listening else s
  | _ => s

/-- The start bit of a reply's first character has come within the start limit (R130). -/
def State.replyBegins (s : State) : State :=
  match s.sweep.line with
  | .slot v => if v.phase = .listening then s.setPhase v .receiving else s
  | _ => s

/-- No start bit has come 30 bit-times after the window opened (R131). -/
def State.startLimitPasses (s : State) : State :=
  match s.sweep.line with
  | .slot v => if v.phase = .listening then s.missVisit v else s
  | _ => s

/-- A character of the reply has a wrong stop bit, or is not the start mark or a length in range (R131). -/
def State.replyFault (s : State) : State :=
  match s.sweep.line with
  | .slot v => if v.listens then s.missVisit v else s
  | _ => s

/-- A reply has ended within its slot (R130, R131, R180): it is handled as a valid reply, or the visit is a miss.
Characters outside the listening window, or after a reply was taken, are ignored. -/
def State.replyEnds (chars : List Byte) (s : State) : State :=
  match s.sweep.line with
  | .slot v =>
    if v.listens then
      match parseReply v chars with
      | some r => (s.setPhase v .over).validReply v r
      | none => s.missVisit v
    else s
  | _ => s

/-! ## The rows of the field line -/

/-- PAUSE_END (R134). Only a pause ends. -/
def execPauseEnd (s : State) : Host.Outcome State Fault Refusal :=
  s.perform (fun s => match s.sweep.line with
    | .pausing => s.endPause
    | _ => s)

/-- SLOT_END (R130). -/
def execSlotEnd (s : State) : Host.Outcome State Fault Refusal := s.perform State.endSlot

/-- REPLY_START_TIMEOUT (R131). -/
def execReplyStartTimeout (s : State) : Host.Outcome State Fault Refusal := s.perform State.startLimitPasses

/-- FIELD_REPLY_RECEIVED (R108, R130, R131, R180). -/
def execFieldReplyReceived (frame : List Byte) (s : State) : Host.Outcome State Fault Refusal :=
  s.perform (State.replyEnds frame)

/-- REPLY_CHARACTER_FAULT (R131). -/
def execReplyCharacterFault (s : State) : Host.Outcome State Fault Refusal := s.perform State.replyFault

/-- VISIT_FRAME_SENT (R129, R130). -/
def execVisitFrameSent (s : State) : Host.Outcome State Fault Refusal := s.perform State.frameSent

/-- REPLY_START_BIT (R130). -/
def execReplyStartBit (s : State) : Host.Outcome State Fault Refusal := s.perform State.replyBegins

end Sys2Proof.Machine
end

