-- ==== Sys2Proof/Machine/CurfewCalendar.lean ====
section
/-!
DEFINITION. The curfew calendar: the value of a profile (R99), evaluations and what they bring (R100 to R102), the
advance of the plant clock (R93, R98), the minimum-off look (R79), and the rows of the seconds event.
-/

namespace Sys2Proof.Machine

/-- Changes the calendar. -/
def State.setCalendar (f : Calendar → Calendar) (s : State) : State := { s with calendar := f s.calendar }

/-- The profiles in ascending order. -/
def profileIds : List ProfileId := [0, 1, 2, 3]

/-- The feeders in ascending order. -/
def feederIds : List FeederId := [0, 1, 2, 3]

/-! ## Profile values and evaluations (R99 to R102) -/

/-- The value of a slot in a profile's row of a day of the week, 1 to 7 (R95, R99). -/
def Calendar.slotValue (c : Calendar) (p : ProfileId) (day slot : Nat) : Bool :=
  match index? 7 day with
  | none => false
  | some d => (c.profiles[p][d]).getLsbD slot

/-- The value of a profile at the present clock reading; true is OPEN (R99). -/
def Calendar.value (c : Calendar) (p : ProfileId) : Bool :=
  match c.clock with
  | none => false
  | some k =>
    match c.holidays.find? (fun h => h.date == k.date) with
    | some h =>
      match h.rule with
      | .allOpen => true
      | .allClosed => false
      | .asDay d => c.slotValue p (d.val + 1) (k.seconds / 1800)
    | none => c.slotValue p k.dayOfWeek (k.seconds / 1800)

/-- The four values, taken together (R100). -/
def Calendar.values (c : Calendar) : Vector Bool 4 := #v[c.value 0, c.value 1, c.value 2, c.value 3]

/-- The event of one profile of an evaluation (R101, R102). -/
def State.raiseChange (before : Vector Bool 4) (p : ProfileId) (s : State) : State :=
  if before[p] = s.calendar.held[p] then s
  else if s.calendar.held[p] then s.raiseDeviceWith (profileBit p) 0 .curfewOpen
  else s.raiseDeviceWith 0 (profileBit p) .curfewClose

/-- The first part of an evaluation: the four states are taken, then the events of the changed profiles are raised in
ascending order (R100). -/
def State.takeProfiles (s : State) : State :=
  profileIds.foldl (fun t p => t.raiseChange s.calendar.held p) (s.setCalendar (fun c => { c with held := c.values }))

/-- The load belongs to the wake batch: its profile changed from OPEN to CLOSED and its wake at curfew close is yes
(R102). -/
def closedBy (before held : Vector Bool 4) (l : Load) : Bool :=
  l.cfg.wakeAtClose &&
  match l.cfg.profile with
  | none => false
  | some p => before[p] && !held[p]

/-- The wake batch of an evaluation, in the order of its requests (R69, R102). -/
def State.closeBatch (before : Vector Bool 4) (s : State) : List Nat := s.plant.batch (closedBy before s.calendar.held)

/-- Wake requests one after another (R69). -/
def State.wakeAll (ns : List Nat) (s : State) : State := s.onPlantNow (fun c => Plant.wakeAll c ns)

/-- An evaluation: the states, the events, and the merged wakes of the profiles that closed (R100 to R102). -/
def State.evaluate (s : State) : State := s.takeProfiles.wakeAll (s.takeProfiles.closeBatch s.calendar.held)

/-! ## The minimum off of queued compressors (R79) -/

/-- A WAKE_QUEUED compressor. -/
def Load.isQueuedCompressor (l : Load) : Bool := l.state == .wakeQueued && l.cfg.kind == .compressor

/-- The WAKE_QUEUED compressors whose minimum off has not elapsed. -/
def Plant.waitingOff (clock : Option Clock) (p : Plant) : List Nat :=
  (p.loads.filter (fun l => l.isQueuedCompressor && !minimumOffElapsed clock l)).map Load.num

/-- Those of the given loads that are WAKE_QUEUED compressors whose minimum off has now elapsed. -/
def Plant.offElapsed (clock : Option Clock) (waiting : List Nat) (p : Plant) : List Load :=
  p.loads.filter (fun l => waiting.contains l.num && l.isQueuedCompressor && minimumOffElapsed clock l)

/-- The minimum off elapses at this very reading: it has elapsed now, and had not a second before (R79, log entry 7). -/
def minimumOffElapses (clock : Option Clock) (l : Load) : Bool :=
  match l.stopTime, clock with
  | some stop, some c => decide (0 < l.cfg.minimumOff) && stop.absolute + l.cfg.minimumOff == c.stamp.absolute
  | _, _ => false

/-- One grant attempt on each feeder that has one of the loads, F1 to F4 (R79). -/
def Plant.attemptFor (clock : Option Clock) (ls : List Load) (p : Plant) : Plant :=
  feederIds.foldl (fun q i => if ls.any (fun l => l.cfg.feeder == i) then q.grantAttempt clock i else q) p

/-- The minimum-off look (R79), given the loads whose minimum off had not elapsed before. -/
def State.lookOff (waiting : List Nat) (s : State) : State :=
  s.onPlantNow (fun c p => p.attemptFor c (p.offElapsed c waiting))

/-- Compressor stop times that lie later than the clock reading are set to it (R79). -/
def State.adjustStopTimes (s : State) : State :=
  match s.now with
  | none => s
  | some t =>
    s.onPlant (fun p => { p with loads := p.loads.map (fun l =>
      { l with stopTime := l.stopTime.map (fun stop => if t.absolute < stop.absolute then t else stop) }) })

/-! ## The advance of the clock (R93, R98) -/

/-- The day of the week after: it goes from 7 to 1, whatever the date (R93). -/
def nextDayOfWeek (d : Nat) : Nat := if d = 7 then 1 else d + 1

/-- The clock one second on (R93). -/
def Clock.advance (k : Clock) : Clock :=
  if k.seconds = 86399 then { date := k.date.next, dayOfWeek := nextDayOfWeek k.dayOfWeek, seconds := 0 }
  else { k with seconds := k.seconds + 1 }

/-- The purge: every holiday dated before the given date is removed (R98). -/
def Calendar.purge (d : Date) (c : Calendar) : Calendar :=
  { c with holidays := c.holidays.filter (fun h => !h.date.before d) }

/-- The clock's next advance is the wrap from 2099-12-31 to 2000-01-01 (R93). -/
def Clock.isWrap (k : Clock) : Bool := k.seconds == 86399 && k.date == { year := 2099, month := 12, day := 31 }

/-- The advance of a set clock without the evaluation: the clock, the stop times at the wrap (R79), and the purge of a
midnight rollover (R98). -/
def State.advanceClock (s : State) : State :=
  match s.calendar.clock with
  | none => s
  | some k =>
    let advanced := s.setCalendar (fun c => { c with clock := some k.advance })
    let adjusted := if k.isWrap then advanced.adjustStopTimes else advanced
    if k.seconds = 86399 then adjusted.setCalendar (Calendar.purge k.advance.date) else adjusted

/-- The advance was a midnight rollover or a slot boundary, so the profile states are evaluated (R93). -/
def State.atBoundary (s : State) : Bool :=
  match s.calendar.clock with
  | none => false
  | some k => k.seconds % 1800 == 0

/-- The minimum-off look and the curfew-close wakes of one seconds event, either first (R93, log entry 9). -/
def State.lookAndWake (waiting batch : List Nat) (s : State) : State :=
  if batch.isEmpty then s.lookOff waiting
  else if (s.plant.offElapsed s.calendar.clock waiting).isEmpty then s.wakeAll batch
  else if Config.minimumOffFirst s.draws then (s.lookOff waiting).wakeAll batch
  else (s.wakeAll batch).lookOff waiting

/-- A seconds event: ages and timers (R30), the clock (R93), the evaluation (R100), the wakes and the minimum-off look
(R79, R102), and the dwell (R39). A fresh draw of free values is taken (log entries 5 and 9). -/
def State.secondPasses (s : State) : State :=
  let waiting := s.plant.waitingOff s.calendar.clock
  let advanced := (s.onPlant Plant.ageAll).advanceClock
  let evaluated := if advanced.atBoundary then advanced.takeProfiles else advanced
  let batch := if advanced.atBoundary then evaluated.closeBatch s.calendar.held else []
  let dwelt := (evaluated.lookAndWake waiting batch).onPlant Plant.dwellAll
  { dwelt with draws := dwelt.draws + 1 }

/-! ## The rows of the seconds event -/

/-- SECONDS_EVENT (R30, R39, R79, R93). -/
def execSecondsEvent (s : State) : Host.Outcome State Fault Refusal := s.perform State.secondPasses

/-- DWELL_COMPLETE (R39): the part of a seconds event that completes one load's dwell. It acts on an IDLING load with a
fresh sample whose next second of dwell is its last (log entry 7). -/
def execDwellComplete (n : Nat) (s : State) : Host.Outcome State Fault Refusal :=
  s.perform (State.setLoad n (fun l =>
    if l.state = .idling ∧ l.isFresh ∧ l.cfg.idleDwell ≤ l.dwell + 1 then l.countDwell else l))

/-- MINIMUM_OFF_ELAPSED (R79): the part of a seconds event that makes one grant attempt on each feeder with a queued
compressor whose minimum off elapses at the clock reading, which has been advanced (log entry 7). -/
def execMinimumOffElapsed (s : State) : Host.Outcome State Fault Refusal :=
  s.perform (State.onPlantNow (fun c p =>
    p.attemptFor c (p.loads.filter (fun l => l.isQueuedCompressor && minimumOffElapses c l))))

end Sys2Proof.Machine
end

