-- ==== Sys2Proof/Machine/Configuration.lean ====
section
/-!
DEFINITION. The configuration requests: each `do…` makes a request's owning checks and its effect, and answers it (R169
step 5, R178). SET ASSENT and SET ALERT stand here too. A refused request changes nothing.
-/

namespace Sys2Proof.Machine

/-- A refused request: nothing changes, and the code is answered (R169). -/
def State.refuse (c : ReplyCode) (s : State) : State × Answer := (s, .plain c)

/-- An accepted request without data. -/
def State.accept (s : State) : State × Answer := (s, .plain .done)

/-- A request that names a load (R169 steps 3 and 4): RANGE for a number outside 1 to 96, NOT_BOUND for an UNBOUND load,
and otherwise the request's own rule. -/
def State.forLoad (n : Nat) (f : Load → State × Answer) (s : State) : State × Answer :=
  if within 1 Config.loadCount n then
    match s.load? n with
    | none => s.refuse .notBound
    | some l => f l
  else s.refuse .range

/-! ## Feeders, groups, curves and stations -/

/-- SET FEEDER (R89). -/
def doSetFeeder (feeder capacity spacing : Nat) (s : State) : State × Answer :=
  match index? 4 feeder with
  | none => s.refuse .range
  | some i =>
    if ¬(within 0 60 capacity && within 0 120 spacing) then s.refuse .range
    else if s.plant.loads.any (fun l => l.cfg.feeder == i && l.isWaking) then s.refuse .busy
    else if s.plant.loads.any (fun l => l.cfg.feeder == i && decide (capacity < l.cfg.demand)) then s.refuse .conflict
    else (s.onPlant (Plant.setFeeder i (fun f => { f with capacity, free := capacity, spacing }))).accept

/-- SET GROUP (R53). -/
def doSetGroup (group minimum : Nat) (s : State) : State × Answer :=
  match index? 4 group with
  | none => s.refuse .range
  | some g =>
    if within 0 8 minimum then (s.onPlant (fun p => { p with groups := p.groups.set g minimum })).accept
    else s.refuse .range

/-- SET CURVE (R28). -/
def doSetCurve (curve : Nat) (knots : Knots) (s : State) : State × Answer :=
  match index? 8 curve with
  | none => s.refuse .range
  | some c =>
    if knots.inRange then (s.onPlant (fun p => { p with curves := p.curves.set c knots })).accept else s.refuse .range

/-- The switches of the channels below the fitted count; the others are off (R106). -/
def keepFitted (fitted : Nat) (v : Vector Bool 4) : Vector Bool 4 :=
  #v[v[0] && decide (0 < fitted), v[1] && decide (1 < fitted), v[2] && decide (2 < fitted), v[3] && decide (3 < fitted)]

/-- A station with new fields: the call, lockout and results of channels no longer fitted go (R106). -/
def Station.configure (enabled : Bool) (fitted : Nat) (st : Station) : Station :=
  { st with
    enabled, fitted, lastCall := keepFitted fitted st.lastCall, lastLockout := keepFitted fitted st.lastLockout,
    runHours := st.runHours.map (List.take fitted), temperatures := st.temperatures.map (List.take fitted) }

/-- SET STATION (R106). -/
def doSetStation (station enabled fitted : Nat) (s : State) : State × Answer :=
  match index? 40 station, bool? enabled with
  | some i, some e =>
    if ¬within 1 4 fitted then s.refuse .range
    else if s.plant.loads.any (fun l => l.cfg.station == i && decide (fitted ≤ l.cfg.channel.val)) then s.refuse .conflict
    else (s.setStation i (Station.configure e fitted)).accept
  | _, _ => s.refuse .range

/-! ## Binding (R7 to R12) -/

/-- In flight: PARKING, WAKE_QUEUED or WAKING (R7, R11). -/
def Load.inFlight (l : Load) : Bool := l.isParking || l.state == .wakeQueued || l.isWaking

/-- Stage 3 of R7: the place is taken, the channel is not fitted, or the demand is above the feeder's capacity. -/
def Plant.bindConflict (n : Nat) (c : LoadConfig) (p : Plant) : Bool :=
  p.loads.any (fun l => l.num != n && l.cfg.station == c.station && l.cfg.channel == c.channel) ||
  decide ((p.station c.station).fitted ≤ c.channel.val) || decide ((p.feeder c.feeder).capacity < c.demand)

/-- The hold set that a channel's station record gives, with HOST as given (R3, R8, R9). -/
def Plant.holdAt (p : Plant) (c : LoadConfig) (byHost : Bool) : HoldSet :=
  { byCall := (p.station c.station).lastCall[c.channel], byHost,
    byLockout := (p.station c.station).lastLockout[c.channel] }

/-- The runtime fields of a load that has just been bound to a channel (R3, R8). -/
def Load.bound (n : Nat) (c : LoadConfig) (hold : HoldSet) : Load :=
  { num := n, cfg := c, state := .offline, hold, a16 := 0, idle := false, dwell := 0, sampleTime := none,
    sampleAge := none, manual := false, wakeDue := false, parkOwned := false, due := none, timer := none,
    stopTime := none, awaitingFan := false, latest := { safeStop := false, speedLow := false, unloaded := false } }

/-- The stop time is kept for a compressor only (R9, R10). -/
def LoadConfig.keepStop (c : LoadConfig) (stop : Option Stamp) : Option Stamp :=
  if c.kind = .compressor then stop else none

/-- A bound load that moves to another station channel becomes a new load, but for HOST and a compressor's stop time
(R9). -/
def Plant.rebindElsewhere (c : LoadConfig) (l : Load) (p : Plant) : Plant :=
  (p.withdraw l.num).setLoad l.num (fun _ =>
    { Load.bound l.num c (p.holdAt c l.hold.byHost) with stopTime := c.keepStop l.stopTime })

/-- A bound load that keeps its station channel takes the new fields and keeps its state; a shortened idle dwell may end
an IDLING load's dwell (R10). -/
def Load.reconfigure (c : LoadConfig) (l : Load) : Load :=
  let dwell := min l.dwell c.idleDwell
  { l with cfg := c, dwell, stopTime := c.keepStop l.stopTime,
           state := if l.state = .idling ∧ dwell = c.idleDwell then .parkPending else l.state }

/-- The fan recheck of one zone (R12). -/
def Plant.recheckZone (clock : Option Clock) (z : Nat) (p : Plant) : Plant :=
  if p.loads.any (fun l => l.state == .wakeQueued && l.awaitingFan && l.cfg.zone == z) && !p.loads.any (servesZone z) then
    (p.clearAwaiting z).grantAll clock
  else p

/-- The fan recheck of the zones 1 to 12, after every accepted BIND LOAD or UNBIND LOAD (R12). -/
def State.recheckFans (s : State) : State :=
  s.onPlantNow (fun c p => ([1, 2, 3, 4, 5, 6, 7, 8, 9, 10, 11, 12] : List Nat).foldl (fun p z => p.recheckZone c z) p)

/-- The binding itself (R8, R9, R10). -/
def State.bindLoad (n : Nat) (c : LoadConfig) (s : State) : State :=
  match s.load? n with
  | none => s.onPlant (fun p => p.bind (Load.bound n c (p.holdAt c false)))
  | some l =>
    if l.cfg.station = c.station ∧ l.cfg.channel = c.channel then s.setLoad n (Load.reconfigure c)
    else if l.state = .faulted then (s.onPlant (Plant.rebindElsewhere c l)).evaluateBeacon
    else s.onPlant (Plant.rebindElsewhere c l)

/-- BIND LOAD (R7 to R10, R12). -/
def doBindLoad (n : Nat) (fields : BindFields) (s : State) : State × Answer :=
  if ¬within 1 Config.loadCount n then s.refuse .range
  else
    match fields.config? with
    | none => s.refuse .range
    | some c =>
      if (s.load? n).any Load.inFlight then s.refuse .busy
      else if s.plant.bindConflict n c then s.refuse .conflict
      else ((s.bindLoad n c).recheckFans).accept

/-- The unbinding itself (R11). -/
def State.unbindLoad (l : Load) (s : State) : State :=
  let gone := (s.withdraw l.num).onPlant (Plant.unbind l.num)
  if l.state = .faulted then gone.evaluateBeacon else gone

/-- UNBIND LOAD (R11, R12). -/
def doUnbindLoad (n : Nat) (s : State) : State × Answer :=
  s.forLoad n (fun l => if l.inFlight then s.refuse .busy else ((s.unbindLoad l).recheckFans).accept)

/-! ## The calendar (R95 to R97) -/

/-- SET PROFILE DAY (R95). -/
def doSetProfileDay (profile day : Nat) (slots : SlotRow) (s : State) : State × Answer :=
  match index? 4 profile, index? 7 day with
  | some p, some d =>
    ((s.setCalendar (fun c => { c with profiles := c.profiles.set p (c.profiles[p].set d slots) })).evaluate).accept
  | _, _ => s.refuse .range

/-- Puts a holiday at its date's place; an entry of that date keeps its place with the new rule (R96). -/
def insertHoliday (h : Holiday) : List Holiday → List Holiday
  | [] => [h]
  | x :: rest =>
    if x.date = h.date then h :: rest
    else if h.date.before x.date then h :: x :: rest
    else x :: insertHoliday h rest

/-- The date is the clock's date (R96, R97). -/
def State.isToday (d : Date) (s : State) : Bool := s.calendar.clock.any (fun k => k.date == d)

/-- An accepted change of the holiday list for a date (R96, R97). -/
def State.changeHolidays (d : Date) (f : List Holiday → List Holiday) (s : State) : State :=
  let changed := s.setCalendar (fun c => { c with holidays := f c.holidays })
  if s.isToday d then changed.evaluate else changed

/-- SET HOLIDAY (R96). -/
def doSetHoliday (date : Date) (rule : Nat) (s : State) : State × Answer :=
  match DayRule.ofCode? rule with
  | none => s.refuse .range
  | some r =>
    if ¬date.valid then s.refuse .range
    else if !s.calendar.holidays.any (fun h => h.date == date) &&
        decide (Config.holidayCapacity ≤ s.calendar.holidays.length) then s.refuse .conflict
    else (s.changeHolidays date (insertHoliday { date, rule := r })).accept

/-- DROP HOLIDAY (R97). -/
def doDropHoliday (date : Date) (s : State) : State × Answer :=
  if ¬date.valid then s.refuse .range
  else if s.calendar.holidays.any (fun h => h.date == date) then
    (s.changeHolidays date (List.filter (fun h => h.date != date))).accept
  else s.refuse .notFound

/-! ## The monitor, the alert and the sweep (R125, R140, R162) -/

/-- The monitor runs: AWAIT_ANSWER or AWAIT_CHALLENGE (R140). -/
def AssentState.runs : AssentState → Bool
  | .awaitAnswer _ => true
  | .awaitChallenge _ => true
  | .dormant => false
  | .lapsed => false

/-- SET ASSENT (R140). -/
def doSetAssent (fields : AssentFields) (s : State) : State × Answer :=
  match fields.params? with
  | none => s.refuse .range
  | some params =>
    if s.assent.state.runs then s.refuse .locked
    else ({ s with assent := { s.assent with params } } : State).accept

/-- The five settings are replaced together, and the beacon is set at a count that has reached the new tolerance
(R162). -/
def Alerts.configure (mode : AlertMode) (tolerance : Nat) (enabled : Bool) (stationSet : BitVec 4)
    (deviceSet : BitVec 8) (a : Alerts) : Alerts :=
  { a with mode, tolerance, enabled, stationSet, deviceSet, beacon := a.beacon || decide (tolerance ≤ a.faultCount) }

/-- SET ALERT (R162). A set with a bit above its members is undefined (R178). -/
def doSetAlert (mode tolerance enable stationSet deviceSet : Nat) (s : State) : State × Answer :=
  match AlertMode.ofCode? mode, bool? enable with
  | some m, some e =>
    if within 1 8 tolerance && within 0 15 stationSet && within 0 255 deviceSet then
      (({ s with alerts := s.alerts.configure m tolerance e (BitVec.ofNat 4 stationSet) (BitVec.ofNat 8 deviceSet) }
          : State).evaluateBeacon).accept
    else s.refuse .range
  | _, _ => s.refuse .range

/-- SET SWEEP (R125). -/
def doSetSweep (rate pause : Nat) (s : State) : State × Answer :=
  match LineRate.ofCode? rate with
  | none => s.refuse .range
  | some r =>
    if ¬within 0 255 pause then s.refuse .range
    else if s.sweep.mode ≠ .stopped then s.refuse .busy
    else (s.setSweep (fun w => { w with rate := r, pause })).accept

end Sys2Proof.Machine
end

