-- ==== Sys2Proof/Machine/Operation.lean ====
section
/-!
DEFINITION. The operation requests: the plant clock (R94), the sweep (R122 to R124), the loads (R20, R23, R66, R67, R70,
R71, R75) and inquiries (R114).
-/

namespace Sys2Proof.Machine

/-! ## The plant clock (R94) -/

/-- SET CLOCK: the fields are replaced, later stop times are adjusted, the profiles are evaluated, and queued
compressors are looked at (R79, R94, log entry 32). -/
def State.setClock (k : Clock) (s : State) : State :=
  let waiting := s.plant.waitingOff s.calendar.clock
  (((s.setCalendar (fun c => { c with clock := some k })).adjustStopTimes).evaluate).lookOff waiting

/-- SET CLOCK and its checks (R94). -/
def doSetClock (date : Date) (dayOfWeek seconds : Nat) (s : State) : State × Answer :=
  if date.valid && within 1 7 dayOfWeek && within 0 86399 seconds then (s.setClock { date, dayOfWeek, seconds }).accept
  else s.refuse .range

/-! ## The sweep (R122 to R124) -/

/-- A sweep mode that START SWEEP can name (R122). -/
def startMode? : Nat → Option SweepMode
  | 1 => some .continuous
  | 2 => some .single
  | _ => none

/-- START SWEEP (R122). -/
def doStartSweep (mode lastStation : Nat) (s : State) : State × Answer :=
  match startMode? mode with
  | none => s.refuse .range
  | some m =>
    if ¬within 1 Config.stationCount lastStation then s.refuse .range
    else
      match s.sweep.mode with
      | .stopped => ((s.setSweep (fun w => { w with mode := m, lastStation })).startRound).accept
      | .continuous =>
        if m = .continuous then (s.setSweep (fun w => { w with pendingLast := some lastStation })).accept
        else s.refuse .busy
      | .single => s.refuse .busy

/-- STOP SWEEP (R124). -/
def doStopSweep (s : State) : State × Answer :=
  if s.sweep.mode = .stopped then s.accept else (s.setSweep (fun w => { w with stopRequested := true })).accept

/-- SET LAST STATION (R123). -/
def doSetLastStation (lastStation : Nat) (s : State) : State × Answer :=
  if ¬within 1 Config.stationCount lastStation then s.refuse .range
  else if s.sweep.mode = .stopped then (s.setSweep (fun w => { w with lastStation })).accept
  else (s.setSweep (fun w => { w with pendingLast := some lastStation })).accept

/-! ## Holds (R20) -/

/-- HOLD (R20). -/
def doHold (n : Nat) (s : State) : State × Answer :=
  s.forLoad n (fun _ => (s.setLoad n (fun l => { l with hold := { l.hold with byHost := true } })).accept)

/-- RELEASE (R20). -/
def doRelease (n : Nat) (s : State) : State × Answer :=
  s.forLoad n (fun _ => (s.setLoad n (fun l => { l with hold := { l.hold with byHost := false } })).accept)

/-! ## Parking on request (R66, R67) -/

/-- PARK NOW (R66). -/
def doParkNow (n : Nat) (s : State) : State × Answer :=
  s.forLoad n (fun l =>
    if l.state = .active ∨ l.state = .idling then
      (s.setLoad n (fun l => { l with state := .parkPending, manual := true })).accept
    else s.refuse .wrongState)

/-- CANCEL PARK (R67). -/
def doCancelPark (n : Nat) (s : State) : State × Answer :=
  s.forLoad n (fun l =>
    if l.state = .parkPending then ((s.setLoad n (fun l => { l with manual := false })).enterActive n).accept
    else s.refuse .wrongState)

/-! ## Wakes on request (R70, R71, R75) and CLEAR FAULT (R23) -/

/-- What WAKE NOW is answered, by the load's state (R70). -/
def Load.wakeCode (l : Load) : ReplyCode :=
  match l.state with
  | .parked => .done
  | .wakeQueued => .done
  | .waking _ => .done
  | .parking _ => .deferred
  | .offline => if l.parkOwned then .deferred else .wrongState
  | _ => .wrongState

/-- WAKE NOW: a wake request, judged for fan dependency unless the override is given (R70, R71). -/
def doWakeNow (n override : Nat) (s : State) : State × Answer :=
  s.forLoad n (fun l =>
    match bool? override with
    | none => s.refuse .range
    | some o =>
      ((if o then s.onPlantNow (fun c => Plant.wakePlain c n) else s.wake n), .plain l.wakeCode))

/-- CANCEL WAKE (R74, R75). -/
def doCancelWake (n : Nat) (s : State) : State × Answer :=
  s.forLoad n (fun l =>
    if l.state = .wakeQueued then
      ((s.onPlant (Plant.leaveQueue n)).setLoad n (fun l => { l with state := .parked, wakeDue := false })).accept
    else s.refuse .wrongState)

/-- CLEAR FAULT (R23). The beacon's release is evaluated at the exit from FAULTED (R161). -/
def doClearFault (n : Nat) (s : State) : State × Answer :=
  s.forLoad n (fun l =>
    if l.state = .faulted then
      ((s.setLoad n (fun l => { l with state := .offline, dwell := 0, idle := false })).evaluateBeacon).accept
    else s.refuse .wrongState)

/-! ## Inquiries (R114) -/

/-- The visit in progress learns that its station's inquiry slot has been replaced (R114, log entry 16). -/
def LinePhase.replaceInquiry (i : StationId) : LinePhase → LinePhase
  | .slot v => .slot (if v.station = i then { v with inquiryReplaced := true } else v)
  | other => other

/-- SET INQUIRY (R114). The options byte holds ONCE and ROUND only (R176, R178). -/
def doSetInquiry (station kind options : Nat) (s : State) : State × Answer :=
  match index? 40 station, InquiryKind.ofCode? kind with
  | some i, some k =>
    if within 0 3 options then
      ((s.setStation i (fun st => { st with inquiry := k, once := bitOf options 0, round := bitOf options 1 })).setSweep
        (fun w => { w with line := w.line.replaceInquiry i })).accept
    else s.refuse .range
  | _, _ => s.refuse .range

end Sys2Proof.Machine
end

