-- ==== Sys2Proof/Machine/Reading.lean ====
section
/-!
DEFINITION. The reading requests: what each returns and in which layout (R42, R68, R90, R120, R138, R153, R158, R161,
R171 to R173, R177), and what READ STATUS and FETCH NOTICE change.
-/

namespace Sys2Proof.Machine

/-- An answer DONE with data and no effect. -/
def State.report (data : List Byte) (s : State) : State × Answer := (s, { code := .done, data })

/-- The remaining seconds of a timer, rounded down (R68, R90). `fraction` is the part of a second that has gone (log
entry 5). -/
def Timer.remaining (fraction : Bool) (t : Timer) : Nat := t.limit - t.elapsed - fraction.toNat

/-! ## READ LOAD (R1, R3, R42, R68, R90) -/

/-- Where a load stands in its feeder's queue, counted from 1, with its pass-over count (R90). -/
def findEntry (n : Nat) : Nat → List QueueEntry → Option (Nat × Nat)
  | _, [] => none
  | k, e :: rest => if e.load = n then some (k, e.passed) else findEntry n (k + 1) rest

/-- Whether a load's due order sits in its station's slot (0) or waits in its record (1) (R6, R176). -/
def Plant.duePosition (p : Plant) (l : Load) : Nat :=
  match (p.station l.cfg.station).slot with
  | none => 1
  | some o => if o.channel = l.cfg.channel then 0 else 1

/-- The park step of a load in PARKING. -/
def Load.parkStep? (l : Load) : Option ParkStep :=
  match l.state with
  | .parking step => some step
  | _ => none

/-- The wake step of a load in WAKING. -/
def Load.wakeStep? (l : Load) : Option WakeStep :=
  match l.state with
  | .waking step => some step
  | _ => none

/-- The phase of a load in UNLOADING (R68). -/
def Load.unloadPhase? (l : Load) : Option UnloadPhase :=
  match l.state with
  | .parking (.unloading phase) => some phase
  | _ => none

/-- The runtime fields in the order of R3, then the sample age, the UNLOADING phase, and the queue position with its
pass-over count (R177, log entry 28). -/
def Plant.runtimeBytes (p : Plant) (fraction : Bool) (l : Load) : List Byte :=
  let place := findEntry l.num 1 (p.feeder l.cfg.feeder).queue
  [b8 l.state.code] ++ optItem (l.parkStep?.map (fun x => [b8 x.code])) ++
  optItem (l.wakeStep?.map (fun x => [b8 x.code])) ++ [b8 l.hold.code] ++ b16 l.a16 ++ b16 l.reported ++
  [bBool l.idle] ++ b16 l.dwell ++ stampBytes l.sampleTime ++ [bBool l.manual, bBool l.wakeDue, bBool l.parkOwned] ++
  optItem (l.due.map (fun k => [b8 k.code, b8 (p.duePosition l)])) ++
  remainingBytes (l.timer.map (Timer.remaining fraction)) ++ stampBytes l.stopTime ++ [bBool l.awaitingFan] ++
  [b8 l.latest.code] ++ optItem (l.sampleAge.map (fun a => [b8 a])) ++
  optItem (l.unloadPhase?.map (fun x => [b8 x.code])) ++
  match place with
  | none => [0xFF, 0]
  | some (position, passed) => [b8 position, 1, b8 passed]

/-- READ LOAD: the configured fields in the BIND LOAD layout from offset 1, then the runtime fields (R177). -/
def doReadLoad (n : Nat) (s : State) : State × Answer :=
  s.forLoad n (fun l => s.report (l.cfg.fields.bytes ++ s.plant.runtimeBytes (Config.timerFraction s.draws n) l))

/-! ## READ LOADS (R171) -/

/-- One load summary (R177). -/
def Load.summary (l : Load) : List Byte :=
  [b8 l.num, b8 l.state.code] ++ b16 l.reported ++ [b8 l.hold.code, b8 l.summaryFlags]

/-- The page byte: the page index and the more flag (R177). -/
def pageByte (page : Nat) (more : Bool) : Byte := b8 (page + bitValue more 7)

/-- A page of a list, or RANGE: page 0 of an empty list is a page without items (R90, R171). -/
def pageOf {α : Type} (size page : Nat) (items : List α) : Option (List α × Bool) :=
  if page * size < items.length ∨ page = 0 then
    some ((items.drop (page * size)).take size, decide ((page + 1) * size < items.length))
  else none

/-- READ LOADS (R171). -/
def doReadLoads (page : Nat) (s : State) : State × Answer :=
  if ¬within 0 4 page then s.refuse .range
  else
    match pageOf 20 page s.plant.loads with
    | none => s.refuse .range
    | some (loads, more) => s.report (pageByte page more :: loads.flatMap Load.summary)

/-! ## READ STATION (R120) -/

/-- The indices of the fitted channels. -/
def fittedChannels (fitted : Nat) : List Channel := channelIds.filter (fun c => decide (c.val < fitted))

/-- A result of one channel in so many bytes: the stored value, or 0 where the channel has none, for bits that carry no
content are sent as 0 (R178, log entry 10). -/
def channelResult {α : Type} (encode : α → List Byte) (width : Nat) (stored : List α) (c : Channel) : List Byte :=
  match stored[c.val]? with
  | none => List.replicate width 0
  | some x => encode x

/-- The four stored results (R115, R120, R177). -/
def Station.resultBytes (st : Station) : List Byte :=
  optItem (st.runHours.map (fun hours => (fittedChannels st.fitted).flatMap (channelResult b16 2 hours))) ++
  optItem (st.temperatures.map (fun degrees =>
    (fittedChannels st.fitted).flatMap (channelResult (fun t => [bSigned t]) 1 degrees))) ++
  optItem (st.faultList.map (fun codes => b8 codes.length :: codes.map b8)) ++
  optItem (st.ident.map (fun x => [b8 x.1, b8 x.2]))

/-- The load bound to a channel, 0 when absent, and its due order that waits in its record (R120, log entry 11). -/
def Plant.channelBytes (p : Plant) (i : StationId) (c : Channel) : List Byte :=
  match p.loadAt? i c with
  | none => [0, 0]
  | some l =>
    b8 l.num :: (if p.duePosition l = 1 then optItem (l.due.map (fun k => [b8 k.code, 1])) else [0])

/-- READ STATION, in the order of R120 (log entry 11). -/
def doReadStation (station : Nat) (s : State) : State × Answer :=
  match index? 40 station with
  | none => s.refuse .range
  | some i =>
    let st := s.station i
    let fitted := fittedChannels st.fitted
    s.report (
      [bBool st.enabled, b8 st.fitted, b8 st.link.code, b8 st.misses] ++
      optItem (st.slot.map (fun o => [b8 o.channel.val, b8 o.kind.code])) ++
      [b8 st.lastServed.val, b8 st.inquiry.code, b8 st.optionsCode] ++ st.resultBytes ++
      [bBool st.restartNoted] ++ fitted.map (fun c => bBool st.lastCall[c]) ++
      fitted.map (fun c => bBool st.lastLockout[c]) ++ fitted.flatMap (s.plant.channelBytes i))

/-! ## READ FEEDER (R90) -/

/-- A queue entry as an item (R90, R177). -/
def Plant.entryItem (clock : Option Clock) (p : Plant) (e : QueueEntry) : List Byte :=
  let awaiting := (p.load? e.load).any (fun l => l.awaitingFan)
  [b8 e.load, 0, b8 e.passed, b8 (bitValue awaiting 0 + bitValue (p.eligible clock e) 1), 0, 0]

/-- A WAKING load as an item (R90, R177). -/
def Load.wakingItem (fraction : Bool) (l : Load) : List Byte :=
  [b8 l.num, 1, b8 l.cfg.demand, b8 (l.wakeStep?.elim 0 WakeStep.code)] ++
  remainingBytes (l.timer.map (Timer.remaining fraction))

/-- The item list: the queue, oldest first, then the feeder's WAKING loads in ascending number (R90). -/
def State.feederItems (i : FeederId) (s : State) : List (List Byte) :=
  (s.plant.feeder i).queue.map (s.plant.entryItem s.calendar.clock) ++
  (s.plant.loads.filter (fun l => l.cfg.feeder == i && l.isWaking)).map
    (fun l => l.wakingItem (Config.timerFraction s.draws l.num))

/-- READ FEEDER (R90). -/
def doReadFeeder (feeder page : Nat) (s : State) : State × Answer :=
  match index? 4 feeder with
  | none => s.refuse .range
  | some i =>
    if ¬within 0 5 page then s.refuse .range
    else
      match pageOf 16 page (s.feederItems i) with
      | none => s.refuse .range
      | some (items, more) =>
        let f := s.plant.feeder i
        s.report (
          [pageByte page more, b8 f.capacity, b8 f.free, b8 f.spacing] ++
          remainingBytes (f.spacingTimer.map (Timer.remaining (Config.timerFraction s.draws (100 + i.val)))) ++
          items.flatten)

/-! ## READ STATUS (R172) -/

/-- The clock in the status: its date, day of week and seconds; all 0 while UNSET (R177). -/
def clockBytes : Option Clock → List Byte
  | none => [0, 0, 0, 0, 0, 0, 0, 0]
  | some k => k.date.bytes ++ [b8 k.dayOfWeek] ++ b24 k.seconds

/-- The 30 bytes after the reply code, as they stand (R172, R177). -/
def State.statusBytes (s : State) : List Byte :=
  let w := s.sweep
  let a := s.assent
  let n := s.alerts
  [b8 w.mode.code, b8 (index0Code w.currentStation), b8 (w.pendingLast.getD 0),
   b8 (bitValue w.stopRequested 0 + 2 * w.rate.code), b8 w.pause, b8 w.digest.flags.code] ++
  b24 w.digest.activity ++ [b8 w.digest.parked] ++ b16 w.digest.round ++ clockBytes s.calendar.clock ++
  [b8 (heldCode s.calendar.held), b8 a.state.code, b8 (a.trust + bitValue a.permit 7), b8 a.flags.code, b8 a.lapses,
   b8 n.queue.length, b8 (bitValue (n.mode == .beacon) 0 + bitValue n.asserted 1 + bitValue n.beacon 2)] ++
  b16 s.link.errors ++ [b8 n.faultCount]

/-- What READ STATUS clears once the reply's content is fixed (R172). -/
def State.statusTaken (s : State) : State :=
  ({ s with
      assent := { s.assent with flags := .empty }
      link := { s.link with errors := 0 }
      alerts := { s.alerts with faultCount := 0, statusRead := true } } : State).evaluateBeacon

/-- READ STATUS (R172). -/
def doReadStatus (s : State) : State × Answer := (s.statusTaken, { code := .done, data := s.statusBytes })

/-! ## FETCH NOTICE (R158) and IDENTIFY (R173) -/

/-- A notice as FETCH NOTICE returns it, with how many remain (R158, R177). -/
def Notice.bytes (remaining : Nat) (x : Notice) : List Byte :=
  [b8 x.source.code] ++ b16 x.kinds.toNat ++ stampBytes x.time ++
  [b8 x.opened.toNat, b8 x.closed.toNat, b8 remaining]

/-- FETCH NOTICE (R158). -/
def doFetchNotice (s : State) : State × Answer :=
  match s.alerts.queue with
  | [] => s.refuse .empty
  | x :: rest => ({ s with alerts := { s.alerts with queue := rest } }, { code := .done, data := x.bytes rest.length })

/-- IDENTIFY (R173): the part code, the silicon level and the capacities. -/
def doIdentify (s : State) : State × Answer :=
  s.report (b16 Config.partCode ++
    [b8 Config.siliconLevel, b8 Config.loadCount, b8 Config.stationCount, b8 Config.feederCount, b8 Config.curveCount,
     b8 Config.profileCount, b8 Config.holidayCapacity])

end Sys2Proof.Machine
end

