-- ==== Sys2Proof/Machine/AssentMonitor.lean ====
section
/-!
DEFINITION. The assent monitor: steps and PERMIT (R150), the lapse (R151, R152), challenges (R143 to R145), answers
(R146, R147), the token (R142), the windows and their timeouts (R141, R148, R149), and the rows of the quarter-second
event.
-/

namespace Sys2Proof.Machine

/-- Changes the assent record. -/
def State.setAssent (f : Assent → Assent) (s : State) : State := { s with assent := f s.assent }

/-! ## Steps, PERMIT and the lapse (R150 to R152) -/

/-- PERMIT is judged against the thresholds (R150). -/
def State.judgePermit (s : State) : State :=
  if s.assent.permit = false ∧ s.assent.params.highThreshold ≤ s.assent.trust then
    (s.setAssent (fun a => { a with permit := true })).raiseDevice .permitOn
  else if s.assent.permit = true ∧ s.assent.trust < s.assent.params.lowThreshold then
    (s.setAssent (fun a => { a with permit := false })).raiseDevice .permitOff
  else s

/-- A good step: the count rises and stops at 15 (R150). -/
def State.goodStep (s : State) : State :=
  (s.setAssent (fun a => { a with trust := min 15 (a.trust + a.params.goodStep) })).judgePermit

/-- A bad step: the count falls and stops at 0 (R150). -/
def State.badStep (s : State) : State :=
  (s.setAssent (fun a => { a with trust := a.trust - a.params.badStep })).judgePermit

/-- A PERMIT that is set is cleared, with PERMIT_OFF (R151). -/
def State.clearPermit (s : State) : State :=
  if s.assent.permit then (s.setAssent (fun a => { a with permit := false })).raiseDevice .permitOff else s

/-- The fallback wakes of a lapse (R152). -/
def State.fallbackWakes (s : State) : State := s.wakeAll (s.plant.batch (fun l => l.cfg.fallbackWake))

/-- The lapse (R151); `byCount` when a bad step caused it. The window timer goes with the state that carries it. -/
def State.lapse (byCount : Bool) (s : State) : State :=
  let cleared := (s.setAssent (fun a => { a with trust := 0 })).clearPermit
  let lapsed := cleared.setAssent (fun a =>
    { a with state := .lapsed, flags := { a.flags with lapsedByCount := a.flags.lapsedByCount || byCount },
             lapses := min 15 (a.lapses + 1) })
  ((lapsed.raiseDevice .assentLapsed).countFault).fallbackWakes

/-- A bad step after which the monitor lapses at a count of 0 and otherwise goes on in the state given (R144 to R149). -/
def State.badStepThen (next : AssentState) (s : State) : State :=
  if s.badStep.assent.trust = 0 then s.badStep.lapse true
  else s.badStep.setAssent (fun a => { a with state := next })

/-! ## Windows (R141) -/

/-- The judgement of an elapsed count against a window. -/
inductive WindowPart where
  | early | inWindow | late
deriving DecidableEq, Repr

/-- Where the elapsed count stands in a window with open O and close delta C (R141). -/
def windowPart (opening close elapsed : Nat) : WindowPart :=
  if elapsed < opening then .early else if elapsed < opening + close then .inWindow else .late

/-- The elapsed count at which the answer window times out (R141). -/
def AssentParams.answerEnd (p : AssentParams) : Nat := p.answerOpen + p.answerClose + p.answerTimeout

/-- The elapsed count at which the request window times out (R141). -/
def AssentParams.requestEnd (p : AssentParams) : Nat := p.requestOpen + p.requestClose + p.requestTimeout

/-! ## CHALLENGE (R143 to R145) -/

/-- A reply of the monitor: the state, the trust count and PERMIT as the request has left them, and an optional item
(R153, R177). -/
def Assent.answer (a : Assent) (code : ReplyCode) (item : Option (List Byte)) : Answer :=
  { code, data := [b8 a.state.code, b8 (a.trust + bitValue a.permit 7)] ++ optItem item }

/-- The token, where the monitor is in AWAIT_ANSWER (R142, R144). -/
def Assent.tokenItem (a : Assent) : Option (List Byte) :=
  match a.state with
  | .awaitAnswer _ => some (b16 a.token)
  | _ => none

/-- The monitor starts from DORMANT or LAPSED (R143). On leaving LAPSED the beacon's release is evaluated (R161). -/
def State.startMonitor (s : State) : State :=
  let started := (s.setAssent (fun a => { a with trust := a.params.startCount, state := .awaitAnswer 0 })).judgePermit
  if s.assent.state = .lapsed then started.evaluateBeacon else started

/-- CHALLENGE in AWAIT_CHALLENGE, with the request window's elapsed count (R144). -/
def State.judgeRequest (elapsed : Nat) (s : State) : State :=
  if s.assent.params.requestCheck then
    match windowPart s.assent.params.requestOpen s.assent.params.requestClose elapsed with
    | .early =>
      (s.setAssent (fun a => { a with flags := { a.flags with earlyRequest := true } })).badStepThen (.awaitAnswer 0)
    | .inWindow => s.goodStep.setAssent (fun a => { a with state := .awaitAnswer 0 })
    | .late =>
      (s.setAssent (fun a => { a with flags := { a.flags with lateRequest := true } })).badStepThen (.awaitAnswer 0)
  else s.setAssent (fun a => { a with state := .awaitAnswer 0 })

/-- The effect of CHALLENGE (R143 to R145). -/
def State.challenged (s : State) : State :=
  match s.assent.state with
  | .dormant => s.startMonitor
  | .lapsed => s.startMonitor
  | .awaitChallenge elapsed => s.judgeRequest elapsed
  | .awaitAnswer _ => s.badStepThen (.awaitAnswer 0)

/-- CHALLENGE and its reply. -/
def doChallenge (s : State) : State × Answer :=
  (s.challenged, s.challenged.assent.answer .done s.challenged.assent.tokenItem)

/-! ## ANSWER (R142, R146, R147) -/

/-- The token after the given one (R142). -/
def nextToken (token : Nat) : Nat := (token * 25173 + 13849) % 65536

/-- The judgement codes of an answer (R176). -/
inductive Judgement where
  | early | inWindow | wrong | late
deriving DecidableEq, Repr

def Judgement.code : Judgement → Nat
  | .early => 0
  | .inWindow => 1
  | .wrong => 2
  | .late => 3

/-- The judgement of an answer taken in AWAIT_ANSWER (R142, R146). -/
def Assent.judge (a : Assent) (elapsed echo value : Nat) : Judgement :=
  match windowPart a.params.answerOpen a.params.answerClose elapsed with
  | .early => .early
  | .late => .late
  | .inWindow => if echo = a.token ∧ value = 65535 - a.token then .inWindow else .wrong

/-- The effect of a judged answer (R146). -/
def State.answered (j : Judgement) (s : State) : State :=
  match j with
  | .early =>
    (s.setAssent (fun a => { a with flags := { a.flags with earlyAnswer := true } })).badStepThen (.awaitChallenge 0)
  | .late =>
    (s.setAssent (fun a => { a with flags := { a.flags with lateAnswer := true } })).badStepThen (.awaitChallenge 0)
  | .wrong =>
    (s.setAssent (fun a => { a with flags := { a.flags with wrongAnswer := true } })).badStepThen (.awaitChallenge 0)
  | .inWindow => s.goodStep.setAssent (fun a => { a with token := nextToken a.token, state := .awaitChallenge 0 })

/-- ANSWER and its reply (R146, R147). -/
def doAnswer (echo value : Nat) (s : State) : State × Answer :=
  match s.assent.state with
  | .dormant => (s, s.assent.answer .notStarted none)
  | .lapsed => (s, s.assent.answer .notStarted none)
  | .awaitChallenge elapsed =>
    let t := s.badStepThen (.awaitChallenge elapsed)
    (t, t.assent.answer .ignored none)
  | .awaitAnswer elapsed =>
    let j := s.assent.judge elapsed echo value
    let t := s.answered j
    (t, t.assent.answer .done (some [b8 j.code]))

/-! ## Timeouts (R141, R148, R149) -/

/-- What a timeout does once its flag is set: the lapse of action LAPSE, or a bad step that restarts the window (R148,
R149). -/
def State.timeOut (restarted : AssentState) (s : State) : State :=
  if s.assent.params.timeoutLapse then s.lapse false else s.badStepThen restarted

/-- The timeout of the answer window (R148). -/
def State.answerTimesOut (s : State) : State :=
  (s.setAssent (fun a => { a with flags := { a.flags with answerTimeout := true } })).timeOut (.awaitAnswer 0)

/-- The timeout of the request window (R149). -/
def State.requestTimesOut (s : State) : State :=
  (s.setAssent (fun a => { a with flags := { a.flags with requestTimeout := true } })).timeOut (.awaitChallenge 0)

/-- A quarter-second event: the elapsed count of a present window timer is increased by one, and the event that brings it
to O + C + D is the window's timeout (R141, log entry 8). -/
def State.quarterPasses (s : State) : State :=
  match s.assent.state with
  | .awaitAnswer e =>
    if s.assent.params.answerEnd ≤ e + 1 then s.answerTimesOut
    else s.setAssent (fun a => { a with state := .awaitAnswer (e + 1) })
  | .awaitChallenge e =>
    if s.assent.params.requestEnd ≤ e + 1 then s.requestTimesOut
    else s.setAssent (fun a => { a with state := .awaitChallenge (e + 1) })
  | .dormant => s
  | .lapsed => s

/-! ## The rows of the quarter-second event -/

/-- QUARTER_SECOND_EVENT (R141). -/
def execQuarterSecondEvent (s : State) : Host.Outcome State Fault Refusal := s.perform State.quarterPasses

/-- ANSWER_WINDOW_TIMEOUT (R148): the quarter-second event that ends an answer window (log entry 8). -/
def execAnswerWindowTimeout (s : State) : Host.Outcome State Fault Refusal :=
  s.perform (fun s => match s.assent.state with
    | .awaitAnswer e => if s.assent.params.answerEnd ≤ e + 1 then s.answerTimesOut else s
    | _ => s)

/-- REQUEST_WINDOW_TIMEOUT (R149): the quarter-second event that ends a request window (log entry 8). -/
def execRequestWindowTimeout (s : State) : Host.Outcome State Fault Refusal :=
  s.perform (fun s => match s.assent.state with
    | .awaitChallenge e => if s.assent.params.requestEnd ≤ e + 1 then s.requestTimesOut else s
    | _ => s)

end Sys2Proof.Machine
end

