-- ==== Sys2Proof/Machine/Restart.lean ====
section
/-!
DEFINITION. The soft restart of every block (R26, R45, R91, R104, R119, R137, R154, R163, R174), and the rows of reset
and power (R175).
-/

namespace Sys2Proof.Machine

/-! ## The blocks in a soft restart -/

/-- A bound load goes to OFFLINE with its assessment cleared; its configuration, hold set, park-owned flag and stop time
are kept (R26, R45). -/
def Load.restart (l : Load) : Load :=
  { l with state := .offline, a16 := 0, idle := false, dwell := 0, sampleTime := none, sampleAge := none,
           manual := false, wakeDue := false, due := none, timer := none, awaitingFan := false,
           latest := { safeStop := false, speedLow := false, unloaded := false } }

/-- A feeder keeps its capacity and spacing; its queue, grants and spacing timer are dropped (R91). -/
def Feeder.restart (f : Feeder) : Feeder := { f with free := f.capacity, spacingTimer := none, queue := [] }

/-- A station keeps its configuration, results and last values; an enabled one is UNHEARD, a disabled one EXCLUDED
(R119, log entry 15). -/
def Station.restart (st : Station) : Station :=
  { st with link := if st.enabled then .unheard else .excluded, misses := if st.enabled then 0 else st.misses,
            slot := none, lastServed := 3, inquiry := .routine, once := false, round := false, restartNoted := false }

/-- The plant blocks: group minimums and curves are kept (R27, R53). -/
def Plant.restart (p : Plant) : Plant :=
  let feeders := feederIds.foldl (fun q i => q.setFeeder i Feeder.restart) p
  stationIds.foldl (fun q i => q.setStation i Station.restart) { feeders with loads := p.loads.map Load.restart }

/-- The sweep is stopped at once at round number 0; its rate, pause and digest are kept (R137). -/
def Sweep.restart (w : Sweep) : Sweep := { w.stopped with roundNumber := 0 }

/-- The monitor is DORMANT with token 4660; its parameters and lapse count are kept (R154). -/
def Assent.restart (a : Assent) : Assent := { Assent.reset with params := a.params, lapses := a.lapses }

/-- The alert settings are kept; queue, count, beacon and mark are as after power-on (R163). -/
def Alerts.restart (a : Alerts) : Alerts := { a with queue := [], faultCount := 0, beacon := false, statusRead := true }

/-- The link port keeps its frame error count; frames and characters in hand are dropped uncounted (R174). -/
def Link.restart (l : Link) : Link := { Link.reset with errors := l.errors }

/-- The restart takes effect: every block restarts in one change, the calendar is kept (R104), and SOFT_RESTARTED is
raised (R163, R174). -/
def State.softRestart (s : State) : State :=
  let restarted : State :=
    { s with plant := s.plant.restart, sweep := s.sweep.restart, assent := s.assent.restart,
             alerts := s.alerts.restart, link := s.link.restart }
  restarted.raiseDevice .softRestarted

/-- SOFT_RESTART_TAKES_EFFECT (R174). The row stands for the moment at which the restart takes effect, and restarts the
part whatever the link port shows: the model's choice (log entry 36). -/
def execSoftRestartTakesEffect (s : State) : Host.Outcome State Fault Refusal := s.perform State.softRestart

/-! ## Reset and power (R175) -/

/-- The part as power-on and RESET leave it. What the model itself keeps, the waiting commands and the count of draws,
stays. -/
def State.cleared (inReset : Bool) (s : State) : State :=
  ({ State.reset with inReset, draws := s.draws, pending := s.pending } : State).settlePins

/-- POWER_ON (R175): the part is held in reset. -/
def execPowerOn (s : State) : Host.Outcome State Fault Refusal := .next (s.cleared true)

/-- RESET_PIN_LOW (R175): the part is held in reset, and frames on either line are cut off. -/
def execResetPinLow (s : State) : Host.Outcome State Fault Refusal := .next (s.cleared true)

/-- LEAVE_RESET (R175): the part leaves reset with every piece of state at its power-on value. -/
def execLeaveReset (s : State) : Host.Outcome State Fault Refusal := .next (s.cleared false)

end Sys2Proof.Machine
end

