-- ==== Sys2Proof/Machine/SupervisorLink.lean ====
section
/-!
DEFINITION. The supervisor link port: the request catalogue (R169, R177), taking and answering a request (R168, R170),
the deframer (R164, R165, R167), the end of a reply (R168, R174), and the rows of characters and frames.
-/

namespace Sys2Proof.Machine

/-! ## The request catalogue (R169, R177) -/

/-- The payload length of each kind 1 to 34; no other kind is known (R177). -/
def payloadLength? (kind : Nat) : Option Nat :=
  match kind with
  | 1 => some 3 | 2 => some 2 | 3 => some 15 | 4 => some 3 | 5 => some 35 | 6 => some 1 | 7 => some 8 | 8 => some 5
  | 9 => some 4 | 10 => some 13 | 11 => some 5 | 12 => some 2 | 13 => some 8 | 14 => some 2 | 15 => some 0
  | 16 => some 1 | 17 => some 1 | 18 => some 1 | 19 => some 1 | 20 => some 1 | 21 => some 2 | 22 => some 1
  | 23 => some 1 | 24 => some 3 | 25 => some 0 | 26 => some 4 | 27 => some 1 | 28 => some 1 | 29 => some 1
  | 30 => some 2 | 31 => some 0 | 32 => some 0 | 33 => some 0 | 34 => some 0
  | _ => none

/-- SOFT RESTART itself only answers DONE; its effect comes at the end of that reply (R174). -/
def doSoftRestart (s : State) : State × Answer := s.accept

/-- An unknown kind is answered UNKNOWN (R169). -/
def doUnknown (s : State) : State × Answer := s.refuse .unknown

/-- A known request of the right length, by its kind and the fields of its payload (R177). -/
def serveKnown (kind : Nat) (p : List Byte) (s : State) : State × Answer :=
  match kind with
  | 1 => doSetFeeder (u8 p 0) (u8 p 1) (u8 p 2) s
  | 2 => doSetGroup (u8 p 0) (u8 p 1) s
  | 3 => doSetCurve (u8 p 0) (Knots.ofPayload p) s
  | 4 => doSetStation (u8 p 0) (u8 p 1) (u8 p 2) s
  | 5 => doBindLoad (u8 p 0) (BindFields.ofPayload p) s
  | 6 => doUnbindLoad (u8 p 0) s
  | 7 => doSetProfileDay (u8 p 0) (u8 p 1) (slotsOf p 2) s
  | 8 => doSetHoliday (dateAt p 0) (u8 p 4) s
  | 9 => doDropHoliday (dateAt p 0) s
  | 10 => doSetAssent (AssentFields.ofPayload p) s
  | 11 => doSetAlert (u8 p 0) (u8 p 1) (u8 p 2) (u8 p 3) (u8 p 4) s
  | 12 => doSetSweep (u8 p 0) (u8 p 1) s
  | 13 => doSetClock (dateAt p 0) (u8 p 4) (u24 p 5) s
  | 14 => doStartSweep (u8 p 0) (u8 p 1) s
  | 15 => doStopSweep s
  | 16 => doSetLastStation (u8 p 0) s
  | 17 => doHold (u8 p 0) s
  | 18 => doRelease (u8 p 0) s
  | 19 => doParkNow (u8 p 0) s
  | 20 => doCancelPark (u8 p 0) s
  | 21 => doWakeNow (u8 p 0) (u8 p 1) s
  | 22 => doCancelWake (u8 p 0) s
  | 23 => doClearFault (u8 p 0) s
  | 24 => doSetInquiry (u8 p 0) (u8 p 1) (u8 p 2) s
  | 25 => doChallenge s
  | 26 => doAnswer (u16 p 0) (u16 p 2) s
  | 27 => doReadLoad (u8 p 0) s
  | 28 => doReadLoads (u8 p 0) s
  | 29 => doReadStation (u8 p 0) s
  | 30 => doReadFeeder (u8 p 0) (u8 p 1) s
  | 31 => doReadStatus s
  | 32 => doFetchNotice s
  | 33 => doIdentify s
  | 34 => doSoftRestart s
  | _ => doUnknown s

/-- A payload of the wrong length (R169). The replies to CHALLENGE and ANSWER carry the monitor's state, trust count and
PERMIT whatever their code (R170, log entry 33). -/
def refuseLength (kind : Nat) (s : State) : State × Answer :=
  if kind = 25 ∨ kind = 26 then (s, s.assent.answer .length none) else s.refuse .length

/-- A taken request: UNKNOWN, then LENGTH, then the owning rule (R169). -/
def serve (f : Frame) (s : State) : State × Answer :=
  match payloadLength? f.kind.toNat with
  | none => doUnknown s
  | some length => if f.payload.length = length then serveKnown f.kind.toNat f.payload s else refuseLength f.kind.toNat s

/-! ## Taking a request (R168, R170) -/

/-- Changes the link port. -/
def State.setLink (f : Link → Link) (s : State) : State := { s with link := f s.link }

/-- The reply to a request: its kind and tag, and the answer's payload (R170). -/
def Answer.frame (a : Answer) (request : Frame) : Frame := { kind := request.kind, tag := request.tag, payload := a.payload }

/-- A request is taken: its effect is made in whole, and its reply is formed and begins (R168). A fresh draw of free
values is taken for the next reading (log entry 5). -/
def State.takeWith (request : Frame) (effect : State → State × Answer) (s : State) : State :=
  let done := effect s
  let replied := done.1.setLink (fun k => { k with reply := some { request, reply := done.2.frame request } })
  { replied with draws := replied.draws + 1 }

/-- The oldest frame of the buffer is taken, if there is one (R168). -/
def State.takeOldest (s : State) : State :=
  match s.link.buffer with
  | [] => s
  | f :: _ => s.takeWith f (serve f)

/-- A frame error (R168). -/
def Link.countError (k : Link) : Link := { k with errors := min 65535 (k.errors + 1) }

/-- A complete frame is offered to the buffer (R168): a third one is discarded and counted; one that finds no reply in
progress is taken at once. -/
def State.offerFrame (f : Frame) (s : State) : State :=
  if s.link.buffer.length < 2 then
    let joined := s.setLink (fun k => { k with buffer := k.buffer ++ [f] })
    if s.link.reply.isNone then joined.takeOldest else joined
  else s.setLink Link.countError

/-! ## The end of a reply (R168, R174) -/

/-- The request is a SOFT RESTART that was answered DONE. -/
def Frame.isRestart (f : Frame) : Bool := f.kind.toNat == 34 && f.payload.isEmpty

/-- The last stop bit of the reply in progress has been sent: its request leaves the buffer and the next one is taken;
after a SOFT RESTART the restart takes effect (R168, R174). -/
def State.endReply (s : State) : State :=
  match s.link.reply with
  | none => s
  | some r =>
    if r.request.isRestart then s.softRestart
    else (s.setLink (fun k => { k with buffer := k.buffer.drop 1, reply := none })).takeOldest

/-- `fuel` ends of replies, one after another. -/
def State.endReplies : Nat → State → State
  | 0, s => s
  | fuel + 1, s => State.endReplies fuel s.endReply

/-- Every frame held is answered and every reply ends, so that the next request finds the link free (log entry 2). -/
def State.drain (s : State) : State := s.endReplies (s.link.buffer.length + 1)

/-- A row of a request stands for the moment at which that request is taken: what was held before it has been answered,
its frame is in the buffer, and it is taken (R168, log entry 2). -/
def State.request (f : Frame) (effect : State → State × Answer) (s : State) : State :=
  (s.drain.setLink (fun k => { k with buffer := [f] })).takeWith f effect

/-! ## The deframer (R164, R165, R167) -/

/-- The deframer stands part-way through a frame. -/
def Deframer.inFrame : Deframer → Bool
  | .hunting => false
  | .expectLength => true
  | .body _ _ => true

/-- The frame in progress is abandoned and counted, and the deframer hunts; a hunting deframer is left (R164, R167). -/
def State.abandonFrame (s : State) : State :=
  if s.link.deframer.inFrame then s.setLink (fun k => { k.countError with deframer := .hunting }) else s

/-- The bytes of a whole frame body are judged: kind, tag, payload and CRC after the length byte (R165, R166). -/
def State.frameEnds (length : Byte) (received : List Byte) (s : State) : State :=
  let content := received.take length.toNat
  let hunting := s.setLink (fun k => { k with deframer := .hunting })
  if received.drop length.toNat = crcBytes (length :: content) then
    hunting.offerFrame { kind := content.getD 0 0, tag := content.getD 1 0, payload := content.drop 2 }
  else hunting.setLink Link.countError

/-- A good character (R165). -/
def State.receiveCharacter (b : Byte) (s : State) : State :=
  match s.link.deframer with
  | .hunting => if b = linkMark then s.setLink (fun k => { k with deframer := .expectLength }) else s
  | .expectLength =>
    if within 2 124 b.toNat then s.setLink (fun k => { k with deframer := .body b [] })
    else s.setLink (fun k => { k.countError with deframer := .hunting })
  | .body length received =>
    if received.length + 1 < length.toNat + 2 then
      s.setLink (fun k => { k with deframer := .body length (received ++ [b]) })
    else s.frameEnds length (received ++ [b])

/-! ## The rows of characters and frames -/

/-- CHARACTER_RECEIVED (R165). -/
def execCharacterReceived (b : Byte) (s : State) : Host.Outcome State Fault Refusal :=
  s.perform (State.receiveCharacter b)

/-- LENGTH_OUT_OF_RANGE (R165): the character that is such a length byte (log entry 30). -/
def execLengthOutOfRange (b : Byte) (s : State) : Host.Outcome State Fault Refusal :=
  s.perform (State.receiveCharacter b)

/-- FRAME_COMPLETE (R165): the character that is the second CRC character (log entry 30). -/
def execFrameComplete (b : Byte) (s : State) : Host.Outcome State Fault Refusal := s.perform (State.receiveCharacter b)

/-- FRAMING_FAULT (R164). -/
def execFramingFault (s : State) : Host.Outcome State Fault Refusal := s.perform State.abandonFrame

/-- GAP_TIMEOUT (R167): a gap has grown longer than 20 ms (log entry 29). -/
def execGapTimeout (s : State) : Host.Outcome State Fault Refusal := s.perform State.abandonFrame

/-- REPLY_SENT (R168). -/
def execReplySent (s : State) : Host.Outcome State Fault Refusal := s.perform State.endReply

/-- UNKNOWN_REQUEST (R169). -/
def execUnknownRequest (kind tag : Byte) (payload : List Byte) (s : State) : Host.Outcome State Fault Refusal :=
  s.perform (State.request { kind, tag, payload } doUnknown)

end Sys2Proof.Machine
end

