-- ==== Sys2Proof/Machine/Requests.lean ====
section
/-!
DEFINITION. The rows of the requests. Each gives the frame that carries the request, its kind and its payload in the
layout of R177, and the effect that its owning rule states; `State.request` takes it (R168).
-/

namespace Sys2Proof.Machine

/-- SET FEEDER (R89). -/
def execSetFeeder (tag : Byte) (feeder capacity spacing : Nat) (s : State) : Host.Outcome State Fault Refusal :=
  s.perform (State.request { kind := 1, tag, payload := [b8 feeder, b8 capacity, b8 spacing] }
    (doSetFeeder feeder capacity spacing))

/-- SET GROUP (R53). -/
def execSetGroup (tag : Byte) (group minimum : Nat) (s : State) : Host.Outcome State Fault Refusal :=
  s.perform (State.request { kind := 2, tag, payload := [b8 group, b8 minimum] } (doSetGroup group minimum))

/-- SET CURVE (R28). -/
def execSetCurve (tag : Byte) (curve : Nat) (knots : Knots) (s : State) : Host.Outcome State Fault Refusal :=
  s.perform (State.request { kind := 3, tag, payload := b8 curve :: knots.bytes } (doSetCurve curve knots))

/-- SET STATION (R106). -/
def execSetStation (tag : Byte) (station enabled fitted : Nat) (s : State) : Host.Outcome State Fault Refusal :=
  s.perform (State.request { kind := 4, tag, payload := [b8 station, b8 enabled, b8 fitted] }
    (doSetStation station enabled fitted))

/-- BIND LOAD (R7 to R10, R12). -/
def execBindLoad (tag : Byte) (load : Nat) (fields : BindFields) (s : State) : Host.Outcome State Fault Refusal :=
  s.perform (State.request { kind := 5, tag, payload := b8 load :: fields.bytes } (doBindLoad load fields))

/-- UNBIND LOAD (R11, R12). -/
def execUnbindLoad (tag : Byte) (load : Nat) (s : State) : Host.Outcome State Fault Refusal :=
  s.perform (State.request { kind := 6, tag, payload := [b8 load] } (doUnbindLoad load))

/-- SET PROFILE DAY (R95). -/
def execSetProfileDay (tag : Byte) (profile day : Nat) (slots : SlotRow) (s : State) :
    Host.Outcome State Fault Refusal :=
  s.perform (State.request { kind := 7, tag, payload := b8 profile :: b8 day :: slotBytes slots }
    (doSetProfileDay profile day slots))

/-- SET HOLIDAY (R96). -/
def execSetHoliday (tag : Byte) (date : Date) (rule : Nat) (s : State) : Host.Outcome State Fault Refusal :=
  s.perform (State.request { kind := 8, tag, payload := date.bytes ++ [b8 rule] } (doSetHoliday date rule))

/-- DROP HOLIDAY (R97). -/
def execDropHoliday (tag : Byte) (date : Date) (s : State) : Host.Outcome State Fault Refusal :=
  s.perform (State.request { kind := 9, tag, payload := date.bytes } (doDropHoliday date))

/-- SET ASSENT (R140). -/
def execSetAssent (tag : Byte) (fields : AssentFields) (s : State) : Host.Outcome State Fault Refusal :=
  s.perform (State.request { kind := 10, tag, payload := fields.bytes } (doSetAssent fields))

/-- SET ALERT (R162). -/
def execSetAlert (tag : Byte) (mode tolerance enable stationSet deviceSet : Nat) (s : State) :
    Host.Outcome State Fault Refusal :=
  s.perform (State.request { kind := 11, tag, payload := [b8 mode, b8 tolerance, b8 enable, b8 stationSet, b8 deviceSet] }
    (doSetAlert mode tolerance enable stationSet deviceSet))

/-- SET SWEEP (R125). -/
def execSetSweep (tag : Byte) (rate pause : Nat) (s : State) : Host.Outcome State Fault Refusal :=
  s.perform (State.request { kind := 12, tag, payload := [b8 rate, b8 pause] } (doSetSweep rate pause))

/-- SET CLOCK (R94). -/
def execSetClock (tag : Byte) (date : Date) (dayOfWeek seconds : Nat) (s : State) :
    Host.Outcome State Fault Refusal :=
  s.perform (State.request { kind := 13, tag, payload := date.bytes ++ b8 dayOfWeek :: b24 seconds }
    (doSetClock date dayOfWeek seconds))

/-- START SWEEP (R122). -/
def execStartSweep (tag : Byte) (mode lastStation : Nat) (s : State) : Host.Outcome State Fault Refusal :=
  s.perform (State.request { kind := 14, tag, payload := [b8 mode, b8 lastStation] } (doStartSweep mode lastStation))

/-- STOP SWEEP (R124). -/
def execStopSweep (tag : Byte) (s : State) : Host.Outcome State Fault Refusal :=
  s.perform (State.request { kind := 15, tag, payload := [] } doStopSweep)

/-- SET LAST STATION (R123). -/
def execSetLastStation (tag : Byte) (lastStation : Nat) (s : State) : Host.Outcome State Fault Refusal :=
  s.perform (State.request { kind := 16, tag, payload := [b8 lastStation] } (doSetLastStation lastStation))

/-- HOLD (R20). -/
def execHold (tag : Byte) (load : Nat) (s : State) : Host.Outcome State Fault Refusal :=
  s.perform (State.request { kind := 17, tag, payload := [b8 load] } (doHold load))

/-- RELEASE (R20). -/
def execRelease (tag : Byte) (load : Nat) (s : State) : Host.Outcome State Fault Refusal :=
  s.perform (State.request { kind := 18, tag, payload := [b8 load] } (doRelease load))

/-- PARK NOW (R66). -/
def execParkNow (tag : Byte) (load : Nat) (s : State) : Host.Outcome State Fault Refusal :=
  s.perform (State.request { kind := 19, tag, payload := [b8 load] } (doParkNow load))

/-- CANCEL PARK (R67). -/
def execCancelPark (tag : Byte) (load : Nat) (s : State) : Host.Outcome State Fault Refusal :=
  s.perform (State.request { kind := 20, tag, payload := [b8 load] } (doCancelPark load))

/-- WAKE NOW (R70, R71). -/
def execWakeNow (tag : Byte) (load override : Nat) (s : State) : Host.Outcome State Fault Refusal :=
  s.perform (State.request { kind := 21, tag, payload := [b8 load, b8 override] } (doWakeNow load override))

/-- CANCEL WAKE (R75). -/
def execCancelWake (tag : Byte) (load : Nat) (s : State) : Host.Outcome State Fault Refusal :=
  s.perform (State.request { kind := 22, tag, payload := [b8 load] } (doCancelWake load))

/-- CLEAR FAULT (R23). -/
def execClearFault (tag : Byte) (load : Nat) (s : State) : Host.Outcome State Fault Refusal :=
  s.perform (State.request { kind := 23, tag, payload := [b8 load] } (doClearFault load))

/-- SET INQUIRY (R114). -/
def execSetInquiry (tag : Byte) (station kind options : Nat) (s : State) : Host.Outcome State Fault Refusal :=
  s.perform (State.request { kind := 24, tag, payload := [b8 station, b8 kind, b8 options] }
    (doSetInquiry station kind options))

/-- CHALLENGE (R143 to R145). -/
def execChallenge (tag : Byte) (s : State) : Host.Outcome State Fault Refusal :=
  s.perform (State.request { kind := 25, tag, payload := [] } doChallenge)

/-- ANSWER (R146, R147). -/
def execAnswer (tag : Byte) (echo value : Nat) (s : State) : Host.Outcome State Fault Refusal :=
  s.perform (State.request { kind := 26, tag, payload := b16 echo ++ b16 value } (doAnswer echo value))

/-- READ LOAD (R42, R68, R90). -/
def execReadLoad (tag : Byte) (load : Nat) (s : State) : Host.Outcome State Fault Refusal :=
  s.perform (State.request { kind := 27, tag, payload := [b8 load] } (doReadLoad load))

/-- READ LOADS (R171). -/
def execReadLoads (tag : Byte) (page : Nat) (s : State) : Host.Outcome State Fault Refusal :=
  s.perform (State.request { kind := 28, tag, payload := [b8 page] } (doReadLoads page))

/-- READ STATION (R120). -/
def execReadStation (tag : Byte) (station : Nat) (s : State) : Host.Outcome State Fault Refusal :=
  s.perform (State.request { kind := 29, tag, payload := [b8 station] } (doReadStation station))

/-- READ FEEDER (R90). -/
def execReadFeeder (tag : Byte) (feeder page : Nat) (s : State) : Host.Outcome State Fault Refusal :=
  s.perform (State.request { kind := 30, tag, payload := [b8 feeder, b8 page] } (doReadFeeder feeder page))

/-- READ STATUS (R172). -/
def execReadStatus (tag : Byte) (s : State) : Host.Outcome State Fault Refusal :=
  s.perform (State.request { kind := 31, tag, payload := [] } doReadStatus)

/-- FETCH NOTICE (R158). -/
def execFetchNotice (tag : Byte) (s : State) : Host.Outcome State Fault Refusal :=
  s.perform (State.request { kind := 32, tag, payload := [] } doFetchNotice)

/-- IDENTIFY (R173). -/
def execIdentify (tag : Byte) (s : State) : Host.Outcome State Fault Refusal :=
  s.perform (State.request { kind := 33, tag, payload := [] } doIdentify)

/-- SOFT RESTART (R174). -/
def execSoftRestart (tag : Byte) (s : State) : Host.Outcome State Fault Refusal :=
  s.perform (State.request { kind := 34, tag, payload := [] } doSoftRestart)

/-- The frame that carries a request in the layout of R177; the other commands are no requests of the catalogue. -/
def requestFrame? : Instr → Option Frame
  | .setFeeder tag feeder capacity spacing => some { kind := 1, tag, payload := [b8 feeder, b8 capacity, b8 spacing] }
  | .setGroup tag group minimum => some { kind := 2, tag, payload := [b8 group, b8 minimum] }
  | .setCurve tag curve knots => some { kind := 3, tag, payload := b8 curve :: knots.bytes }
  | .setStation tag station enabled fitted => some { kind := 4, tag, payload := [b8 station, b8 enabled, b8 fitted] }
  | .bindLoad tag load fields => some { kind := 5, tag, payload := b8 load :: fields.bytes }
  | .unbindLoad tag load => some { kind := 6, tag, payload := [b8 load] }
  | .setProfileDay tag profile day slots => some { kind := 7, tag, payload := b8 profile :: b8 day :: slotBytes slots }
  | .setHoliday tag date rule => some { kind := 8, tag, payload := date.bytes ++ [b8 rule] }
  | .dropHoliday tag date => some { kind := 9, tag, payload := date.bytes }
  | .setAssent tag fields => some { kind := 10, tag, payload := fields.bytes }
  | .setAlert tag mode tolerance enable stationSet deviceSet =>
    some { kind := 11, tag, payload := [b8 mode, b8 tolerance, b8 enable, b8 stationSet, b8 deviceSet] }
  | .setSweep tag rate pause => some { kind := 12, tag, payload := [b8 rate, b8 pause] }
  | .setClock tag date dayOfWeek seconds => some { kind := 13, tag, payload := date.bytes ++ b8 dayOfWeek :: b24 seconds }
  | .startSweep tag mode lastStation => some { kind := 14, tag, payload := [b8 mode, b8 lastStation] }
  | .stopSweep tag => some { kind := 15, tag, payload := [] }
  | .setLastStation tag lastStation => some { kind := 16, tag, payload := [b8 lastStation] }
  | .hold tag load => some { kind := 17, tag, payload := [b8 load] }
  | .release tag load => some { kind := 18, tag, payload := [b8 load] }
  | .parkNow tag load => some { kind := 19, tag, payload := [b8 load] }
  | .cancelPark tag load => some { kind := 20, tag, payload := [b8 load] }
  | .wakeNow tag load override => some { kind := 21, tag, payload := [b8 load, b8 override] }
  | .cancelWake tag load => some { kind := 22, tag, payload := [b8 load] }
  | .clearFault tag load => some { kind := 23, tag, payload := [b8 load] }
  | .setInquiry tag station kind options => some { kind := 24, tag, payload := [b8 station, b8 kind, b8 options] }
  | .challenge tag => some { kind := 25, tag, payload := [] }
  | .answer tag echo value => some { kind := 26, tag, payload := b16 echo ++ b16 value }
  | .readLoad tag load => some { kind := 27, tag, payload := [b8 load] }
  | .readLoads tag page => some { kind := 28, tag, payload := [b8 page] }
  | .readStation tag station => some { kind := 29, tag, payload := [b8 station] }
  | .readFeeder tag feeder page => some { kind := 30, tag, payload := [b8 feeder, b8 page] }
  | .readStatus tag => some { kind := 31, tag, payload := [] }
  | .fetchNotice tag => some { kind := 32, tag, payload := [] }
  | .identify tag => some { kind := 33, tag, payload := [] }
  | .softRestart tag => some { kind := 34, tag, payload := [] }
  | .powerOn | .resetPinLow | .leaveReset | .secondsEvent | .quarterSecondEvent | .dwellComplete _ | .minimumOffElapsed
  | .stepTimerExpiry _ | .coastLimitExpiry _ | .unloadDwellExpiry _ | .settleTimerExpiry _ | .spacingTimerExpiry _
  | .answerWindowTimeout | .requestWindowTimeout | .pauseEnd | .slotEnd | .replyStartTimeout | .fieldReplyReceived _
  | .framingFault | .lengthOutOfRange _ | .gapTimeout | .frameComplete _ | .replySent | .unknownRequest _ _ _
  | .softRestartTakesEffect | .replyCharacterFault | .visitFrameSent | .replyStartBit | .characterReceived _ => none

end Sys2Proof.Machine
end

