-- ==== Sys2Proof/Machine/Timers.lean ====
section
/-!
DEFINITION. The rows of the timers of loads and feeders (R55, R57, R59, R83, R86). Each names the load or feeder whose
timer expires; where that timer is not running, nothing expires and nothing changes (log entry 3).
-/

namespace Sys2Proof.Machine

/-- The step timer of this step runs at the step limit (R55, R56, R58, R61). -/
def ParkStep.atStepLimit : ParkStep → Bool
  | .unloading .order => true
  | .unloading .orderTaken => true
  | .unloading .dwell => false
  | .declutching => true
  | .coasting => false
  | .stopping => true

/-- A load in PARKING whose step satisfies a test and whose step timer runs. -/
def Load.timesStep (test : ParkStep → Bool) (l : Load) : Bool :=
  match l.state with
  | .parking step => test step && l.timer.isSome
  | _ => false

/-- Acts on a bound load that satisfies a test. -/
def State.ifLoad (n : Nat) (test : Load → Bool) (f : State → State) (s : State) : State :=
  match s.load? n with
  | none => s
  | some l => if test l then f s else s

/-- STEP_TIMER_EXPIRY (R55): the load enters FAULTED (R22). -/
def execStepTimerExpiry (n : Nat) (s : State) : Host.Outcome State Fault Refusal :=
  s.perform (State.ifLoad n (Load.timesStep ParkStep.atStepLimit) (State.enterFaulted n))

/-- COAST_LIMIT_EXPIRY (R57): the press enters FAULTED (R22). -/
def execCoastLimitExpiry (n : Nat) (s : State) : Host.Outcome State Fault Refusal :=
  s.perform (State.ifLoad n (Load.timesStep (· == .coasting)) (State.enterFaulted n))

/-- UNLOAD_DWELL_EXPIRY (R59): the compressor enters STOPPING. -/
def execUnloadDwellExpiry (n : Nat) (s : State) : Host.Outcome State Fault Refusal :=
  s.perform (State.ifLoad n (Load.timesStep (· == .unloading .dwell)) (State.beginStep n .stopping))

/-- SETTLE_TIMER_EXPIRY (R86). -/
def execSettleTimerExpiry (n : Nat) (s : State) : Host.Outcome State Fault Refusal :=
  s.perform (State.ifLoad n (fun l => l.isWaking && l.timer.isSome) (State.settleExpired n))

/-- The spacing timer of a feeder expires: it becomes absent, and a grant attempt is made (R83). -/
def Plant.spacingExpired (clock : Option Clock) (i : FeederId) (p : Plant) : Plant :=
  if (p.feeder i).spacingTimer.isSome then
    (p.setFeeder i (fun f => { f with spacingTimer := none })).grantAttempt clock i
  else p

/-- SPACING_TIMER_EXPIRY (R83). -/
def execSpacingTimerExpiry (feeder : Nat) (s : State) : Host.Outcome State Fault Refusal :=
  s.perform (fun s => match index? 4 feeder with
    | none => s
    | some i => s.onPlantNow (fun c => Plant.spacingExpired c i))

end Sys2Proof.Machine
end

