-- ==== Sys2Proof/Machine/Dispatch.lean ====
section
/-! DEFINITION. One meaning for each command. -/

namespace Sys2Proof.Machine

def exec (i : Instr) (s : State) : Host.Outcome State Fault Refusal :=
  match i with
  | .powerOn => Sys2Proof.Machine.execPowerOn s
  | .resetPinLow => Sys2Proof.Machine.execResetPinLow s
  | .leaveReset => Sys2Proof.Machine.execLeaveReset s
  | .secondsEvent => Sys2Proof.Machine.execSecondsEvent s
  | .quarterSecondEvent => Sys2Proof.Machine.execQuarterSecondEvent s
  | .dwellComplete load => Sys2Proof.Machine.execDwellComplete load s
  | .minimumOffElapsed => Sys2Proof.Machine.execMinimumOffElapsed s
  | .stepTimerExpiry load => Sys2Proof.Machine.execStepTimerExpiry load s
  | .coastLimitExpiry load => Sys2Proof.Machine.execCoastLimitExpiry load s
  | .unloadDwellExpiry load => Sys2Proof.Machine.execUnloadDwellExpiry load s
  | .settleTimerExpiry load => Sys2Proof.Machine.execSettleTimerExpiry load s
  | .spacingTimerExpiry feeder => Sys2Proof.Machine.execSpacingTimerExpiry feeder s
  | .answerWindowTimeout => Sys2Proof.Machine.execAnswerWindowTimeout s
  | .requestWindowTimeout => Sys2Proof.Machine.execRequestWindowTimeout s
  | .pauseEnd => Sys2Proof.Machine.execPauseEnd s
  | .slotEnd => Sys2Proof.Machine.execSlotEnd s
  | .replyStartTimeout => Sys2Proof.Machine.execReplyStartTimeout s
  | .fieldReplyReceived frame => Sys2Proof.Machine.execFieldReplyReceived frame s
  | .framingFault => Sys2Proof.Machine.execFramingFault s
  | .lengthOutOfRange byte => Sys2Proof.Machine.execLengthOutOfRange byte s
  | .gapTimeout => Sys2Proof.Machine.execGapTimeout s
  | .frameComplete byte => Sys2Proof.Machine.execFrameComplete byte s
  | .replySent => Sys2Proof.Machine.execReplySent s
  | .unknownRequest kind tag payload => Sys2Proof.Machine.execUnknownRequest kind tag payload s
  | .setFeeder tag feeder capacity spacing => Sys2Proof.Machine.execSetFeeder tag feeder capacity spacing s
  | .setGroup tag group minimum => Sys2Proof.Machine.execSetGroup tag group minimum s
  | .setCurve tag curve knots => Sys2Proof.Machine.execSetCurve tag curve knots s
  | .setStation tag station enabled fitted => Sys2Proof.Machine.execSetStation tag station enabled fitted s
  | .bindLoad tag load fields => Sys2Proof.Machine.execBindLoad tag load fields s
  | .unbindLoad tag load => Sys2Proof.Machine.execUnbindLoad tag load s
  | .setProfileDay tag profile day slots => Sys2Proof.Machine.execSetProfileDay tag profile day slots s
  | .setHoliday tag date rule => Sys2Proof.Machine.execSetHoliday tag date rule s
  | .dropHoliday tag date => Sys2Proof.Machine.execDropHoliday tag date s
  | .setAssent tag fields => Sys2Proof.Machine.execSetAssent tag fields s
  | .setAlert tag mode tolerance enable stationSet deviceSet => Sys2Proof.Machine.execSetAlert tag mode tolerance enable stationSet deviceSet s
  | .setSweep tag rate pause => Sys2Proof.Machine.execSetSweep tag rate pause s
  | .setClock tag date dayOfWeek seconds => Sys2Proof.Machine.execSetClock tag date dayOfWeek seconds s
  | .startSweep tag mode lastStation => Sys2Proof.Machine.execStartSweep tag mode lastStation s
  | .stopSweep tag => Sys2Proof.Machine.execStopSweep tag s
  | .setLastStation tag lastStation => Sys2Proof.Machine.execSetLastStation tag lastStation s
  | .hold tag load => Sys2Proof.Machine.execHold tag load s
  | .release tag load => Sys2Proof.Machine.execRelease tag load s
  | .parkNow tag load => Sys2Proof.Machine.execParkNow tag load s
  | .cancelPark tag load => Sys2Proof.Machine.execCancelPark tag load s
  | .wakeNow tag load override => Sys2Proof.Machine.execWakeNow tag load override s
  | .cancelWake tag load => Sys2Proof.Machine.execCancelWake tag load s
  | .clearFault tag load => Sys2Proof.Machine.execClearFault tag load s
  | .setInquiry tag station kind options => Sys2Proof.Machine.execSetInquiry tag station kind options s
  | .challenge tag => Sys2Proof.Machine.execChallenge tag s
  | .answer tag echo value => Sys2Proof.Machine.execAnswer tag echo value s
  | .readLoad tag load => Sys2Proof.Machine.execReadLoad tag load s
  | .readLoads tag page => Sys2Proof.Machine.execReadLoads tag page s
  | .readStation tag station => Sys2Proof.Machine.execReadStation tag station s
  | .readFeeder tag feeder page => Sys2Proof.Machine.execReadFeeder tag feeder page s
  | .readStatus tag => Sys2Proof.Machine.execReadStatus tag s
  | .fetchNotice tag => Sys2Proof.Machine.execFetchNotice tag s
  | .identify tag => Sys2Proof.Machine.execIdentify tag s
  | .softRestart tag => Sys2Proof.Machine.execSoftRestart tag s
  | .softRestartTakesEffect => Sys2Proof.Machine.execSoftRestartTakesEffect s
  | .replyCharacterFault => Sys2Proof.Machine.execReplyCharacterFault s
  | .visitFrameSent => Sys2Proof.Machine.execVisitFrameSent s
  | .replyStartBit => Sys2Proof.Machine.execReplyStartBit s
  | .characterReceived byte => Sys2Proof.Machine.execCharacterReceived byte s

end Sys2Proof.Machine
end

