-- ==== Sys2Proof/WellFormed.lean ====
section
/-!
DEFINITION. Which commands can arrive. A request's field fits the bytes that carry it (R177); a timer event names a
load or a feeder that exists; a length fault carries a length outside 2 to 124 (R165); an unknown request is of no kind
of the catalogue and fits a frame (R165, R177); a field reply is no longer than the longest one and no shorter than the
length byte it carries says (R130, R179).
-/

namespace Sys2Proof

/-- The number fits one byte of a payload. -/
def fitsByte (n : Nat) : Bool := n < 256

/-- The number fits two bytes of a payload. -/
def fitsWord (n : Nat) : Bool := n < 65536

/-- The number fits the three bytes of the seconds of the day (R176). -/
def fitsSeconds (n : Nat) : Bool := n < 16777216

/-- A load number of the table (R1). -/
def isLoadNumber (n : Nat) : Bool := 1 ≤ n && n ≤ Config.loadCount

def Machine.Date.fits (d : Machine.Date) : Bool := fitsWord d.year && fitsByte d.month && fitsByte d.day

def Machine.Knots.fits (k : Machine.Knots) : Bool :=
  fitsWord k.k1 && fitsWord k.k2 && fitsWord k.k3 && fitsWord k.k4 && fitsWord k.k5 && fitsWord k.k6 && fitsWord k.k7

def Machine.BindFields.fits (f : Machine.BindFields) : Bool :=
  fitsByte f.station && fitsByte f.channel && fitsByte f.kind && fitsByte f.feeder && fitsByte f.demand &&
  fitsByte f.zone && fitsByte f.airGroup && fitsByte f.curve && fitsWord f.restFloor && fitsByte f.noiseBand &&
  fitsByte f.weight && fitsWord f.idleThreshold && fitsWord f.busyThreshold && fitsWord f.idleDwell &&
  fitsByte f.profile && fitsByte f.wakeAtClose && fitsByte f.wakeRank && fitsByte f.fallback &&
  fitsWord f.stepLimit && fitsWord f.coastLimit && fitsWord f.unloadDwell && fitsWord f.minimumOff &&
  fitsByte f.settleLimit && fitsByte f.adoptParked && fitsWord f.events

def Machine.AssentFields.fits (f : Machine.AssentFields) : Bool :=
  fitsByte f.answerOpen && fitsByte f.answerClose && fitsByte f.answerTimeout && fitsByte f.requestOpen &&
  fitsByte f.requestClose && fitsByte f.requestTimeout && fitsByte f.requestCheck && fitsByte f.timeoutAction &&
  fitsByte f.startCount && fitsByte f.goodStep && fitsByte f.badStep && fitsByte f.lowThreshold &&
  fitsByte f.highThreshold

/-- The characters of a field reply: at most 44, and exactly as many as the length byte says (R130, R179). -/
def isWholeReply (frame : List Byte) : Bool :=
  frame.length ≤ 44 && frame.length == (frame.getD 1 0).toNat + 4

/-- The command can arrive as it stands. -/
def Instr.wellFormed : Instr → Bool
  | .powerOn | .resetPinLow | .leaveReset | .secondsEvent | .quarterSecondEvent | .minimumOffElapsed
  | .answerWindowTimeout | .requestWindowTimeout | .pauseEnd | .slotEnd | .replyStartTimeout | .framingFault
  | .gapTimeout | .replySent | .softRestartTakesEffect | .replyCharacterFault | .visitFrameSent | .replyStartBit => true
  | .dwellComplete n | .stepTimerExpiry n | .coastLimitExpiry n | .unloadDwellExpiry n | .settleTimerExpiry n =>
    isLoadNumber n
  | .spacingTimerExpiry f => 1 ≤ f && f ≤ Config.feederCount
  | .fieldReplyReceived frame => isWholeReply frame
  | .lengthOutOfRange b => b.toNat < 2 || 124 < b.toNat
  | .frameComplete _ | .characterReceived _ => true
  | .unknownRequest kind _ payload => (kind.toNat == 0 || 34 < kind.toNat) && payload.length ≤ 122
  | .setFeeder _ f c sp => fitsByte f && fitsByte c && fitsByte sp
  | .setGroup _ g m => fitsByte g && fitsByte m
  | .setCurve _ c k => fitsByte c && k.fits
  | .setStation _ n e f => fitsByte n && fitsByte e && fitsByte f
  | .bindLoad _ n f => fitsByte n && f.fits
  | .unbindLoad _ n | .setLastStation _ n | .hold _ n | .release _ n | .parkNow _ n | .cancelPark _ n
  | .cancelWake _ n | .clearFault _ n | .readLoad _ n | .readLoads _ n | .readStation _ n => fitsByte n
  | .setProfileDay _ p d _ => fitsByte p && fitsByte d
  | .setHoliday _ d r => d.fits && fitsByte r
  | .dropHoliday _ d => d.fits
  | .setAssent _ f => f.fits
  | .setAlert _ m t e ss ds => fitsByte m && fitsByte t && fitsByte e && fitsByte ss && fitsByte ds
  | .setSweep _ r p => fitsByte r && fitsByte p
  | .setClock _ d dow secs => d.fits && fitsByte dow && fitsSeconds secs
  | .startSweep _ m l => fitsByte m && fitsByte l
  | .wakeNow _ n o => fitsByte n && fitsByte o
  | .setInquiry _ n k o => fitsByte n && fitsByte k && fitsByte o
  | .answer _ e v => fitsWord e && fitsWord v
  | .readFeeder _ f p => fitsByte f && fitsByte p
  | .stopSweep _ | .challenge _ | .readStatus _ | .fetchNotice _ | .identify _ | .softRestart _ => true

end Sys2Proof
end

