-- ==== Sys2Proof/Safety.lean ====
section
/-!
DEFINITION. The vocabulary of the statements: when a request finds the part ready, what a command leaves alone, and what
a sound state is. Each invariant is one that the manual states of the part; every one is about a single state.
-/

namespace Sys2Proof.Machine

/-! ## Commands -/

/-- The part is not held in reset and no reply is in progress, so a request is taken at once (R168, R175). -/
abbrev State.ready (s : State) : Prop := s.inReset = false ∧ s.link.reply = none

/-- The part is out of reset and the reply in progress is the one to a SOFT RESTART, at whose end the restart takes effect
(R174). -/
abbrev State.restarting (s : State) : Prop :=
  s.inReset = false ∧ s.link.reply.any (fun r => r.request.isRestart) = true

/-- Everything a command can change but the receive buffer, the reply in progress, the pins and the count of free values
drawn. A request that is refused, and a read, leave it as it is; a statement that gives it whole gives the frame too. -/
structure Blocks where
  plant : Plant
  calendar : Calendar
  sweep : Sweep
  assent : Assent
  alerts : Alerts
  deframer : Deframer
  errors : Nat
  inReset : Bool
  pending : List Instr
deriving DecidableEq, Repr

/-- The blocks of a state. -/
def State.blocks (s : State) : Blocks :=
  { plant := s.plant, calendar := s.calendar, sweep := s.sweep, assent := s.assent, alerts := s.alerts,
    deframer := s.link.deframer, errors := s.link.errors, inReset := s.inReset, pending := s.pending }

/-- The reply in progress answers a request of this kind and tag with this code and these data (R170). -/
abbrev State.answers (t : State) (kind tag : Byte) (code : ReplyCode) (data : List Byte) : Prop :=
  t.link.reply.map ReplyInProgress.reply = some { kind, tag, payload := b8 code.code :: data }

/-- The request was answered with this code and no data, and the blocks are as before (R169). -/
abbrev State.onlyAnswers (s t : State) (kind tag : Byte) (code : ReplyCode) : Prop :=
  t.blocks = s.blocks ∧ t.answers kind tag code []

/-- The blocks besides the plant and the alerts, and the link port, are as before. -/
abbrev State.sameBeyondPlant (s t : State) : Prop :=
  t.calendar = s.calendar ∧ t.sweep = s.sweep ∧ t.assent = s.assent ∧ t.link = s.link ∧ t.inReset = s.inReset ∧
  t.draws = s.draws ∧ t.pending = s.pending

/-- Every load but one, and the group minimums and curves, are as before. -/
abbrev Plant.sameButLoad (n : Nat) (p q : Plant) : Prop :=
  (∀ m, m ≠ n → q.load? m = p.load? m) ∧ q.groups = p.groups ∧ q.curves = p.curves

/-- The visit whose slot runs. -/
def State.visit? (s : State) : Option Visit :=
  match s.sweep.line with
  | .slot v => some v
  | _ => none

/-! ## What rules make of a record -/

/-- A load that has just been granted its units (R82). -/
def Load.granted (l : Load) : Load :=
  { l with state := .waking .ordered, awaitingFan := false, due := some .motorOn,
           timer := some (Timer.start l.cfg.settleLimit) }

/-- A load that has just entered FAULTED (R22). -/
def Load.faulted (l : Load) : Load :=
  { l with state := .faulted, timer := none, due := none, manual := false, wakeDue := false }

/-- A load whose due order has just been echoed (R55 to R61, R84, R113). -/
def Load.afterEcho (k : OrderKind) (refused : Bool) (l : Load) : Load :=
  match l.state with
  | .parking step =>
    if refused then l.faulted
    else
      match step, k with
      | .declutching, .declutch =>
        { l with due := none, state := .parking .coasting, timer := some (Timer.start l.cfg.coastLimit) }
      | .unloading .order, .unload => { l with due := none, state := .parking (.unloading .orderTaken) }
      | _, _ => { l with due := none }
  | .waking step =>
    if refused then l.faulted
    else if step = .ordered ∧ k = .motorOn then { l with due := none, state := .waking .settling }
    else { l with due := none }
  | _ => { l with due := none }

/-- A load whose station has just entered LOST or EXCLUDED (R24, R110). -/
def Load.afterLoss (l : Load) : Load :=
  match l.state with
  | .offline => { l with due := none }
  | .faulted => { l with due := none }
  | .waking _ => { l with due := none }
  | .wakeQueued => { l with due := none, state := .offline, wakeDue := true, awaitingFan := false }
  | .parking _ =>
    { l with due := none, state := .offline, timer := none, parkOwned := false, manual := false, wakeDue := false }
  | _ => { l with due := none, state := .offline, manual := false }

/-- A load whose station has just been restarted, before its report in the same reply is taken (R65, R87, R117). -/
def Load.afterRestart (l : Load) : Load :=
  match l.state with
  | .parking _ => { l with due := none, state := .offline, timer := none, manual := false, wakeDue := false }
  | .waking _ => { l with due := none, state := .offline, timer := none, manual := false }
  | .wakeQueued => { l with due := none }
  | .faulted => { l with due := none }
  | _ => { l with due := none, state := .offline, manual := false }

/-- What a report makes of a load in every state: LOCAL and LOCKOUT are as reported (R19), a valid sample is smoothed into
A16 with its age and time (R29 to R33), and the latest flags are kept (R5). -/
def Load.underReport (curves : Vector Knots 8) (now : Option Stamp) (r : Report) (l : Load) : Load :=
  let held := { l with hold := { l.hold with byCall := r.call, byLockout := r.lockout } }
  let sampled := match r.sample with
    | none => held
    | some raw => { held with a16 := l.sampled curves[l.cfg.curve] raw, sampleAge := some 0, sampleTime := now }
  sampled.keepFlags r

/-- A load that a report has brought to ACTIVE (R38): a valid sample of the same report at or below the idle threshold
takes it to IDLING (R35, R36), unless the report brings strokes of a press (R37). -/
def Load.activated (curves : Vector Knots 8) (now : Option Stamp) (r : Report) (l : Load) : Load :=
  let active := { l.underReport curves now r with state := .active, dwell := 0, idle := false }
  if r.sample.isSome = true ∧ active.reported ≤ l.cfg.idleThreshold then
    if l.cfg.kind = .press ∧ 0 < r.strokes.getD 0 then { active with manual := false }
    else { active with state := .idling, idle := true }
  else active

/-- PERMIT after a step that has brought the trust count to `trust` (R150). -/
def Assent.permitAt (a : Assent) (trust : Nat) : Bool :=
  if a.permit then decide (a.params.lowThreshold ≤ trust) else decide (a.params.highThreshold ≤ trust)

/-- The record after a good step that leaves the monitor in `next` (R150). -/
def Assent.afterGood (next : AssentState) (a : Assent) : Assent :=
  let trust := min 15 (a.trust + a.params.goodStep)
  { a with trust, permit := a.permitAt trust, state := next }

/-- The record after a lapse (R151). -/
def Assent.afterLapse (byCount : Bool) (a : Assent) : Assent :=
  { a with state := .lapsed, trust := 0, permit := false, lapses := min 15 (a.lapses + 1),
           flags := { a.flags with lapsedByCount := a.flags.lapsedByCount || byCount } }

/-- A bad step brings the trust count to 0 (R150). -/
abbrev Assent.fails (a : Assent) : Prop := a.trust ≤ a.params.badStep

/-- The record after a bad step: the lapse at a count of 0, and otherwise `next` (R150, R151). -/
def Assent.afterBad (next : AssentState) (a : Assent) : Assent :=
  let trust := a.trust - a.params.badStep
  if trust = 0 then a.afterLapse true else { a with trust, permit := a.permitAt trust, state := next }

/-- A waiting notice of this source has this kind. -/
abbrev Alerts.shows (a : Alerts) (source : Source) (bit : Nat) : Prop :=
  ∃ x ∈ a.queue, x.source = source ∧ x.kinds.getLsbD bit = true

/-- What queueing an event makes of the notices (R156): it merges into the notice of its source, which keeps its place and
time, and starts a notice at the tail where the source has none. -/
def queuedInto (event : Notice) (before after : List Notice) : Prop :=
  (∀ earlier x later, before = earlier ++ x :: later → x.source = event.source →
    (∀ y ∈ earlier, y.source ≠ event.source) →
    after = earlier ++ { x with kinds := x.kinds ||| event.kinds, opened := x.opened ||| event.opened,
                                closed := x.closed ||| event.closed } :: later) ∧
  ((∀ x ∈ before, x.source ≠ event.source) → after = before ++ [event])

/-- The alert block as before, but for the notices. -/
abbrev Alerts.sameButQueue (a b : Alerts) : Prop := b = { a with queue := b.queue }

/-- The alert block after a fault event, but for the notices (R160). -/
abbrev Alerts.faultCounted (a b : Alerts) : Prop :=
  b.faultCount = min 255 (a.faultCount + 1) ∧ b.statusRead = false ∧
  b.beacon = (a.beacon || decide (a.tolerance ≤ min 255 (a.faultCount + 1))) ∧ b.mode = a.mode ∧
  b.tolerance = a.tolerance ∧ b.enabled = a.enabled ∧ b.stationSet = a.stationSet ∧ b.deviceSet = a.deviceSet

/-- A round has just started with this last station in force (R107, R126, R127): each station is EXCLUDED exactly when
it is disabled or above the last station; one that leaves EXCLUDED is UNHEARD with no miss, and the others keep link
state and miss count; the round flags are clear; and the slot is that of the lowest station to be visited, or empty. -/
def roundBegins (last : Nat) (s t : State) : Prop :=
  t.sweep.lastStation = last ∧ t.sweep.pendingLast = none ∧ t.sweep.flags = .clear ∧
  t.sweep.roundNumber = s.sweep.roundNumber ∧ t.sweep.digest = s.sweep.digest ∧
  (∀ i : StationId,
    if (s.station i).enabled = true ∧ i.val < last then
      if (s.station i).link = .excluded then (t.station i).link = .unheard ∧ (t.station i).misses = 0
      else (t.station i).link = (s.station i).link ∧ (t.station i).misses = (s.station i).misses
    else (t.station i).link = .excluded ∧ (t.station i).misses = (s.station i).misses) ∧
  (match t.sweep.line with
    | .slot v => t.isVisited v.station = true ∧ (∀ j : StationId, j < v.station → t.isVisited j = false) ∧
        v = t.visitOf v.station
    | .emptySlot => ∀ j : StationId, t.isVisited j = false
    | _ => False)

/-- Runs characters one after another; `none` where one does not answer a next state. -/
def receiveAll : List Byte → State → Option State
  | [], s => some s
  | b :: rest, s =>
    match exec (.characterReceived b) s with
    | .next t => receiveAll rest t
    | _ => none

/-! ## Sound states -/

/-- The bound loads stand in ascending number, each number 1 to 96 (R1, R171). -/
abbrev Plant.numbered (p : Plant) : Prop :=
  p.loads.Pairwise (fun a b => a.num < b.num) ∧ ∀ l ∈ p.loads, 1 ≤ l.num ∧ l.num ≤ 96

/-- No two bound loads have the same station and channel (R7). -/
abbrev Plant.placed (p : Plant) : Prop :=
  p.loads.Pairwise (fun a b => ¬(a.cfg.station = b.cfg.station ∧ a.cfg.channel = b.cfg.channel))

/-- The load of an entry is WAKE_QUEUED on this feeder. -/
def Plant.holdsEntry (p : Plant) (i : FeederId) (e : QueueEntry) : Bool :=
  (p.load? e.load).any (fun l => l.state == .wakeQueued && l.cfg.feeder == i)

/-- A load is in its feeder's start queue exactly while it is WAKE_QUEUED, and no queue holds a load twice (R72). -/
abbrev Plant.queued (p : Plant) : Prop :=
  (∀ i : FeederId, ((p.feeder i).queue.map QueueEntry.load).Nodup) ∧
  (∀ i : FeederId, ∀ e ∈ (p.feeder i).queue, p.holdsEntry i e = true) ∧
  ∀ l ∈ p.loads, l.state = .wakeQueued → l.num ∈ (p.feeder l.cfg.feeder).queue.map QueueEntry.load

/-- The start demands of the WAKING loads of a feeder, added up (R88). -/
def Plant.granted (p : Plant) (i : FeederId) : Nat :=
  ((p.loads.filter (fun l => l.cfg.feeder == i && l.isWaking)).map (fun l => l.cfg.demand)).sum

/-- The free units plus the demands of the WAKING loads are the capacity, on every feeder (R88). -/
abbrev Plant.balanced (p : Plant) : Prop := ∀ i : FeederId, (p.feeder i).free + p.granted i = (p.feeder i).capacity

/-- Start queues and start units are sound (R1, R72, R88). -/
abbrev Plant.sound (p : Plant) : Prop := p.numbered ∧ p.queued ∧ p.balanced

/-- An empty slot leaves no due order waiting; an order in the slot is the due order of its channel's load (R6, R112). -/
def Plant.slotSound (p : Plant) (i : StationId) : Bool :=
  match (p.station i).slot with
  | none => p.loads.all (fun l => l.cfg.station != i || l.due.isNone)
  | some o => (p.loadAt? i o.channel).any (fun l => l.due == some o.kind)

/-- A load's due order is one that its state can have (R6, R55 to R61, R84, R113, R117). -/
def Load.dueFits (l : Load) : Bool :=
  match l.state with
  | .parking .declutching => l.due == none || l.due == some .declutch
  | .parking (.unloading .order) => l.due == none || l.due == some .unload
  | .parking .stopping => l.due == none || l.due == some .motorOff
  | .waking .ordered => l.due == none || l.due == some .motorOn
  | .parked => l.due == none || l.due == some .motorOff
  | .wakeQueued => l.due == none || l.due == some .motorOff
  | _ => l.due == none

/-- Places and orders are sound (R6, R7, R112). -/
abbrev Plant.ordersSound (p : Plant) : Prop :=
  p.numbered ∧ p.placed ∧ (∀ i : StationId, p.slotSound i = true) ∧ ∀ l ∈ p.loads, l.dueFits = true

/-- The link state and the miss count agree (R108, R109). -/
def Station.linkSound (st : Station) : Bool :=
  match st.link with
  | .live => st.misses == 0
  | .unheard => decide (st.misses ≤ 2)
  | .suspect => within 1 2 st.misses
  | .lost => within 3 7 st.misses
  | .excluded => decide (st.misses ≤ 7)

/-- The ranges that R140 gives the parameters the monitor's own rules rest on. -/
abbrev AssentParams.sound (p : AssentParams) : Prop :=
  1 ≤ p.answerClose ∧ 1 ≤ p.requestClose ∧ 1 ≤ p.startCount ∧ p.startCount ≤ 15 ∧ 1 ≤ p.lowThreshold ∧
  p.lowThreshold < p.highThreshold ∧ p.highThreshold ≤ 15

/-- The elapsed count of the window that the state carries lies before the window's timeout (R141). -/
def Assent.windowRuns (a : Assent) : Bool :=
  match a.state with
  | .awaitAnswer e => e < a.params.answerEnd
  | .awaitChallenge e => e < a.params.requestEnd
  | .dormant => true
  | .lapsed => true

/-- The assent record is sound (R139, R141, R142, R150): PERMIT is set only while the monitor runs, with the trust count
at least at the low threshold. -/
abbrev Assent.sound (a : Assent) : Prop :=
  a.params.sound ∧ a.trust ≤ 15 ∧ a.lapses ≤ 15 ∧ a.token < 65536 ∧ a.windowRuns = true ∧
  (a.state.runs = false → a.trust = 0 ∧ a.permit = false) ∧ (a.permit = true → a.params.lowThreshold ≤ a.trust)

/-- At most one notice for each source, none without a kind (R155). -/
abbrev Alerts.queueSound (a : Alerts) : Prop :=
  (a.queue.map Notice.source).Nodup ∧ ∀ x ∈ a.queue, x.kinds ≠ 0

/-- The holiday list holds valid dates in ascending order, at most 16 (R96). -/
abbrev Calendar.listSound (c : Calendar) : Prop :=
  c.holidays.Pairwise (fun a b => a.date.before b.date = true) ∧ c.holidays.length ≤ 16 ∧
  ∀ h ∈ c.holidays, h.date.valid = true

/-- A set clock holds a date of 2000 to 2099, a day of week 1 to 7 and the seconds of a day (R92). -/
def Clock.sound (k : Clock) : Bool := k.date.valid && within 1 7 k.dayOfWeek && within 0 86399 k.seconds

/-- The clock is sound where it is set (R92). -/
def Calendar.clockSound (c : Calendar) : Bool := c.clock.all Clock.sound

/-- The held profile states are the profiles' values at the clock reading (R99, R100). -/
abbrev Calendar.sound (c : Calendar) : Prop := c.listSound ∧ c.clockSound = true ∧ c.held = c.values

/-- The buffer holds at most two frames, and the reply in progress is the one to the oldest of them (R168). -/
abbrev Link.sound (k : Link) : Prop :=
  k.buffer.length ≤ 2 ∧ k.reply.map ReplyInProgress.request = k.buffer.head? ∧ k.errors ≤ 65535

/-- A pending last station and a stop request are there only while the sweep runs, the line is idle exactly while it does
not, and the numbers keep their ranges (R121, R136). -/
abbrev Sweep.sound (w : Sweep) : Prop :=
  within 1 40 w.lastStation = true ∧ w.pendingLast.all (within 1 40) = true ∧ w.roundNumber < 65536 ∧
  (w.mode = .stopped → w.pendingLast = none ∧ w.stopRequested = false ∧ w.flags = .clear) ∧
  (w.mode = .stopped ↔ w.line = .idle)

end Sys2Proof.Machine
end

