-- ==== Sys2Proof/Certificates/Slice0/Obligations.lean ====
section
/-!
DEFINITION. The statements for the provers, in the order of OBLIGATIONS.json. Each docstring says what its statement says;
a clause that rests on a choice of the model names its log entry.
-/

section Slice0

open Sys2Proof Sys2Proof.Machine

/-- For every command c and state s whose queue is c followed by the rest, the step of s is exec of c on s with the
queue's rest. On an empty queue the block idles, which is the model's choice (log entry 1). -/
def Obligations.StepTakesFrontCommand : Prop :=
  ∀ (c : Instr) (rest : List Instr) (s : State),
    (s.pending = c :: rest → step s = exec c { s with pending := rest }) ∧ (s.pending = [] → step s = .next s)

/-- For every command and every state, exec answers a next state. The waiting commands are as before. The part is held
in reset after POWER_ON and RESET_PIN_LOW, not after LEAVE_RESET, and as before after every other command. -/
def Obligations.EveryCommandCompletes : Prop :=
  ∀ (c : Instr) (s : State), ∃ t, exec c s = .next t ∧ t.pending = s.pending ∧
    t.inReset = (match c with
      | .powerOn => true
      | .resetPinLow => true
      | .leaveReset => false
      | _ => s.inReset)

/-- After every command: in reset SLP TXD and FL TXD are high, FL DE is low and ALERT is released. Out of reset ALERT
is asserted exactly while, in NOTICE mode, the queue holds a notice, or, in BEACON mode, the beacon is set; FL DE is
on, and FL TXD carries characters, exactly while a visit frame is being sent; SLP TXD carries characters exactly while
a reply is in progress. -/
def Obligations.PinsFollowTheState : Prop :=
  ∀ (c : Instr) (s t : State), exec c s = .next t →
    (t.inReset = true → t.pins = { slpTxd := .high, flTxd := .high, flDe := false, alertLow := false }) ∧
    (t.inReset = false →
      (t.pins.alertLow = true ↔
        (t.alerts.mode = .notice ∧ t.alerts.queue ≠ []) ∨ (t.alerts.mode = .beacon ∧ t.alerts.beacon = true)) ∧
      (t.pins.flDe = true ↔ ∃ v, t.sweep.line = .slot v ∧ v.phase = .sending) ∧
      (t.pins.flTxd = .carrying ↔ t.pins.flDe = true) ∧ (t.pins.slpTxd = .carrying ↔ t.link.reply ≠ none))

/-- State.reset satisfies the invariants that the step keeps: start queues and units, places and orders, the link
state and miss count of every station, the assent record, the notice queue, the calendar, the link port and the sweep
record. Its held profile states, CLOSED, are the model's choice (log entry 27). -/
def Obligations.ResetIsSound : Prop :=
  State.reset.plant.sound ∧ State.reset.plant.ordersSound ∧ State.reset.assent.sound ∧ State.reset.alerts.queueSound ∧
    State.reset.calendar.sound ∧ State.reset.link.sound ∧ State.reset.sweep.sound ∧
    ∀ i, (State.reset.station i).linkSound = true

/-- POWER_ON and RESET_PIN_LOW leave the part held in reset and LEAVE_RESET leaves it out of reset, from every state,
with every block at its power-on value: every record UNBOUND, every feeder, station and group minimum at its reset
value, straight-line curves, an unset clock, CLOSED rows and no holiday, and the sweep, assent, alert and link records
of their tables. The model's own counter and queue stay. In reset every other command changes nothing but the pins,
which stand at their reset levels. That the blocks are at their power-on values while the part is still held in reset,
and not only when it leaves it, and that in reset the events change nothing too, are the model's choices (log entry
4). -/
def Obligations.ResetRows : Prop :=
  ∀ s : State,
    exec .powerOn s = .next { State.reset with inReset := true, draws := s.draws, pending := s.pending } ∧
    exec .resetPinLow s = .next { State.reset with inReset := true, draws := s.draws, pending := s.pending } ∧
    exec .leaveReset s = .next { State.reset with draws := s.draws, pending := s.pending } ∧
    State.reset.inReset = false ∧ State.reset.plant.loads = [] ∧
    (∀ i, State.reset.plant.feeder i = { capacity := 0, free := 0, spacing := 0, spacingTimer := none, queue := [] }) ∧
    (∀ i, State.reset.station i =
      { enabled := false, fitted := 1, link := .excluded, misses := 0, slot := none, lastServed := 3,
        inquiry := .routine, once := false, round := false, runHours := none, temperatures := none,
        faultList := none, ident := none, restartNoted := false, lastCall := #v[false, false, false, false],
        lastLockout := #v[false, false, false, false] }) ∧
    State.reset.plant.groups = #v[0, 0, 0, 0] ∧
    (∀ i : CurveId, State.reset.plant.curves[i] =
      { k1 := 125, k2 := 250, k3 := 375, k4 := 500, k5 := 625, k6 := 750, k7 := 875 }) ∧
    State.reset.calendar.clock = none ∧ State.reset.calendar.holidays = [] ∧
    (∀ (p : ProfileId) (d : Fin 7), State.reset.calendar.profiles[p][d] = 0) ∧
    State.reset.sweep =
      { mode := .stopped, lastStation := 1, pendingLast := none, stopRequested := false, rate := .b57600, pause := 0,
        roundNumber := 0, flags := { newCall := false, newLoss := false, anyMiss := false },
        digest := { flags := { newCall := false, newLoss := false, anyMiss := false }, activity := 0, parked := 0,
                    round := 0 }, line := .idle } ∧
    State.reset.assent.state = .dormant ∧ State.reset.assent.trust = 0 ∧ State.reset.assent.permit = false ∧
    State.reset.assent.token = 4660 ∧ State.reset.assent.flags = .empty ∧ State.reset.assent.lapses = 0 ∧
    State.reset.alerts =
      { queue := [], mode := .notice, tolerance := 1, enabled := false, stationSet := 0, deviceSet := 0,
        faultCount := 0, beacon := false, statusRead := true } ∧
    State.reset.link = { deframer := .hunting, buffer := [], reply := none, errors := 0 } ∧
    (s.inReset = true → ∀ c : Instr, c ≠ .powerOn → c ≠ .resetPinLow → c ≠ .leaveReset →
      exec c s = .next { s with pins := { slpTxd := .high, flTxd := .high, flDe := false, alertLow := false } })

/-- From every state in which the bound loads stand in ascending number from 1 to 96, a load is in its feeder's start
queue exactly while it is WAKE_QUEUED, no queue holds a load twice, and on every feeder the free units plus the
demands of its WAKING loads are the capacity, every step leads to such a state. -/
def Obligations.StepKeepsStartQueuesAndUnits : Prop :=
  ∀ s t : State, s.plant.sound → step s = .next t → t.plant.sound

/-- From every state in which the bound loads stand in ascending number, no two share a station channel, every due
order is one that the load's state can have, an order in a slot is the due order of its channel's load, and an empty
slot leaves no due order of its station waiting, every step leads to such a state. -/
def Obligations.StepKeepsPlacesAndOrders : Prop :=
  ∀ s t : State, s.plant.ordersSound → step s = .next t → t.plant.ordersSound

/-- From every state in which trust count and lapse count are at most 15, the token is below 65536, the parameters
keep the ranges the monitor rests on, the elapsed count lies before its window's timeout, trust count and PERMIT are
clear in DORMANT and LAPSED, and PERMIT is set only with a trust count at least the low threshold, every step leads to
such a state. -/
def Obligations.StepKeepsAssentRecord : Prop :=
  ∀ s t : State, s.assent.sound → step s = .next t → t.assent.sound

/-- From every state whose notice queue holds at most one notice for each source, each with a kind, every step leads
to such a state. -/
def Obligations.StepKeepsNoticeQueue : Prop :=
  ∀ s t : State, s.alerts.queueSound → step s = .next t → t.alerts.queueSound

/-- From every state whose holiday list holds valid dates in ascending order and at most 16, whose clock, where set,
holds a date of 2000 to 2099, a day of week 1 to 7 and the seconds of a day, and whose held profile states are the
profiles' values at the clock reading, every step leads to such a state. -/
def Obligations.StepKeepsCalendar : Prop :=
  ∀ s t : State, s.calendar.sound → step s = .next t → t.calendar.sound

/-- From every state whose receive buffer holds at most two frames with the reply in progress being the one to the
oldest of them, every step leads to such a state. From every state whose sweep numbers keep their ranges, whose line
is idle exactly while the mode is STOPPED, and which in STOPPED has no pending last station, no stop request and clear
round flags (the last is the model's reading of section 7.6, log entry 31), every step leads to such a state. From
every state in which each station's miss count is 0 in LIVE, at most 2 in UNHEARD, 1 or 2 in SUSPECT, 3 to 7 in LOST
and at most 7 in EXCLUDED, every step leads to such a state. -/
def Obligations.StepKeepsLinkAndSweep : Prop :=
  ∀ s t : State, step s = .next t →
    (s.link.sound → t.link.sound) ∧ (s.sweep.sound → t.sweep.sound) ∧
    ((∀ i, (s.station i).linkSound = true) → ∀ i, (t.station i).linkSound = true)

/-- SECONDS_EVENT answers a next state in which a set clock is one second on and an unset one is unset; at a midnight
rollover the holidays dated before the new date are gone; at a slot boundary or rollover the held profile states are
the values at the new reading and otherwise they are kept. Every load keeps its configuration and its stop time, but
at the wrap from 2099-12-31 to 2000-01-01 a later stop time becomes the new reading. Profile rows, group minimums,
curves, the sweep, the assent record, the link port and every alert field but the notices are as before. -/
def Obligations.SecondsEventAdvancesTheClock : Prop :=
  ∀ s : State, s.inReset = false → ∃ t, exec .secondsEvent s = .next t ∧
    t.calendar.clock = s.calendar.clock.map Clock.advance ∧ t.calendar.profiles = s.calendar.profiles ∧
    t.calendar.holidays = (match s.calendar.clock with
      | none => s.calendar.holidays
      | some k =>
        if k.seconds = 86399 then s.calendar.holidays.filter (fun h => !h.date.before k.date.next)
        else s.calendar.holidays) ∧
    t.calendar.held = (match t.calendar.clock with
      | none => s.calendar.held
      | some k => if k.seconds % 1800 = 0 then t.calendar.values else s.calendar.held) ∧
    (∀ n l, s.load? n = some l → ∃ m, t.load? n = some m ∧ m.cfg = l.cfg ∧
      m.stopTime =
        (if s.calendar.clock.any (fun k => k.seconds == 86399 && k.date == { year := 2099, month := 12, day := 31 }) then
          l.stopTime.map (fun stop =>
            if 0 < stop.absolute then { date := { year := 2000, month := 1, day := 1 }, seconds := 0 } else stop)
        else l.stopTime)) ∧
    t.plant.groups = s.plant.groups ∧ t.plant.curves = s.plant.curves ∧ t.sweep = s.sweep ∧ t.assent = s.assent ∧
    t.link = s.link ∧ t.inReset = false ∧ t.pending = s.pending ∧ s.alerts.sameButQueue t.alerts

/-- For every clock reading with a date of 2000 to 2099, the advance is such a reading again, lies one second later
counted across midnights and dates, or at 2000-01-01 00:00:00 after the last second of 2099-12-31, and moves the day
of week only at midnight, from 7 to 1. -/
def Obligations.ClockAdvancesByOneSecond : Prop :=
  ∀ k : Clock, k.sound = true →
    k.advance.sound = true ∧
    k.advance.stamp.absolute =
      (if k.seconds = 86399 ∧ k.date = { year := 2099, month := 12, day := 31 } then 0 else k.stamp.absolute + 1) ∧
    k.advance.dayOfWeek = (if k.seconds = 86399 then k.dayOfWeek % 7 + 1 else k.dayOfWeek)

/-- In a state with sound start queues, SECONDS_EVENT leaves every bound load with its sample age one more, at most
31. An IDLING load whose aged sample is fresh has one second more of dwell, and at its idle dwell is PARK_PENDING with
its manual flag clear; one with a stale sample keeps dwell and state. Every other load keeps its dwell. -/
def Obligations.SecondsEventCountsDwell : Prop :=
  ∀ (s : State) (n : Nat) (l : Load), s.inReset = false → s.plant.sound → s.load? n = some l →
    ∃ t m, exec .secondsEvent s = .next t ∧ t.load? n = some m ∧
      m.sampleAge = l.sampleAge.map (fun a => min 31 (a + 1)) ∧ (l.state ≠ .idling → m.dwell = l.dwell) ∧
      (l.state = .idling → l.dwell < l.cfg.idleDwell →
        if l.sampleAge.any (fun a => decide (a + 1 ≤ 30)) then
          if l.dwell + 1 = l.cfg.idleDwell then
            m.state = .parkPending ∧ m.dwell = l.cfg.idleDwell ∧ m.manual = false
          else m.state = .idling ∧ m.dwell = l.dwell + 1
        else m.state = .idling ∧ m.dwell = l.dwell)

/-- DWELL_COMPLETE for an IDLING load with a fresh sample whose next second completes its dwell leaves that load
PARK_PENDING with its dwell at the idle dwell and its manual flag clear, and everything else as before. In a state
whose loads stand in ascending number, where the named load is not such a load nothing changes, which is the model's
choice (log entries 3 and 7). -/
def Obligations.DwellCompleteEndsTheDwell : Prop :=
  ∀ (s : State) (n : Nat), s.inReset = false →
    (∀ (l : Load) (a : Nat), s.load? n = some l → l.state = .idling → l.sampleAge = some a → a ≤ 30 →
      l.dwell + 1 = l.cfg.idleDwell →
      ∃ t, exec (.dwellComplete n) s = .next t ∧
        t.load? n = some { l with state := .parkPending, dwell := l.cfg.idleDwell, manual := false } ∧
        s.plant.sameButLoad n t.plant ∧ t.plant.stations = s.plant.stations ∧ t.plant.feeders = s.plant.feeders ∧
        t.alerts = s.alerts ∧ s.sameBeyondPlant t) ∧
    (s.plant.numbered →
      (∀ l, s.load? n = some l → l.state ≠ .idling ∨ l.isFresh = false ∨ l.dwell + 1 < l.cfg.idleDwell) →
      ∃ t, exec (.dwellComplete n) s = .next t ∧ t.blocks = s.blocks ∧ t.link = s.link)

/-- While the spacing timer runs an attempt changes nothing. Otherwise the entry granted is the first eligible one
that fits the free units with no eligible entry before it that does not fit at a pass-over count of 3; each eligible
entry before it has its count raised by one and the others are unchanged; and where nothing is granted nothing
changes. -/
def Obligations.GrantExamination : Prop :=
  (∀ (clock : Option Clock) (i : FeederId) (p : Plant), (p.feeder i).spacingTimer ≠ none → p.grantAttempt clock i = p) ∧
  (∀ (clock : Option Clock) (i : FeederId) (p : Plant),
    pickEntry (p.eligible clock) p.demandOf (p.feeder i).free (p.feeder i).queue = none → p.grantAttempt clock i = p) ∧
  (∀ (clock : Option Clock) (i : FeederId) (p : Plant) (e : QueueEntry) (rest : List QueueEntry),
    (p.feeder i).spacingTimer = none → (p.feeder i).spacing ≠ 0 →
    pickEntry (p.eligible clock) p.demandOf (p.feeder i).free (p.feeder i).queue = some (e, rest) →
    p.grantAttempt clock i = p.grantTo i e.load rest) ∧
  ∀ (eligible : QueueEntry → Bool) (demand : QueueEntry → Nat) (free : Nat) (queue : List QueueEntry) (e : QueueEntry)
    (rest : List QueueEntry),
    pickEntry eligible demand free queue = some (e, rest) ↔
      ∃ before after, queue = before ++ e :: after ∧ eligible e = true ∧ demand e ≤ free ∧
        (∀ x ∈ before, eligible x = true → free < demand x ∧ x.passed < 3) ∧
        rest = before.map (fun x => if eligible x then { x with passed := x.passed + 1 } else x) ++ after

/-- In a state with sound start queues, take a feeder with a spacing whose oldest entry is of a load on a LIVE
station, without LOCKOUT, awaiting no fan, a compressor only with its minimum off elapsed, and whose demand fits.
SPACING_TIMER_EXPIRY of the feeder's running timer, and, on a feeder without running timer, MINIMUM_OFF_ELAPSED where
the load is a compressor whose minimum off elapses at the clock reading, grant it: the load is WAKING in step ORDERED
with MOTOR ON due and its settle timer started; the feeder has given its units, lost the entry and started its spacing
timer. An expiry of a timer that does not run changes nothing (log entry 3). On a feeder with spacing 0 a grant is
followed at once by another attempt. That MINIMUM_OFF_ELAPSED makes its part of a seconds event alone, with the clock
as it stands, that it judges by the reading at which the minimum off elapses, and that it changes nothing where no
queued compressor's does, is the model's reading (log entries 3 and 7). -/
def Obligations.ArrivalsGrantTheOldest : Prop :=
  (∀ (s : State) (i : FeederId) (e : QueueEntry) (rest : List QueueEntry) (l : Load), s.inReset = false → s.plant.sound →
    (s.plant.feeder i).queue = e :: rest → s.load? e.load = some l → (s.station l.cfg.station).link = .live →
    l.hold.byLockout = false → l.awaitingFan = false →
    (l.cfg.kind = .compressor → minimumOffElapsed s.calendar.clock l = true) →
    l.cfg.demand ≤ (s.plant.feeder i).free → 0 < (s.plant.feeder i).spacing →
    ((s.plant.feeder i).spacingTimer ≠ none →
      ∃ t, exec (.spacingTimerExpiry (i.val + 1)) s = .next t ∧ t.load? e.load = some l.granted ∧
        t.plant.feeder i =
          { s.plant.feeder i with
            free := (s.plant.feeder i).free - l.cfg.demand, queue := rest,
            spacingTimer := some (Timer.start (s.plant.feeder i).spacing) } ∧
        s.plant.sameButLoad e.load t.plant ∧ t.alerts = s.alerts ∧ s.sameBeyondPlant t) ∧
    (∀ (stop : Stamp) (k : Clock), (s.plant.feeder i).spacingTimer = none → l.cfg.kind = .compressor →
      s.calendar.clock = some k → l.stopTime = some stop → 0 < l.cfg.minimumOff →
      stop.absolute + l.cfg.minimumOff = k.stamp.absolute →
      ∃ t, exec .minimumOffElapsed s = .next t ∧ t.load? e.load = some l.granted ∧
        t.plant.feeder i =
          { s.plant.feeder i with
            free := (s.plant.feeder i).free - l.cfg.demand, queue := rest,
            spacingTimer := some (Timer.start (s.plant.feeder i).spacing) } ∧
        t.alerts = s.alerts ∧ s.sameBeyondPlant t) ∧
    ((s.plant.feeder i).spacingTimer = none →
      ∃ t, exec (.spacingTimerExpiry (i.val + 1)) s = .next t ∧ t.blocks = s.blocks ∧ t.link = s.link)) ∧
  (∀ s : State, s.inReset = false →
    (∀ l ∈ s.plant.loads, l.state = .wakeQueued → l.cfg.kind = .compressor → ∀ (stop : Stamp) (k : Clock),
      l.stopTime = some stop → s.calendar.clock = some k → 0 < l.cfg.minimumOff →
      stop.absolute + l.cfg.minimumOff ≠ k.stamp.absolute) →
    ∃ t, exec .minimumOffElapsed s = .next t ∧ t.blocks = s.blocks ∧ t.link = s.link) ∧
  ∀ (clock : Option Clock) (i : FeederId) (p : Plant) (e : QueueEntry) (rest : List QueueEntry),
    (p.feeder i).spacingTimer = none → (p.feeder i).spacing = 0 →
    pickEntry (p.eligible clock) p.demandOf (p.feeder i).free (p.feeder i).queue = some (e, rest) →
    p.grantAttempt clock i = (p.grantTo i e.load rest).grantAttempt clock i

/-- In AWAIT_ANSWER and AWAIT_CHALLENGE a quarter-second event before the last of the window raises the elapsed count
by one and changes nothing else, and the timeout row changes nothing (log entry 8). The event that brings the count to
open plus close plus timeout delta, and the timeout row then, set the timeout flag; with action LAPSE the monitor
lapses, and with action STEP it takes a bad step, which lapses it by count at 0 and else restarts the window. Without
a lapse the plant is as before and of the alert block only notices may change; a lapse counts one fault event. In
DORMANT and LAPSED the event changes nothing. -/
def Obligations.WindowsCountAndTimeOut : Prop :=
  ∀ (s : State) (e : Nat), s.inReset = false →
    (s.assent.state = .awaitAnswer e →
      e + 1 < s.assent.params.answerOpen + s.assent.params.answerClose + s.assent.params.answerTimeout →
      (∃ t, exec .quarterSecondEvent s = .next t ∧ t.link = s.link ∧
        t.blocks = { s.blocks with assent := { s.assent with state := .awaitAnswer (e + 1) } }) ∧
      ∃ t, exec .answerWindowTimeout s = .next t ∧ t.link = s.link ∧ t.blocks = s.blocks) ∧
    (s.assent.state = .awaitChallenge e →
      e + 1 < s.assent.params.requestOpen + s.assent.params.requestClose + s.assent.params.requestTimeout →
      (∃ t, exec .quarterSecondEvent s = .next t ∧ t.link = s.link ∧
        t.blocks = { s.blocks with assent := { s.assent with state := .awaitChallenge (e + 1) } }) ∧
      ∃ t, exec .requestWindowTimeout s = .next t ∧ t.link = s.link ∧ t.blocks = s.blocks) ∧
    (∀ c : Instr, c = .quarterSecondEvent ∨ c = .answerWindowTimeout → s.assent.state = .awaitAnswer e →
      s.assent.params.answerOpen + s.assent.params.answerClose + s.assent.params.answerTimeout = e + 1 →
      ∃ t, exec c s = .next t ∧
        t.assent =
          (if s.assent.params.timeoutLapse then
            { s.assent with flags := { s.assent.flags with answerTimeout := true } }.afterLapse false
          else { s.assent with flags := { s.assent.flags with answerTimeout := true } }.afterBad (.awaitAnswer 0)) ∧
        t.calendar = s.calendar ∧ t.sweep = s.sweep ∧ t.link = s.link ∧ t.pending = s.pending ∧
        (t.assent.state = .lapsed → s.alerts.faultCounted t.alerts) ∧
        (t.assent.state ≠ .lapsed → t.plant = s.plant ∧ s.alerts.sameButQueue t.alerts)) ∧
    (∀ c : Instr, c = .quarterSecondEvent ∨ c = .requestWindowTimeout → s.assent.state = .awaitChallenge e →
      s.assent.params.requestOpen + s.assent.params.requestClose + s.assent.params.requestTimeout = e + 1 →
      ∃ t, exec c s = .next t ∧
        t.assent =
          (if s.assent.params.timeoutLapse then
            { s.assent with flags := { s.assent.flags with requestTimeout := true } }.afterLapse false
          else { s.assent with flags := { s.assent.flags with requestTimeout := true } }.afterBad (.awaitChallenge 0)) ∧
        t.calendar = s.calendar ∧ t.sweep = s.sweep ∧ t.link = s.link ∧ t.pending = s.pending ∧
        (t.assent.state = .lapsed → s.alerts.faultCounted t.alerts) ∧
        (t.assent.state ≠ .lapsed → t.plant = s.plant ∧ s.alerts.sameButQueue t.alerts)) ∧
    (s.assent.state = .dormant ∨ s.assent.state = .lapsed →
      ∃ t, exec .quarterSecondEvent s = .next t ∧ t.link = s.link ∧ t.blocks = s.blocks)

/-- In a state with sound start queues a PARKED load whose fallback is WAKE is WAKE_QUEUED or WAKING after an
ANSWER_WINDOW_TIMEOUT that lapses the monitor, and after every QUARTER_SECOND_EVENT, ANSWER_WINDOW_TIMEOUT,
REQUEST_WINDOW_TIMEOUT, CHALLENGE and ANSWER, the requests on a free link, by which a monitor that was not LAPSED
becomes so; the whole change of the plant is then the wake requests of the loads of fallback WAKE. A PARKED load with
wake at curfew close is WAKE_QUEUED or WAKING after a SECONDS_EVENT, and, on a free link, a SET_CLOCK,
SET_PROFILE_DAY, SET_HOLIDAY or DROP_HOLIDAY, by which its profile goes from OPEN to CLOSED; of the last three the
whole change of the plant is the wake requests of the loads with wake at close whose profiles closed. Its
configuration and its park-owned flag are as before. The requests of a batch are made one after another in ascending
wake rank, loads of equal rank in ascending load number. -/
def Obligations.LapseAndCurfewCloseWakeParkedLoads : Prop :=
  (∀ (s : State) (n : Nat) (l : Load), s.inReset = false → s.plant.sound → s.load? n = some l → l.state = .parked →
    (∀ e : Nat, l.cfg.fallbackWake = true → s.assent.state = .awaitAnswer e →
      s.assent.params.answerOpen + s.assent.params.answerClose + s.assent.params.answerTimeout = e + 1 →
      s.assent.params.timeoutLapse = true ∨ s.assent.fails →
      ∃ t m, exec .answerWindowTimeout s = .next t ∧ t.assent.state = .lapsed ∧ t.load? n = some m ∧
        (m.state = .wakeQueued ∨ ∃ w, m.state = .waking w) ∧ m.cfg = l.cfg ∧ m.parkOwned = l.parkOwned) ∧
    (∀ p : ProfileId, l.cfg.wakeAtClose = true → l.cfg.profile = some p → s.calendar.held[p] = true →
      ∃ t m, exec .secondsEvent s = .next t ∧ t.load? n = some m ∧ m.cfg = l.cfg ∧ m.parkOwned = l.parkOwned ∧
        (t.calendar.held[p] = false → m.state = .wakeQueued ∨ ∃ w, m.state = .waking w)) ∧
    (∀ (c : Instr) (t : State) (tag : Byte) (echo value : Nat), l.cfg.fallbackWake = true →
      c = .quarterSecondEvent ∨ c = .answerWindowTimeout ∨ c = .requestWindowTimeout ∨
        (s.link.reply = none ∧ (c = .challenge tag ∨ c = .answer tag echo value)) →
      exec c s = .next t → s.assent.state ≠ .lapsed → t.assent.state = .lapsed →
      ∃ m, t.load? n = some m ∧ (m.state = .wakeQueued ∨ ∃ w, m.state = .waking w) ∧ m.cfg = l.cfg ∧
        m.parkOwned = l.parkOwned) ∧
    ∀ (c : Instr) (t : State) (tag : Byte) (d : Date) (x y : Nat) (slots : SlotRow) (p : ProfileId),
      l.cfg.wakeAtClose = true → l.cfg.profile = some p → s.link.reply = none →
      c = .setClock tag d x y ∨ c = .setProfileDay tag x y slots ∨ c = .setHoliday tag d x ∨ c = .dropHoliday tag d →
      exec c s = .next t → s.calendar.held[p] = true → t.calendar.held[p] = false →
      ∃ m, t.load? n = some m ∧ (m.state = .wakeQueued ∨ ∃ w, m.state = .waking w) ∧ m.cfg = l.cfg ∧
        m.parkOwned = l.parkOwned) ∧
  (∀ (s t : State) (c : Instr) (tag : Byte) (echo value : Nat),
    c = .quarterSecondEvent ∨ c = .answerWindowTimeout ∨ c = .requestWindowTimeout ∨
      (s.link.reply = none ∧ (c = .challenge tag ∨ c = .answer tag echo value)) →
    exec c s = .next t → s.assent.state ≠ .lapsed → t.assent.state = .lapsed →
    t.plant = s.plant.wakeAll s.calendar.clock (s.plant.batch (fun l => l.cfg.fallbackWake))) ∧
  (∀ (s t : State) (c : Instr) (tag : Byte) (d : Date) (x y : Nat) (slots : SlotRow),
    s.link.reply = none → c = .setProfileDay tag x y slots ∨ c = .setHoliday tag d x ∨ c = .dropHoliday tag d →
    exec c s = .next t →
    t.plant = s.plant.wakeAll s.calendar.clock (s.plant.batch (fun l => l.cfg.wakeAtClose &&
      l.cfg.profile.any (fun p => s.calendar.held[p] && !t.calendar.held[p])))) ∧
  ∀ (p : Plant) (chosen : Load → Bool), p.numbered →
    ∃ ls : List Load, p.batch chosen = ls.map Load.num ∧ ls.Perm (p.loads.filter chosen) ∧
      ls.Pairwise (fun a b => a.cfg.wakeRank < b.cfg.wakeRank ∨ (a.cfg.wakeRank = b.cfg.wakeRank ∧ a.num < b.num)) ∧
      ∀ (clock : Option Clock) (m : Nat) (ms : List Nat),
        p.wakeAll clock (m :: ms) = (p.wake clock m).wakeAll clock ms

/-- For a PARKING load with its timer running: in a step timed by the step limit STEP_TIMER_EXPIRY, and in COASTING
COAST_LIMIT_EXPIRY, leave it FAULTED without timer, order, manual and wake-due flag, park-owned kept, and count one
fault event; in the dwell phase of UNLOADING, UNLOAD_DWELL_EXPIRY leaves it in STOPPING with its timer at the step
limit and, unless it is locked out, MOTOR OFF due. Every other load, the feeders and the other blocks are as before,
and of the stations only the order slot and last-served channel of the load's own can change. -/
def Obligations.ParkTimersExpire : Prop :=
  ∀ (s : State) (n : Nat) (l : Load) (step : ParkStep) (c : Instr), s.inReset = false → s.load? n = some l →
    l.state = .parking step → l.timer ≠ none →
    ((c = .stepTimerExpiry n ∧ step ≠ .coasting ∧ step ≠ .unloading .dwell) ∨
      (c = .coastLimitExpiry n ∧ step = .coasting) →
      ∃ t, exec c s = .next t ∧ t.load? n = some l.faulted ∧ s.alerts.faultCounted t.alerts ∧
        s.plant.sameButLoad n t.plant ∧ t.plant.feeders = s.plant.feeders ∧ s.sameBeyondPlant t ∧
        (∀ j, j ≠ l.cfg.station → t.station j = s.station j) ∧
        t.station l.cfg.station =
          { s.station l.cfg.station with
            slot := (t.station l.cfg.station).slot, lastServed := (t.station l.cfg.station).lastServed }) ∧
    (step = .unloading .dwell →
      ∃ t, exec (.unloadDwellExpiry n) s = .next t ∧
        t.load? n = some { l with
          state := .parking .stopping, timer := some (Timer.start l.cfg.stepLimit),
          due := if l.hold.byLockout then l.due else some .motorOff } ∧
        t.alerts = s.alerts ∧ s.plant.sameButLoad n t.plant ∧ t.plant.feeders = s.plant.feeders ∧
        s.sameBeyondPlant t ∧ (∀ j, j ≠ l.cfg.station → t.station j = s.station j) ∧
        t.station l.cfg.station =
          (if l.hold.byLockout = false ∧ (s.station l.cfg.station).slot = none then
            { s.station l.cfg.station with
              slot := some { channel := l.cfg.channel, kind := .motorOff }, lastServed := l.cfg.channel }
          else s.station l.cfg.station))

/-- In a state with sound start queues SETTLE_TIMER_EXPIRY for a WAKING load with its timer running leaves it FAULTED
with its park-owned flag kept and one fault event counted if its station is LIVE or SUSPECT, and otherwise OFFLINE,
park-owned, with wake-due clear and only notices changed in the alert block. Its due order and timer are gone. With an
empty start queue its units are free again, no other load changes, and the other feeders are as before. -/
def Obligations.SettleTimerExpires : Prop :=
  ∀ (s : State) (n : Nat) (l : Load) (w : WakeStep), s.inReset = false → s.plant.sound → s.load? n = some l →
    l.state = .waking w → l.timer ≠ none →
    ∃ t, exec (.settleTimerExpiry n) s = .next t ∧ s.sameBeyondPlant t ∧
      (if (s.station l.cfg.station).link = .live ∨ (s.station l.cfg.station).link = .suspect then
        t.load? n = some l.faulted ∧ s.alerts.faultCounted t.alerts
      else
        t.load? n = some { l with state := .offline, timer := none, due := none, parkOwned := true, wakeDue := false } ∧
        s.alerts.sameButQueue t.alerts) ∧
      ((s.plant.feeder l.cfg.feeder).queue = [] →
        s.plant.sameButLoad n t.plant ∧
        t.plant.feeders = (s.plant.setFeeder l.cfg.feeder (fun f => { f with free := f.free + l.cfg.demand })).feeders)

/-- START_SWEEP with a mode other than CONTINUOUS and SINGLE or a last station outside 1 to 40 is refused RANGE. In
STOPPED it sets the mode, and a round begins with the last station given. In CONTINUOUS a CONTINUOUS request leaves
only a pending last station, and SINGLE is refused BUSY; in SINGLE both are. A PAUSE_END of a continuous sweep without
a stop request begins a round with the pending last station, if any. When a round begins, each station is EXCLUDED
exactly when it is disabled or above the last station, one that leaves EXCLUDED is UNHEARD with miss count 0, the
others keep link state and miss count, the round flags are clear, round number and digest stay, and the slot of the
lowest station to be visited, or the empty slot, begins. The calendar and the assent record are as before. -/
def Obligations.RoundsStart : Prop :=
  ∀ s : State, s.inReset = false →
    (∀ (tag : Byte) (mode last : Nat), s.link.reply = none →
      (¬(1 ≤ mode ∧ mode ≤ 2 ∧ 1 ≤ last ∧ last ≤ 40) →
        ∃ t, exec (.startSweep tag mode last) s = .next t ∧ s.onlyAnswers t 14 tag .range) ∧
      (1 ≤ last → last ≤ 40 →
        (∀ m : SweepMode, m ≠ .stopped → mode = m.code → s.sweep.mode = .stopped → s.sweep.pendingLast = none →
          ∃ t, exec (.startSweep tag mode last) s = .next t ∧ t.answers 14 tag .done [] ∧ t.sweep.mode = m ∧
            roundBegins last s t ∧ t.sweep.stopRequested = s.sweep.stopRequested ∧ t.sweep.rate = s.sweep.rate ∧
            t.sweep.pause = s.sweep.pause ∧ t.calendar = s.calendar ∧ t.assent = s.assent) ∧
        (mode = 1 → s.sweep.mode = .continuous →
          ∃ t, exec (.startSweep tag mode last) s = .next t ∧ t.answers 14 tag .done [] ∧
            t.blocks = { s.blocks with sweep := { s.sweep with pendingLast := some last } }) ∧
        (1 ≤ mode → mode ≤ 2 → s.sweep.mode = .single ∨ (mode = 2 ∧ s.sweep.mode = .continuous) →
          ∃ t, exec (.startSweep tag mode last) s = .next t ∧ s.onlyAnswers t 14 tag .busy))) ∧
    (s.sweep.line = .pausing → s.sweep.mode = .continuous → s.sweep.stopRequested = false →
      ∃ t, exec .pauseEnd s = .next t ∧ t.sweep.mode = .continuous ∧ t.sweep.stopRequested = false ∧
        roundBegins (s.sweep.pendingLast.getD s.sweep.lastStation) s t ∧ t.sweep.rate = s.sweep.rate ∧
        t.sweep.pause = s.sweep.pause ∧ t.calendar = s.calendar ∧ t.assent = s.assent ∧ t.link = s.link)

/-- SLOT_END after a visit that is over begins the visit of the next station to be visited above it, and changes
nothing else. With none left, and after the empty slot of a round, the round ends: the digest takes the round flags,
the sum of the reported activities in ACTIVE, IDLING and PARK_PENDING, the number of PARKED loads and the round
number; the round number goes on by one, from 65535 to 0; DIGEST is raised; and with a pause above 0 the pause begins.
A pause of 0 begins and ends at the round end. SLOT_END of a visit that is not over is the miss of the visit, as
REPLY_CHARACTER_FAULT is during the reply (log entry 19), and then the SLOT_END of a visit that is over. PAUSE_END of
a single sweep, or of one with a stop request, makes the mode STOPPED, clears the stop request and takes a pending
last station; SWEEP_DONE is raised for a single sweep alone. That it clears the round flags is the model's reading of
section 7.6 (log entry 31). The round end and the stop do not touch the plant. SLOT_END in a pause or while the sweep
is STOPPED, and PAUSE_END outside a pause, change nothing (log entry 3). -/
def Obligations.SlotsAndRoundsEnd : Prop :=
  ∀ s : State, s.inReset = false →
    (∀ (v : Visit) (i : StationId), s.sweep.line = .slot v → v.phase = .over → s.nextVisit (v.station.val + 1) = some i →
      ∃ t, exec .slotEnd s = .next t ∧ t.link = s.link ∧ v.station < i ∧ s.isVisited i = true ∧
        (∀ j : StationId, v.station < j → j < i → s.isVisited j = false) ∧
        t.blocks = { s.blocks with sweep := { s.sweep with line := .slot (s.visitOf i) } }) ∧
    ((s.sweep.line = .emptySlot ∨
        ∃ v, s.sweep.line = .slot v ∧ v.phase = .over ∧ ∀ j : StationId, v.station < j → s.isVisited j = false) →
      0 < s.sweep.pause →
      ∃ t, exec .slotEnd s = .next t ∧ t.link = s.link ∧ s.alerts.sameButQueue t.alerts ∧
        t.alerts = (s.raiseDevice .digest).alerts ∧
        t.blocks = { s.blocks with
          alerts := t.alerts
          sweep := { s.sweep with
            digest :=
              { flags := s.sweep.flags
                activity := ((s.plant.loads.filter (fun l =>
                  l.state == .active || l.state == .idling || l.state == .parkPending)).map Load.reported).sum
                parked := (s.plant.loads.filter (fun l => l.state == .parked)).length
                round := s.sweep.roundNumber }
            roundNumber := (s.sweep.roundNumber + 1) % 65536
            line := .pausing } }) ∧
    (s.sweep.line = .pausing → s.sweep.mode = .single ∨ (s.sweep.mode = .continuous ∧ s.sweep.stopRequested = true) →
      ∃ t, exec .pauseEnd s = .next t ∧ t.link = s.link ∧ s.alerts.sameButQueue t.alerts ∧
        t.alerts = (if s.sweep.mode = .single then s.raiseDevice .sweepDone else s).alerts ∧
        t.blocks = { s.blocks with
          alerts := t.alerts
          sweep := { s.sweep with
            mode := .stopped, lastStation := s.sweep.pendingLast.getD s.sweep.lastStation, pendingLast := none,
            stopRequested := false, flags := .clear, line := .idle } }) ∧
    (s.sweep.line = .pausing ∨ s.sweep.line = .idle →
      ∃ t, exec .slotEnd s = .next t ∧ t.link = s.link ∧ t.blocks = s.blocks) ∧
    (s.sweep.line ≠ .pausing → ∃ t, exec .pauseEnd s = .next t ∧ t.link = s.link ∧ t.blocks = s.blocks) ∧
    (∀ v : Visit, s.sweep.line = .slot v → v.phase ≠ .over →
      ∃ t, exec .replyCharacterFault { s with sweep := { s.sweep with line := .slot { v with phase := .receiving } } } =
          .next t ∧
        exec .slotEnd s = exec .slotEnd t) ∧
    (s.sweep.line = .emptySlot ∨
        (∃ v, s.sweep.line = .slot v ∧ v.phase = .over ∧ ∀ j : StationId, v.station < j → s.isVisited j = false) →
      s.sweep.pause = 0 →
      ∃ t, exec .slotEnd { s with sweep := { s.sweep with pause := 1 } } = .next t ∧ t.sweep.line = .pausing ∧
        exec .slotEnd s = exec .pauseEnd { t with sweep := { t.sweep with pause := 0 } })

/-- REPLY_START_TIMEOUT before a reply has begun, and REPLY_CHARACTER_FAULT or a FIELD_REPLY_RECEIVED that fails the
checks while a reply may arrive, are a miss of the visited station: its miss count is one more, at most 7; at 3 or
more it is LOST, below that UNHEARD if it was UNHEARD and else SUSPECT; ANY_MISS is set, and NEW_LOSS and one fault
event at an entry into LOST only. The slot runs on. Enabled value, channels fitted, last-served channel, inquiry,
results and last values are kept, every other station is as before, and without an entry into LOST so are the order
slot, the loads, the feeders and the alert block. That a fault of a character, or a reply, before REPLY_START_BIT is
judged so too is the model's reading (log entry 18). -/
def Obligations.MissesMoveTheLinkState : Prop :=
  ∀ (s : State) (v : Visit) (c : Instr), s.inReset = false → s.sweep.line = .slot v →
    (s.station v.station).link ≠ .excluded →
    (c = .replyStartTimeout ∧ v.phase = .listening) ∨
      (c = .replyCharacterFault ∧ (v.phase = .listening ∨ v.phase = .receiving)) ∨
      (∃ frame, c = .fieldReplyReceived frame ∧ (v.phase = .listening ∨ v.phase = .receiving) ∧
        parseReply v frame = none) →
    ∃ t, exec c s = .next t ∧
      (t.station v.station).misses = min 7 ((s.station v.station).misses + 1) ∧
      (t.station v.station).link =
        (if (s.station v.station).link = .lost ∨ 3 ≤ min 7 ((s.station v.station).misses + 1) then .lost
        else if (s.station v.station).link = .unheard then .unheard else .suspect) ∧
      (t.station v.station).inquiry = (s.station v.station).inquiry ∧
      (t.station v.station).once = (s.station v.station).once ∧
      (t.station v.station).round = (s.station v.station).round ∧
      (t.station v.station).lastCall = (s.station v.station).lastCall ∧
      (t.station v.station).lastLockout = (s.station v.station).lastLockout ∧
      (t.station v.station).enabled = (s.station v.station).enabled ∧
      (t.station v.station).fitted = (s.station v.station).fitted ∧
      (t.station v.station).lastServed = (s.station v.station).lastServed ∧
      (t.station v.station).runHours = (s.station v.station).runHours ∧
      (t.station v.station).temperatures = (s.station v.station).temperatures ∧
      (t.station v.station).faultList = (s.station v.station).faultList ∧
      (t.station v.station).ident = (s.station v.station).ident ∧
      (∀ j, j ≠ v.station → t.station j = s.station j) ∧
      t.plant.groups = s.plant.groups ∧ t.plant.curves = s.plant.curves ∧
      t.sweep = { s.sweep with
        line := .slot { v with phase := .over }
        flags := { s.sweep.flags with
          anyMiss := true
          newLoss := s.sweep.flags.newLoss ||
            ((t.station v.station).link == .lost && (s.station v.station).link != .lost) } } ∧
      t.calendar = s.calendar ∧ t.assent = s.assent ∧ t.link = s.link ∧ t.pending = s.pending ∧
      (if (t.station v.station).link = .lost ∧ (s.station v.station).link ≠ .lost then s.alerts.faultCounted t.alerts
      else
        t.plant.loads = s.plant.loads ∧ t.plant.feeders = s.plant.feeders ∧ t.alerts = s.alerts ∧
        (t.station v.station).slot = (s.station v.station).slot ∧
        (t.station v.station).restartNoted = (s.station v.station).restartNoted)

/-- In a state with sound start queues and no two loads at one place: the miss that makes a station LOST, and the
start of a round, by START_SWEEP in STOPPED or by PAUSE_END, for every station that is not yet EXCLUDED and is
disabled or above the last station then in force, leave every load of such a station as the table of section 1.10
says, without its due order; every load of another station as before; the station's order slot empty and restart-noted
clear, those of the other stations as before; and every start queue without such stations' entries, the others in
their order with their counts. Capacities, free units and spacings are as before. A load that enters OFFLINE so raises
OFFLINE. A loss raises LOST and counts one fault event; an exclusion counts none, and of the alert block only notices
and, where a fault no longer stands, the beacon can change. That a fault of a character, or a reply, before
REPLY_START_BIT is judged so too is the model's reading (log entry 18). -/
def Obligations.LossMovesTheLoads : Prop :=
  (∀ (s : State) (v : Visit) (c : Instr), s.inReset = false → s.sweep.line = .slot v →
    s.plant.sound → s.plant.placed → (s.station v.station).link = .live ∨ (s.station v.station).link = .suspect ∨
      (s.station v.station).link = .unheard → 2 ≤ (s.station v.station).misses →
    (c = .replyStartTimeout ∧ v.phase = .listening) ∨
      (c = .replyCharacterFault ∧ (v.phase = .listening ∨ v.phase = .receiving)) ∨
      (∃ frame, c = .fieldReplyReceived frame ∧ (v.phase = .listening ∨ v.phase = .receiving) ∧
        parseReply v frame = none) →
    ∃ t, exec c s = .next t ∧ (t.station v.station).link = .lost ∧
      (∀ n l, s.load? n = some l → t.load? n = some (if l.cfg.station = v.station then l.afterLoss else l)) ∧
      (∀ n, s.load? n = none → t.load? n = none) ∧
      (t.station v.station).slot = none ∧ (t.station v.station).restartNoted = false ∧
      (∀ i : FeederId, t.plant.feeder i = { s.plant.feeder i with
        queue := (s.plant.feeder i).queue.filter
          (fun e => !(s.load? e.load).any (fun l => l.cfg.station == v.station)) }) ∧
      s.alerts.faultCounted t.alerts ∧
      (s.alerts.enabled = true → s.alerts.stationSet.getLsbD 0 = true → t.alerts.shows (.station v.station) 0) ∧
      ∀ n l, s.load? n = some l → l.cfg.station = v.station → l.state ≠ .offline → l.afterLoss.state = .offline →
        s.alerts.enabled = true → l.cfg.events.getLsbD 6 = true → t.alerts.shows (.load n) 6) ∧
  ∀ (s : State) (c : Instr) (last : Nat), s.inReset = false → s.plant.sound → s.plant.placed →
    (∃ (tag : Byte) (m : SweepMode), c = .startSweep tag m.code last ∧ m ≠ .stopped ∧ s.link.reply = none ∧ 1 ≤ last ∧
        last ≤ 40 ∧ s.sweep.mode = .stopped ∧ s.sweep.pendingLast = none) ∨
      (c = .pauseEnd ∧ s.sweep.line = .pausing ∧ s.sweep.mode = .continuous ∧ s.sweep.stopRequested = false ∧
        last = s.sweep.pendingLast.getD s.sweep.lastStation) →
    (let gone := fun i : StationId =>
      (s.station i).link != .excluded && !((s.station i).enabled && decide (i.val < last))
    ∃ t, exec c s = .next t ∧
      (∀ n l, s.load? n = some l → t.load? n = some (if gone l.cfg.station = true then l.afterLoss else l)) ∧
      (∀ n, s.load? n = none → t.load? n = none) ∧
      (∀ i, (t.station i).slot = (if gone i = true then none else (s.station i).slot) ∧
        (t.station i).restartNoted = (if gone i = true then false else (s.station i).restartNoted)) ∧
      (∀ i : FeederId, t.plant.feeder i = { s.plant.feeder i with
        queue := (s.plant.feeder i).queue.filter
          (fun e => !(s.load? e.load).any (fun l => gone l.cfg.station)) }) ∧
      t.alerts = { s.alerts with queue := t.alerts.queue, beacon := t.alerts.beacon } ∧
      (t.alerts.beacon = true → s.alerts.beacon = true) ∧
      ∀ n l, s.load? n = some l → gone l.cfg.station = true → l.state ≠ .offline → l.afterLoss.state = .offline →
        s.alerts.enabled = true → l.cfg.events.getLsbD 6 = true → t.alerts.shows (.load n) 6)

/-- While a reply may arrive, a FIELD_REPLY_RECEIVED whose characters pass the checks of the visit leaves the station
LIVE with miss count 0 and restart-noted as the reply's restart flag, its last call and last lockout of every channel
that the reply reports and that is fitted as reported, and those of the other channels as before. Of an inquiry visit
it stores the results of the kind sent, those of no longer fitted channels dropped, and keeps the other results; the
inquiry slot then advances as section 6.5 states, unless it was replaced since the visit was sent. BACK, INQUIRY_DONE
and RESTARTED are raised where they are due. Of the round flags NEW_CALL is set if it was set or a call that is
reported on a fitted channel was off before, and ANY_MISS and NEW_LOSS are kept. The whole effect is that of the five
steps of section 6.3 and of the gate checks, in their order. The slot runs on with the reply taken, every other
station keeps its link state and miss count, and mode, last station, round number and digest, the calendar, the assent
record and the link port are as before. That channels no longer fitted are left out, and that a reply before
REPLY_START_BIT is taken, are the model's readings (log entries 17 and 18). -/
def Obligations.ValidReplyMakesTheStationLive : Prop :=
  ∀ (s : State) (v : Visit) (frame : List Byte) (r : Reply), s.inReset = false → s.sweep.line = .slot v →
    v.phase = .listening ∨ v.phase = .receiving → parseReply v frame = some r →
    ∃ t, exec (.fieldReplyReceived frame) s = .next t ∧
      (t.station v.station).link = .live ∧ (t.station v.station).misses = 0 ∧
      (t.station v.station).restartNoted = r.restart ∧
      (∀ c : Channel, (t.station v.station).lastCall[c] =
        (match r.reports[c.val]? with
          | some x => if c.val < (s.station v.station).fitted then x.call else (s.station v.station).lastCall[c]
          | none => (s.station v.station).lastCall[c])) ∧
      (∀ c : Channel, (t.station v.station).lastLockout[c] =
        (match r.reports[c.val]? with
          | some x => if c.val < (s.station v.station).fitted then x.lockout else (s.station v.station).lastLockout[c]
          | none => (s.station v.station).lastLockout[c])) ∧
      (∀ j, j ≠ v.station →
        (t.station j).link = (s.station j).link ∧ (t.station j).misses = (s.station j).misses ∧
        (t.station j).lastCall = (s.station j).lastCall ∧ (t.station j).lastLockout = (s.station j).lastLockout) ∧
      t.sweep = { s.sweep with line := .slot { v with phase := .over }, flags := t.sweep.flags } ∧
      t.sweep.flags.anyMiss = s.sweep.flags.anyMiss ∧ t.sweep.flags.newLoss = s.sweep.flags.newLoss ∧
      (t.sweep.flags.newCall = true ↔ s.sweep.flags.newCall = true ∨
        ∃ (c : Channel) (x : Report), r.reports[c.val]? = some x ∧ c.val < (s.station v.station).fitted ∧
          x.call = true ∧ (s.station v.station).lastCall[c] = false) ∧
      t.calendar = s.calendar ∧ t.assent = s.assent ∧ t.link = s.link ∧ t.pending = s.pending ∧
      (let before := s.station v.station
      let after := t.station v.station
      after.runHours = (match r.results with
        | .hours counts => some (counts.take before.fitted)
        | _ => before.runHours) ∧
      after.temperatures = (match r.results with
        | .temps degrees => some (degrees.take before.fitted)
        | _ => before.temperatures) ∧
      after.faultList = (match r.results with
        | .faults codes => some codes
        | _ => before.faultList) ∧
      after.ident = (match r.results with
        | .ident type level => some (type, level)
        | _ => before.ident) ∧
      (r.results = .routine ↔ v.kind = .routine) ∧
      (after.inquiry, after.once, after.round) =
        (if v.inquiryReplaced = true then (before.inquiry, before.once, before.round)
        else if v.kind = .routine then
          (if before.round = true ∧ before.inquiry = .routine then .hours else before.inquiry, before.once, before.round)
        else if before.round = true then
          match before.inquiry with
          | .hours => (.temps, before.once, true)
          | .temps => (.faults, before.once, true)
          | .faults => (.routine, false, !before.once)
          | .routine => (.hours, before.once, true)
          | .ident => (.hours, before.once, true)
        else if before.once = true then (.routine, false, false)
        else (before.inquiry, false, false)) ∧
      (s.alerts.enabled = true →
        (before.link = .lost ∨ before.link = .unheard → s.alerts.stationSet.getLsbD 1 = true →
          t.alerts.shows (.station v.station) 1) ∧
        (r.restart = true → before.restartNoted = false → s.alerts.stationSet.getLsbD 2 = true →
          t.alerts.shows (.station v.station) 2) ∧
        (v.kind ≠ .routine → s.alerts.stationSet.getLsbD 3 = true → t.alerts.shows (.station v.station) 3)) ∧
      (let opened := (s.setPhase v .over).heard v.station
      let echoed := match r.echo with
        | none => opened
        | some e => opened.takeEcho v.station e
      let stored := echoed.takeResults v r.results
      t = (((stored.judgeRestart v.station r.restart).takeChannels v.station
        (stored.restartMark v.station r.restart) channelIds r.reports).gateChecks v.station).settlePins))

/-- All in a state with sound start queues, for a report without a call or lockout edge. Running in ACTIVE with its
idle flag clear, in IDLING with it set, or in PARK_PENDING, with a valid sample and no strokes of a press: A16, sample
age and time follow the sample; the idle flag is set at or below the idle threshold, cleared at or above the busy
threshold and else kept; one that becomes set takes ACTIVE to IDLING with dwell 0, one that becomes clear takes
IDLING, and PARK_PENDING without the manual flag, to ACTIVE with dwell 0; else state and dwell are kept. Strokes of a
press leave these states ACTIVE with dwell 0, idle and manual flag clear. Stopped, they become STOPPED with dwell 0
and manual clear, and STOPPED_EXT is raised. Running in STOPPED, PARKED and WAKE_QUEUED: ACTIVE with dwell 0, judged
at once by the report's sample; from PARKED park-owned, wake-due and due order go, from WAKE_QUEUED the queue entry,
park-owned and, as the model reads it, a due order (log entry 13), and both raise LOCAL_START. No other load that is
not WAKE_QUEUED changes; without a fan of a zone no other load and no other entry does, and for such a fan none of the
zone awaits a fan. Reported stopped there, in FAULTED, and in WAKING unless RUNNING, the load only takes holds, sample
and latest flags. Nothing outside plant and notices changes. -/
def Obligations.RunningReportIsAssessed : Prop :=
  (∀ (s : State) (n : Nat) (l : Load) (r : Report) (raw : Nat) (how : Adoption), s.plant.sound → s.load? n = some l →
    (l.state = .active ∧ l.idle = false) ∨ (l.state = .idling ∧ l.idle = true) ∨ l.state = .parkPending →
    r.run ≠ .stopped → r.sample = some raw → (l.cfg.kind = .press → r.strokes = none ∨ r.strokes = some 0) →
    ∃ m, (s.takeReport n how r.call r.lockout r).load? n = some m ∧ m.cfg = l.cfg ∧ m.manual = l.manual ∧
      m.parkOwned = l.parkOwned ∧ m.due = l.due ∧ m.a16 = l.sampled s.plant.curves[l.cfg.curve] raw ∧
      m.sampleAge = some 0 ∧ m.sampleTime = s.now ∧
      m.hold = { byCall := r.call, byHost := l.hold.byHost, byLockout := r.lockout } ∧
      (let idle :=
        if m.reported ≤ l.cfg.idleThreshold then true
        else if l.cfg.busyThreshold ≤ m.reported then false else l.idle
      if idle = true ∧ l.state = .active then m.idle = true ∧ m.state = .idling ∧ m.dwell = 0
      else if idle = false ∧ l.idle = true ∧ (l.state = .idling ∨ (l.state = .parkPending ∧ l.manual = false)) then
        m.idle = false ∧ m.state = .active ∧ m.dwell = 0
      else m.idle = idle ∧ m.state = l.state ∧ m.dwell = l.dwell)) ∧
  ∀ (s : State) (n : Nat) (l : Load) (r : Report) (how : Adoption), s.plant.sound → s.load? n = some l →
    (let t := s.takeReport n how r.call r.lockout r
    let u := l.underReport s.plant.curves s.now r
    (l.cfg.kind = .press → l.state = .active ∨ l.state = .idling ∨ l.state = .parkPending →
      (l.manual = true → l.state = .parkPending) → r.run ≠ .stopped → (∃ k, r.strokes = some k ∧ 0 < k) →
      t = { s with plant := s.plant.setLoad n (fun _ =>
        { u with state := .active, idle := false, dwell := 0, manual := false }) }) ∧
    (l.state = .active ∨ l.state = .idling ∨ l.state = .parkPending → r.run = .stopped →
      t = ({ s with plant := s.plant.setLoad n (fun _ =>
        { u with state := .stopped, manual := false, dwell := 0 }) } : State).raiseLoad n .stoppedExt) ∧
    (l.state = .faulted ∨ (r.run ≠ .running ∧ ∃ w, l.state = .waking w) ∨
        (r.run = .stopped ∧ (l.state = .stopped ∨ l.state = .parked ∨ l.state = .wakeQueued)) →
      t = { s with plant := s.plant.setLoad n (fun _ => u) }) ∧
    ∀ x : Load, r.run ≠ .stopped →
      (l.state = .stopped ∧ x = l) ∨
        (l.state = .parked ∧ x = { l with parkOwned := false, wakeDue := false, due := none }) ∨
        (l.state = .wakeQueued ∧ x = { l with parkOwned := false, awaitingFan := false, due := none }) →
      t.load? n = some (x.activated s.plant.curves s.now r) ∧ s.sameBeyondPlant t ∧
      t.alerts = (if l.state = .stopped then s else s.raiseLoad n .localStart).alerts ∧
      (∀ m y, m ≠ n → s.load? m = some y → y.state ≠ .wakeQueued → t.load? m = some y) ∧
      (l.cfg.kind ≠ .fan ∨ l.cfg.zone = 0 → (∀ m, m ≠ n → t.load? m = s.load? m) ∧
        t.plant.feeders =
          (if l.state = .wakeQueued then
            s.plant.setFeeder l.cfg.feeder (fun f => { f with queue := f.queue.filter (fun e => e.load != n) })
          else s.plant).feeders) ∧
      (l.cfg.kind = .fan → l.cfg.zone ≠ 0 → ∀ m y, m ≠ n → s.load? m = some y → y.state = .wakeQueued →
        y.cfg.zone = l.cfg.zone → ∃ z, t.load? m = some z ∧ z.awaitingFan = false))

/-- An echo for an empty slot, or of another channel or kind than the slot's order, changes nothing. All else in a
state with sound start queues. A matching echo for a bound load whose due order it is ends that order: REFUSED faults
a load in PARKING or WAKING; TAKEN takes DECLUTCHING to COASTING, marks the order phase of UNLOADING, lets STOPPING
wait, takes ORDERED to SETTLING, and leaves PARKED and WAKE_QUEUED. The emptied slot then takes the waiting order of
the first channel that has one, in turn from the channel after the last-served one, which becomes last-served; with
none it stays empty and the last-served channel is kept; the other stations are as before. Only where REFUSED returns
the units of a WAKING load to a feeder with a queue can a grant come first: the MOTOR ON of a load of the station that
they grant then enters the empty slot before any waiting order, which is the model's reading (log entry 20). Reports
without an edge: in PARKING, running with speed-low ends COASTING in STOPPING with MOTOR OFF due, unloaded after the
echo starts the dwell phase, loaded in the dwell phase makes the load ACTIVE with PARK_ABORTED, any other running
report moves nothing, and a stopped one ends in PARKED, park-owned, with PARKED raised, or, with wake-due, in
WAKE_QUEUED or WAKING; in WAKING, RUNNING makes it ACTIVE with WOKEN, its units returned and park-owned clear. Edges:
a call rising raises CALL_ON and is a wake request, one falling raises CALL_OFF; a lockout rising withdraws the due
order and abandons PARKING in ACTIVE or STOPPED, with dwell 0 (in STOPPED by log entry 14) and PARK_ABORTED; one
falling makes a grant attempt. No other load that is not WAKE_QUEUED changes, but by a wake that a PARKED load's call
or a wake-due flag makes. -/
def Obligations.EchoesActOnTheirLoad : Prop :=
  (∀ (s : State) (i : StationId) (e : Echo),
    ((∀ o, (s.station i).slot = some o → ¬(o.channel.val = e.channel ∧ o.kind = e.kind)) → s.takeEcho i e = s) ∧
    ∀ (o : Order) (l : Load), s.plant.sound → (s.station i).slot = some o → o.channel.val = e.channel → o.kind = e.kind →
      s.plant.loadAt? i o.channel = some l →
      (s.takeEcho i e).load? l.num = some (l.afterEcho e.kind e.refused) ∧
      (∀ m x, m ≠ l.num → s.load? m = some x → x.state ≠ .wakeQueued → (s.takeEcho i e).load? m = some x) ∧
      (let st := s.station i
      let t := s.takeEcho i e
      let f := s.plant.feeder l.cfg.feeder
      (e.refused = false ∨ l.isWaking = false ∨ f.queue = [] →
        (∀ j, j ≠ i → t.station j = s.station j) ∧
        ((∀ c x, c ≠ o.channel → s.plant.loadAt? i c = some x → x.due = none) →
          t.station i = { st with slot := none }) ∧
        ∀ (turn : Nat) (c : Channel) (x : Load) (k : OrderKind), turn ≤ 3 → c.val = (st.lastServed.val + 1 + turn) % 4 →
          c ≠ o.channel → s.plant.loadAt? i c = some x → x.due = some k →
          (∀ (earlier : Nat) (d : Channel) (y : Load), earlier < turn → d.val = (st.lastServed.val + 1 + earlier) % 4 →
            d ≠ o.channel → s.plant.loadAt? i d = some y → y.due = none) →
          t.station i = { st with slot := some { channel := c, kind := k }, lastServed := c }) ∧
      (e.refused = true → l.isWaking = true → f.spacingTimer = none → 0 < f.spacing →
        ∀ (q : QueueEntry) (rest : List QueueEntry) (x : Load), f.queue = q :: rest → s.load? q.load = some x →
          x.cfg.station = i → st.link = .live → x.hold.byLockout = false → x.awaitingFan = false →
          (x.cfg.kind = .compressor → minimumOffElapsed s.calendar.clock x = true) →
          x.cfg.demand ≤ f.free + l.cfg.demand →
          t.load? q.load = some x.granted ∧
          t.station i =
            { st with slot := some { channel := x.cfg.channel, kind := .motorOn }, lastServed := x.cfg.channel }))) ∧
  (∀ (s : State) (n : Nat) (l : Load) (r : Report) (how : Adoption) (step : ParkStep), s.plant.sound →
    s.load? n = some l → l.state = .parking step →
    (let t := s.takeReport n how r.call r.lockout r
    let u := l.underReport s.plant.curves s.now r
    s.sameBeyondPlant t ∧
    (r.run ≠ .stopped → step = .coasting → r.speedLow = true →
      t.load? n = some { u with
        state := .parking .stopping, timer := some (Timer.start l.cfg.stepLimit),
        due := if r.lockout then l.due else some .motorOff } ∧
      (∀ m, m ≠ n → t.load? m = s.load? m) ∧ t.plant.feeders = s.plant.feeders ∧ t.alerts = s.alerts) ∧
    (r.run ≠ .stopped → step = .unloading .orderTaken → r.unloaded = true →
      t = { s with plant := s.plant.setLoad n (fun _ =>
        { u with state := .parking (.unloading .dwell), timer := some (Timer.start l.cfg.unloadDwell) }) }) ∧
    (r.run ≠ .stopped → step = .unloading .dwell → r.unloaded = false →
      t.load? n = some (({ l with timer := none, manual := false, wakeDue := false, due := none } : Load).activated
        s.plant.curves s.now r) ∧
      (∀ m x, m ≠ n → s.load? m = some x → x.state ≠ .wakeQueued → t.load? m = some x) ∧
      t.alerts = (s.raiseLoad n .parkAborted).alerts) ∧
    (r.run ≠ .stopped → ¬(step = .coasting ∧ r.speedLow = true) → ¬(step = .unloading .orderTaken ∧ r.unloaded = true) →
      ¬(step = .unloading .dwell ∧ r.unloaded = false) → t = { s with plant := s.plant.setLoad n (fun _ => u) }) ∧
    (r.run = .stopped → t.alerts = (s.raiseLoad n .parked).alerts ∧
      (l.wakeDue = false →
        t.load? n = some { u with
          state := .parked, timer := none, due := none, parkOwned := true, manual := false,
          stopTime := if l.cfg.kind = .compressor then s.now else l.stopTime } ∧
        (∀ m, m ≠ n → t.load? m = s.load? m) ∧ t.plant.feeders = s.plant.feeders) ∧
      (l.wakeDue = true → ∃ m, t.load? n = some m ∧ (m.state = .wakeQueued ∨ ∃ w, m.state = .waking w) ∧
        m.wakeDue = false ∧ m.parkOwned = true ∧ m.manual = false ∧ m.cfg = l.cfg)))) ∧
  (∀ (s : State) (n : Nat) (l : Load) (r : Report) (how : Adoption) (w : WakeStep), s.plant.sound →
    s.load? n = some l → l.state = .waking w → r.run = .running →
    (let t := s.takeReport n how r.call r.lockout r
    t.load? n = some (({ l with timer := none, parkOwned := false, due := none } : Load).activated
      s.plant.curves s.now r) ∧
    s.sameBeyondPlant t ∧ t.alerts = (s.raiseLoad n .woken).alerts ∧
    (∀ m x, m ≠ n → s.load? m = some x → x.state ≠ .wakeQueued → t.load? m = some x) ∧
    ((s.plant.feeder l.cfg.feeder).queue = [] → l.cfg.kind ≠ .fan ∨ l.cfg.zone = 0 →
      (∀ m, m ≠ n → t.load? m = s.load? m) ∧
      t.plant.feeders =
        (s.plant.setFeeder l.cfg.feeder (fun f => { f with free := f.free + l.cfg.demand })).feeders))) ∧
  ∀ (s : State) (n : Nat) (l : Load) (r : Report) (lastCall lastLockout : Bool), s.plant.sound → s.load? n = some l →
    (let h := { l with hold := { byCall := r.call, byHost := l.hold.byHost, byLockout := r.lockout } }
    let held := s.plant.setLoad n (fun _ => h)
    let t := s.applyHolds n lastCall lastLockout r
    (lastCall = r.call → lastLockout = r.lockout → t = { s with plant := held }) ∧
    (lastCall = false → r.call = true → lastLockout = r.lockout →
      t.alerts = (s.raiseLoad n .callOn).alerts ∧ s.sameBeyondPlant t ∧
      (l.state = .parked → ∃ m, t.load? n = some m ∧ (m.state = .wakeQueued ∨ ∃ w, m.state = .waking w) ∧
        m.hold = h.hold ∧ m.cfg = l.cfg) ∧
      ((∃ p, l.state = .parking p) ∨ (l.state = .offline ∧ l.parkOwned = true) →
        t.plant = s.plant.setLoad n (fun _ => { h with wakeDue := true })) ∧
      (l.state ≠ .parked → (∀ p, l.state ≠ .parking p) → ¬(l.state = .offline ∧ l.parkOwned = true) →
        t.plant = held)) ∧
    (lastCall = true → r.call = false → lastLockout = r.lockout →
      t = ({ s with plant := held } : State).raiseLoad n .callOff) ∧
    (lastLockout = false → r.lockout = true → lastCall = r.call →
      s.sameBeyondPlant t ∧
      ((∃ p, l.state = .parking p) →
        t.load? n = some (if r.run = .stopped then
            { h with due := none, timer := none, manual := false, wakeDue := false, state := .stopped, dwell := 0 }
          else
            { h with due := none, timer := none, manual := false, wakeDue := false, state := .active, dwell := 0,
                     idle := false }) ∧
        (∀ m x, m ≠ n → s.load? m = some x → x.state ≠ .wakeQueued → t.load? m = some x) ∧
        t.alerts = (s.raiseLoad n .parkAborted).alerts) ∧
      ((∀ p, l.state ≠ .parking p) →
        t.load? n = some { h with due := none } ∧ (∀ m, m ≠ n → t.load? m = s.load? m) ∧
        t.plant.feeders = s.plant.feeders ∧ t.alerts = s.alerts)) ∧
    (lastLockout = true → r.lockout = false → lastCall = r.call →
      t = { s with plant := held.grantAttempt s.calendar.clock l.cfg.feeder }))

/-- A gate check of a PARK_PENDING load whose hold set is empty, with PERMIT set, its profile OPEN or its manual flag
set, its station LIVE and the gate of its kind open takes it to PARKING: DECLUTCHING, UNLOADING in its order phase or
STOPPING by its kind, with the step's order due and the timer at the step limit; every other load is as before. The
gate of a press is its safe-stop flag; of a compressor in an air group, at least the group minimum of other
compressors of the group in ACTIVE, IDLING or PARK_PENDING; of a fan of a zone, every other non-fan load of the zone
PARKED or STOPPED. Where a gate is shut nothing changes. -/
def Obligations.GateCheckEntersParking : Prop :=
  ∀ (s : State) (n : Nat) (l : Load), s.load? n = some l → l.state = .parkPending →
    (let open' :=
      l.hold.byCall = false ∧ l.hold.byHost = false ∧ l.hold.byLockout = false ∧ s.assent.permit = true ∧
      (l.manual = true ∨ ∃ p, l.cfg.profile = some p ∧ s.calendar.held[p] = true) ∧
      (s.station l.cfg.station).link = .live ∧
      (l.cfg.kind = .press → l.latest.safeStop = true) ∧
      (l.cfg.kind = .compressor → ∀ g, l.cfg.airGroup = some g →
        s.plant.groups[g] ≤ (s.plant.loads.filter (fun x =>
          x.num != n && x.cfg.kind == .compressor && x.cfg.airGroup == some g &&
          (x.state == .active || x.state == .idling || x.state == .parkPending))).length) ∧
      (l.cfg.kind = .fan → l.cfg.zone ≠ 0 → ∀ x ∈ s.plant.loads, x.num ≠ n → x.cfg.kind ≠ .fan →
        x.cfg.zone = l.cfg.zone → x.state = .parked ∨ x.state = .stopped)
    (¬open' → s.gateCheck n = s) ∧
    (open' →
      (s.gateCheck n).load? n = some { l with
        state := .parking (match l.cfg.kind with
          | .press => .declutching
          | .compressor => .unloading .order
          | .fan => .stopping
          | .auxiliary => .stopping)
        timer := some (Timer.start l.cfg.stepLimit)
        due := some (match l.cfg.kind with
          | .press => .declutch
          | .compressor => .unload
          | .fan => .motorOff
          | .auxiliary => .motorOff) } ∧
      s.plant.sameButLoad n (s.gateCheck n).plant ∧ (s.gateCheck n).plant.feeders = s.plant.feeders ∧
      (s.gateCheck n).alerts = s.alerts ∧ s.sameBeyondPlant (s.gateCheck n)))

/-- In a state with sound start queues, the adoption of an OFFLINE load by a report that shows it running leaves it
ACTIVE with dwell 0, idle flag, wake-due and park-owned clear, with LOCAL_START where it was park-owned; by one that
shows it stopped, PARKED and park-owned if it was park-owned or its adopt parked was yes, with adopt parked no where
it was used, and WAKE_QUEUED or WAKING instead if its wake-due flag was set; and otherwise STOPPED with wake-due clear
and, as the model reads it, dwell 0 (log entry 14). A16, hold set, sample age and stop time are as before. After a
station restart a load that comes out PARKED has MOTOR OFF due unless it is locked out, and one whose wake the restart
interrupted is WAKE_QUEUED or WAKING. A restart flag is acted on exactly while restart-noted is clear; a reply without
it clears restart-noted. Acted on, with no two loads at one place, every load of the station that is not WAKE_QUEUED
loses its due order and, but for FAULTED, is OFFLINE with its manual flag clear (already at this judgement, before the
reports, by log entry 12), a PARKING one without timer and wake-due flag and with PARK_ABORTED, a WAKING one without
timer and with its units returned; restart-noted is set and RESTARTED raised; no load of another station that is not
WAKE_QUEUED changes. With no WAKING load there the slot is empty and the feeders, and the WAKE_QUEUED loads but for
their due orders, are as before. -/
def Obligations.AdoptionFollowsItsTable : Prop :=
  (∀ (s : State) (n : Nat) (l : Load) (r : Report), s.plant.sound → s.load? n = some l → l.state = .offline →
    ∃ m, (s.adopt n .plain r).load? n = some m ∧ m.a16 = l.a16 ∧ m.hold = l.hold ∧ m.sampleAge = l.sampleAge ∧
      m.stopTime = l.stopTime ∧
      (if r.run = .running ∨ r.run = .starting then
        m = { l with state := .active, dwell := 0, idle := false, wakeDue := false, parkOwned := false }
      else if l.parkOwned = true ∨ l.cfg.adoptParked = true then
        m.parkOwned = true ∧
        m.cfg = (if l.parkOwned = true then l.cfg else { l.cfg with adoptParked := false }) ∧
        (if l.wakeDue = true then m.state = .wakeQueued ∨ ∃ w, m.state = .waking w
        else m.state = .parked ∧ m.wakeDue = false ∧ m.due = l.due)
      else m = { l with state := .stopped, dwell := 0, wakeDue := false })) ∧
  (∀ (s : State) (n : Nat) (l : Load) (r : Report), s.plant.sound → s.load? n = some l → l.state = .offline →
    (s.adopt n .plain r).alerts =
      (if r.run ≠ .stopped ∧ l.parkOwned = true then s.raiseLoad n .localStart else s).alerts ∧
    (∀ how, r.run ≠ .stopped ∨ (l.parkOwned = false ∧ l.cfg.adoptParked = false) → s.adopt n how r = s.adopt n .plain r) ∧
    (r.run = .stopped → l.parkOwned = true ∨ l.cfg.adoptParked = true →
      (l.wakeDue = false → (s.adopt n .restarted r).load? n = some { l with
        state := .parked, parkOwned := true, due := if l.hold.byLockout then l.due else some .motorOff,
        cfg := if l.parkOwned then l.cfg else { l.cfg with adoptParked := false } }) ∧
      ∀ how, l.wakeDue = true ∨ how = .interrupted → ∃ m, (s.adopt n how r).load? n = some m ∧
        (m.state = .wakeQueued ∨ ∃ w, m.state = .waking w) ∧ m.parkOwned = true ∧ m.wakeDue = false)) ∧
  ∀ (s : State) (i : StationId) (flag : Bool),
    (flag = true → (s.station i).restartNoted = true → s.judgeRestart i flag = s) ∧
    (flag = false → s.judgeRestart i flag =
      { s with plant := s.plant.setStation i (fun st => { st with restartNoted := false }) }) ∧
    (s.plant.sound → s.plant.placed →
      (∀ n l, s.load? n = some l → l.cfg.station = i → adoptionOf (s.restartMark i flag) n =
        (if flag = true ∧ (s.station i).restartNoted = false then
          if l.isWaking = true then .interrupted else .restarted
        else .plain)) ∧
      (flag = true → (s.station i).restartNoted = false →
        (let t := s.judgeRestart i flag
        let ended := fun f : FeederId =>
          ((s.plant.loads.filter (fun l => l.cfg.station == i && l.isWaking && l.cfg.feeder == f)).map
            (fun l => l.cfg.demand)).sum
        (t.station i).restartNoted = true ∧ s.sameBeyondPlant t ∧ s.alerts.sameButQueue t.alerts ∧
        (∀ n x, s.load? n = some x → x.state ≠ .wakeQueued →
          t.load? n = some (if x.cfg.station = i then x.afterRestart else x)) ∧
        (∀ f, (s.plant.feeder f).queue = [] →
          t.plant.feeder f = { s.plant.feeder f with free := (s.plant.feeder f).free + ended f }) ∧
        ((∀ l ∈ s.plant.loads, l.cfg.station = i → l.isWaking = false) →
          (t.station i).slot = none ∧ t.plant.feeders = s.plant.feeders ∧
          ∀ n x, s.load? n = some x → t.load? n = some (if x.cfg.station = i then x.afterRestart else x)) ∧
        (s.alerts.enabled = true →
          (s.alerts.stationSet.getLsbD 2 = true → t.alerts.shows (.station i) 2) ∧
          ∀ n l p, s.load? n = some l → l.cfg.station = i → l.state = .parking p → l.cfg.events.getLsbD 2 = true →
            t.alerts.shows (.load n) 2))))

/-- VISIT_FRAME_SENT in a slot whose visit frame is on the line opens the listening window and releases FL DE.
REPLY_START_BIT in the listening window begins the reply. Nothing else changes. In any other phase, and outside a
slot, neither changes anything (log entry 3). -/
def Obligations.SlotPhasesFollowTheLine : Prop :=
  ∀ s : State, s.inReset = false →
    (∀ v, s.sweep.line = .slot v → v.phase = .sending →
      ∃ t, exec .visitFrameSent s = .next t ∧ t.pins.flDe = false ∧ t.link = s.link ∧
        t.blocks = { s.blocks with sweep := { s.sweep with line := .slot { v with phase := .listening } } }) ∧
    (∀ v, s.sweep.line = .slot v → v.phase = .listening →
      ∃ t, exec .replyStartBit s = .next t ∧ t.link = s.link ∧
        t.blocks = { s.blocks with sweep := { s.sweep with line := .slot { v with phase := .receiving } } }) ∧
    ((∀ v, s.sweep.line = .slot v → v.phase ≠ .sending) →
      ∃ t, exec .visitFrameSent s = .next t ∧ t.link = s.link ∧ t.blocks = s.blocks) ∧
    ((∀ v, s.sweep.line = .slot v → v.phase ≠ .listening) →
      ∃ t, exec .replyStartBit s = .next t ∧ t.link = s.link ∧ t.blocks = s.blocks)

/-- While hunting, a CHARACTER_RECEIVED other than the start mark A5, a FRAMING_FAULT and a GAP_TIMEOUT change
nothing, and the start mark begins a frame. After it, a length byte of 2 to 124 begins a body, and a
LENGTH_OUT_OF_RANGE outside it returns to hunting and counts a frame error. In a body, a character that is not the
last of length and CRC is kept. Within a frame a FRAMING_FAULT and a GAP_TIMEOUT return to hunting and count a frame
error; that GAP_TIMEOUT does so itself, and not the next character, is the model's choice (log entry 29). The frame
error count stays at 65535. The buffer, the reply and every other block are as before. -/
def Obligations.CharactersMoveTheDeframer : Prop :=
  ∀ (s : State) (b : Byte), s.inReset = false →
    (s.link.deframer = .hunting →
      (b ≠ 0xA5 → ∃ t, exec (.characterReceived b) s = .next t ∧ t.link = s.link ∧ t.blocks = s.blocks) ∧
      (∃ t, exec (.characterReceived 0xA5) s = .next t ∧ t.link = { s.link with deframer := .expectLength } ∧
        t.blocks = { s.blocks with deframer := .expectLength }) ∧
      (∃ t, exec .framingFault s = .next t ∧ t.link = s.link ∧ t.blocks = s.blocks) ∧
      ∃ t, exec .gapTimeout s = .next t ∧ t.link = s.link ∧ t.blocks = s.blocks) ∧
    (s.link.deframer = .expectLength →
      (2 ≤ b.toNat → b.toNat ≤ 124 →
        ∃ t, exec (.characterReceived b) s = .next t ∧ t.link = { s.link with deframer := .body b [] } ∧
          t.blocks = { s.blocks with deframer := .body b [] }) ∧
      (b.toNat < 2 ∨ 124 < b.toNat →
        ∃ t, exec (.lengthOutOfRange b) s = .next t ∧
          t.link = { s.link with deframer := .hunting, errors := min 65535 (s.link.errors + 1) } ∧
          t.blocks = { s.blocks with deframer := .hunting, errors := min 65535 (s.link.errors + 1) })) ∧
    (∀ (length : Byte) (received : List Byte), s.link.deframer = .body length received →
      received.length + 1 < length.toNat + 2 →
      ∃ t, exec (.characterReceived b) s = .next t ∧
        t.link = { s.link with deframer := .body length (received ++ [b]) } ∧
        t.blocks = { s.blocks with deframer := .body length (received ++ [b]) }) ∧
    (s.link.deframer ≠ .hunting → ∀ c : Instr, c = .framingFault ∨ c = .gapTimeout →
      ∃ t, exec c s = .next t ∧
        t.link = { s.link with deframer := .hunting, errors := min 65535 (s.link.errors + 1) } ∧
        t.blocks = { s.blocks with deframer := .hunting, errors := min 65535 (s.link.errors + 1) })

/-- The CRC of the nine characters 123456789 is hexadecimal 29B1. FRAME_COMPLETE with the character that completes
length and CRC returns the deframer to hunting. A frame whose CRC does not match leaves one frame error more, no reply
and every block as before. One whose CRC matches is discarded and counted when the buffer holds two frames; joins the
buffer when a reply is in progress; and is taken at once when none is, with a reply of its kind and tag. -/
def Obligations.FrameCompleteJudgesTheFrame : Prop :=
  crc ("123456789".toList.map (fun c => BitVec.ofNat 8 c.toNat)) = 0x29B1 ∧
  ∀ (s : State) (b length : Byte) (kind tag : Byte) (payload check : List Byte), s.inReset = false →
    payload.length + 2 = length.toNat → check.length = 1 → s.link.deframer = .body length (kind :: tag :: payload ++ check) →
    (check ++ [b] ≠ crcBytes (length :: kind :: tag :: payload) →
      ∃ t, exec (.frameComplete b) s = .next t ∧
        t.link = { s.link with deframer := .hunting, errors := min 65535 (s.link.errors + 1) } ∧
        t.blocks = { s.blocks with deframer := .hunting, errors := min 65535 (s.link.errors + 1) }) ∧
    (check ++ [b] = crcBytes (length :: kind :: tag :: payload) →
      (2 ≤ s.link.buffer.length →
        ∃ t, exec (.frameComplete b) s = .next t ∧
          t.link = { s.link with deframer := .hunting, errors := min 65535 (s.link.errors + 1) } ∧
          t.blocks = { s.blocks with deframer := .hunting, errors := min 65535 (s.link.errors + 1) }) ∧
      (s.link.buffer.length < 2 → s.link.reply ≠ none →
        ∃ t, exec (.frameComplete b) s = .next t ∧
          t.link = { s.link with deframer := .hunting, buffer := s.link.buffer ++ [{ kind, tag, payload }] } ∧
          t.blocks = { s.blocks with deframer := .hunting }) ∧
      (s.link.buffer = [] → s.link.reply = none →
        ∃ t a, exec (.frameComplete b) s = .next t ∧
          a = (serve { kind, tag, payload }
            (s.setLink (fun k => { k with deframer := .hunting, buffer := [{ kind, tag, payload }] }))).2 ∧
          t.answers kind tag a.code a.data ∧ t.link.buffer = [{ kind, tag, payload }]))

/-- For every frame with a payload of at most 122 bytes and every hunting state out of reset whose pins are settled,
receiving the characters of the frame as it is sent, start mark, length, kind, tag, payload and CRC, leads to the
state in which exactly that frame has been offered to the receive buffer. That every one of these characters, the last
of length and CRC too, may arrive as CHARACTER_RECEIVED is the model's choice (log entry 30). -/
def Obligations.WireRoundTrip : Prop :=
  ∀ (f : Frame) (s : State), f.payload.length ≤ 122 → s.inReset = false → s.link.deframer = .hunting →
    s.pins = s.pinLevels → receiveAll f.wire s = some (s.offerFrame f).settlePins

/-- For every well-formed request of the catalogue, with every operand that its bytes admit, the row's effect is that
of taking the frame whose kind, tag and payload carry the request in the layout of chapter 11, as the part reads that
frame. An unknown request is read as one of unknown kind. That a row which finds a reply in progress lets the held
requests be answered first, and is then taken, is the model's reading (log entry 2). -/
def Obligations.RequestRowsAreTheirFrames : Prop :=
  (∀ (c : Instr) (f : Frame) (s : State), c.wellFormed = true → requestFrame? c = some f →
      exec c s = s.perform (State.request f (serve f))) ∧
    ∀ (kind tag : Byte) (payload : List Byte) (s : State), (Instr.unknownRequest kind tag payload).wellFormed = true →
      exec (.unknownRequest kind tag payload) s =
        s.perform (State.request { kind, tag, payload } (serve { kind, tag, payload }))

/-- REPLY_SENT with one frame held, not a SOFT RESTART, leaves the buffer empty and no reply, and every block as
before. With a second frame held that frame is taken: it alone is in the buffer, and the reply in progress has its
kind and tag and the answer of its service. With no reply in progress nothing changes, which is the model's choice
(log entry 3). The end of the reply to a SOFT RESTART is SOFT_RESTART_TAKES_EFFECT. -/
def Obligations.ReplySentTakesTheNext : Prop :=
  ∀ (s : State) (r : ReplyInProgress), s.inReset = false →
    (s.link.reply = none → ∃ t, exec .replySent s = .next t ∧ t.link = s.link ∧ t.blocks = s.blocks) ∧
    (s.link.reply = some r → r.request.isRestart = false → ∀ f, s.link.buffer = [f] →
      ∃ t, exec .replySent s = .next t ∧ t.link = { s.link with buffer := [], reply := none } ∧ t.blocks = s.blocks) ∧
    (s.link.reply = some r → r.request.isRestart = false → ∀ f g, s.link.buffer = [f, g] →
      ∃ t a, exec .replySent s = .next t ∧
        a = (serve g (s.setLink (fun k => { k with buffer := [g], reply := none }))).2 ∧
        t.answers g.kind g.tag a.code a.data ∧ t.link.buffer = [g]) ∧
    (s.link.reply = some r → r.request.isRestart = true → exec .replySent s = exec .softRestartTakesEffect s)

/-- An UNKNOWN_REQUEST is answered UNKNOWN with its kind and tag. A frame of a known kind with a payload of another
length than its own is answered LENGTH; the replies to CHALLENGE and ANSWER then carry the monitor's state, trust
count and PERMIT and no item as well, the others no data (log entry 33). UNBIND LOAD, HOLD, RELEASE, PARK NOW, CANCEL
PARK, WAKE NOW, CANCEL WAKE, CLEAR FAULT and READ LOAD are answered RANGE for a load number outside 1 to 96 and
NOT_BOUND for an UNBOUND load. Each leaves every block as before. -/
def Obligations.RequestsAreCheckedInOrder : Prop :=
  ∀ (s : State) (tag : Byte), s.ready →
    (∀ (kind : Byte) (payload : List Byte), (Instr.unknownRequest kind tag payload).wellFormed = true →
      ∃ t, exec (.unknownRequest kind tag payload) s = .next t ∧ s.onlyAnswers t kind tag .unknown) ∧
    (∀ (f : Frame) (length : Nat), payloadLength? f.kind.toNat = some length → f.payload.length ≠ length →
      (serve f s).1 = s ∧ (serve f s).2.code = .length ∧
      (f.kind ≠ 25 → f.kind ≠ 26 → (serve f s).2.data = []) ∧
      (f.kind = 25 ∨ f.kind = 26 → (serve f s).2.data =
        [b8 s.assent.state.code, b8 (s.assent.trust + 128 * s.assent.permit.toNat), 0])) ∧
    ∀ (n override : Nat) (c : Instr) (kind : Byte),
      (kind = 6 ∧ c = .unbindLoad tag n) ∨ (kind = 17 ∧ c = .hold tag n) ∨ (kind = 18 ∧ c = .release tag n) ∨
        (kind = 19 ∧ c = .parkNow tag n) ∨ (kind = 20 ∧ c = .cancelPark tag n) ∨
        (kind = 21 ∧ c = .wakeNow tag n override) ∨ (kind = 22 ∧ c = .cancelWake tag n) ∨
        (kind = 23 ∧ c = .clearFault tag n) ∨ (kind = 27 ∧ c = .readLoad tag n) →
      (n = 0 ∨ 96 < n → ∃ t, exec c s = .next t ∧ s.onlyAnswers t kind tag .range) ∧
      (1 ≤ n → n ≤ 96 → s.load? n = none → ∃ t, exec c s = .next t ∧ s.onlyAnswers t kind tag .notBound)

/-- SET_GROUP with a group outside 1 to 4 or a minimum above 8, and SET_CURVE with a curve outside 1 to 8 or a knot
above 1000, are refused RANGE and change nothing. Otherwise they are answered DONE from every state, the minimum or
the seven knots are replaced together, and nothing else changes: no load is moved and A16, idle flag and dwell are
kept. After power-on and RESET every group minimum is 0, and a soft restart keeps them. -/
def Obligations.GroupsAndCurvesAreSet : Prop :=
  ∀ (s : State) (tag : Byte), s.ready →
    (∀ g m : Nat, ¬(1 ≤ g ∧ g ≤ 4 ∧ m ≤ 8) →
      ∃ t, exec (.setGroup tag g m) s = .next t ∧ s.onlyAnswers t 2 tag .range) ∧
    (∀ (g : GroupId) (m : Nat), m ≤ 8 →
      ∃ t, exec (.setGroup tag (g.val + 1) m) s = .next t ∧ t.answers 2 tag .done [] ∧
        t.blocks = { s.blocks with plant := { s.plant with groups := s.plant.groups.set g m } }) ∧
    (∀ (c : Nat) (k : Knots), ¬(1 ≤ c ∧ c ≤ 8) ∨ (∃ j : Nat, 1 ≤ j ∧ j ≤ 7 ∧ 1000 < k.knot j) →
      ∃ t, exec (.setCurve tag c k) s = .next t ∧ s.onlyAnswers t 3 tag .range) ∧
    (∀ (c : CurveId) (k : Knots), (∀ j : Nat, 1 ≤ j → j ≤ 7 → k.knot j ≤ 1000) →
      ∃ t, exec (.setCurve tag (c.val + 1) k) s = .next t ∧ t.answers 3 tag .done [] ∧
        t.blocks = { s.blocks with plant := { s.plant with curves := s.plant.curves.set c k } }) ∧
    (∀ g : GroupId, State.reset.plant.groups[g] = 0) ∧
    ∀ u : State, u.restarting →
      ∃ t, exec .softRestartTakesEffect u = .next t ∧ t.plant.groups = u.plant.groups

/-- SET_FEEDER with a feeder outside 1 to 4, a capacity above 60 or a spacing above 120 is refused RANGE; then BUSY
while a load of the feeder is WAKING; then CONFLICT while a load of the feeder has a demand above the capacity. An
accepted one is answered DONE and replaces capacity and spacing and sets the free units to the capacity. The start
queue with its counts and a running spacing timer are kept, no grant is made, and nothing else changes. So a capacity
of 0 is accepted only for a feeder whose loads have no demand. -/
def Obligations.FeederIsSet : Prop :=
  ∀ (s : State) (tag : Byte), s.ready →
    (∀ f c p : Nat, ¬(1 ≤ f ∧ f ≤ 4 ∧ c ≤ 60 ∧ p ≤ 120) →
      ∃ t, exec (.setFeeder tag f c p) s = .next t ∧ s.onlyAnswers t 1 tag .range) ∧
    ∀ (i : FeederId) (c p : Nat), c ≤ 60 → p ≤ 120 →
      ((∃ l ∈ s.plant.loads, l.cfg.feeder = i ∧ ∃ w, l.state = .waking w) →
        ∃ t, exec (.setFeeder tag (i.val + 1) c p) s = .next t ∧ s.onlyAnswers t 1 tag .busy) ∧
      ((∀ l ∈ s.plant.loads, l.cfg.feeder = i → ∀ w, l.state ≠ .waking w) →
        ((∃ l ∈ s.plant.loads, l.cfg.feeder = i ∧ c < l.cfg.demand) →
          ∃ t, exec (.setFeeder tag (i.val + 1) c p) s = .next t ∧ s.onlyAnswers t 1 tag .conflict) ∧
        ((∀ l ∈ s.plant.loads, l.cfg.feeder = i → l.cfg.demand ≤ c) →
          ∃ t, exec (.setFeeder tag (i.val + 1) c p) s = .next t ∧ t.answers 1 tag .done [] ∧
            t.blocks = { s.blocks with
              plant := s.plant.setFeeder i (fun f => { f with capacity := c, free := c, spacing := p }) }))

/-- SET_STATION outside its ranges is refused RANGE, and CONFLICT while a load of the station has a channel not below
the new channels fitted. An accepted one writes both fields; the last call and last lockout of channels no longer
fitted are off and their run hours and temperatures dropped; the link state and everything else stay. SET_INQUIRY
outside its ranges is refused RANGE; an accepted one replaces the station's inquiry kind and options, and a visit of
the station in progress learns that they were replaced (log entry 16). -/
def Obligations.StationsAndInquiriesAreSet : Prop :=
  ∀ (s : State) (tag : Byte), s.ready →
    (∀ n e f : Nat, ¬(1 ≤ n ∧ n ≤ 40 ∧ e ≤ 1 ∧ 1 ≤ f ∧ f ≤ 4) →
      ∃ t, exec (.setStation tag n e f) s = .next t ∧ s.onlyAnswers t 4 tag .range) ∧
    (∀ (i : StationId) (e : Bool) (f : Nat), 1 ≤ f → f ≤ 4 →
      ((∃ l ∈ s.plant.loads, l.cfg.station = i ∧ f ≤ l.cfg.channel.val) →
        ∃ t, exec (.setStation tag (i.val + 1) e.toNat f) s = .next t ∧ s.onlyAnswers t 4 tag .conflict) ∧
      ((∀ l ∈ s.plant.loads, l.cfg.station = i → l.cfg.channel.val < f) →
        ∃ t, exec (.setStation tag (i.val + 1) e.toNat f) s = .next t ∧ t.answers 4 tag .done [] ∧
          t.blocks = { s.blocks with plant := { s.plant with stations := t.plant.stations } } ∧
          (∀ j, j ≠ i → t.station j = s.station j) ∧
          t.station i = { s.station i with
            enabled := e, fitted := f, lastCall := (t.station i).lastCall, lastLockout := (t.station i).lastLockout,
            runHours := (s.station i).runHours.map (List.take f),
            temperatures := (s.station i).temperatures.map (List.take f) } ∧
          ∀ c : Channel,
            (t.station i).lastCall[c] = (if c.val < f then (s.station i).lastCall[c] else false) ∧
            (t.station i).lastLockout[c] = (if c.val < f then (s.station i).lastLockout[c] else false))) ∧
    (∀ n k o : Nat, ¬(1 ≤ n ∧ n ≤ 40 ∧ k ≤ 4 ∧ o ≤ 3) →
      ∃ t, exec (.setInquiry tag n k o) s = .next t ∧ s.onlyAnswers t 24 tag .range) ∧
    ∀ (i : StationId) (k : InquiryKind) (once round : Bool),
      ∃ t, exec (.setInquiry tag (i.val + 1) k.code (once.toNat + 2 * round.toNat)) s = .next t ∧
        t.answers 24 tag .done [] ∧
        t.blocks = { s.blocks with
          plant := s.plant.setStation i (fun st => { st with inquiry := k, once, round })
          sweep := { s.sweep with line := match s.sweep.line with
            | .slot v => .slot { v with inquiryReplaced := v.inquiryReplaced || decide (v.station = i) }
            | other => other } }

/-- BIND_LOAD with a load number outside 1 to 96 or a field outside its range of section 1.2 is refused RANGE, a field
of another kind of machine being 0 and an undefined bit or code out of range; fields within their ranges stand for one
configuration, which READ_LOAD spells with the same fields; then BUSY for a load in PARKING, WAKE_QUEUED or WAKING;
then CONFLICT if another load has the place, the channel is not fitted or the demand is above the feeder's capacity.
An accepted one on an UNBOUND record, in a state with sound start queues, makes a bound load with the configured
fields and every runtime field at its initial value, the call and lockout holds as the station last reported them.
Every other load that is not WAKE_QUEUED, the calendar, the sweep, the assent record, the alert block and the deframer
are as before. -/
def Obligations.BindingIsCheckedAndBinds : Prop :=
  (∀ f : BindFields,
    (f.config? ≠ none ↔
      1 ≤ f.station ∧ f.station ≤ 40 ∧ f.channel ≤ 3 ∧ f.kind ≤ 3 ∧ 1 ≤ f.feeder ∧ f.feeder ≤ 4 ∧ 1 ≤ f.demand ∧
      f.demand ≤ 30 ∧ f.zone ≤ 12 ∧ (if f.kind = 1 then f.airGroup ≤ 4 else f.airGroup = 0) ∧ 1 ≤ f.curve ∧
      f.curve ≤ 8 ∧ f.restFloor ≤ 1000 ∧ f.noiseBand ≤ 63 ∧ 1 ≤ f.weight ∧ f.weight ≤ 16 ∧ f.idleThreshold ≤ 999 ∧
      1 ≤ f.busyThreshold ∧ f.busyThreshold ≤ 1000 ∧ f.idleThreshold < f.busyThreshold ∧ 60 ≤ f.idleDwell ∧
      f.idleDwell ≤ 14400 ∧ f.profile ≤ 4 ∧ f.wakeAtClose ≤ 1 ∧ 1 ≤ f.wakeRank ∧ f.wakeRank ≤ 255 ∧ f.fallback ≤ 1 ∧
      10 ≤ f.stepLimit ∧ f.stepLimit ≤ 600 ∧
      (if f.kind = 0 then 30 ≤ f.coastLimit ∧ f.coastLimit ≤ 600 else f.coastLimit = 0) ∧
      (if f.kind = 1 then 60 ≤ f.unloadDwell ∧ f.unloadDwell ≤ 900 else f.unloadDwell = 0) ∧
      (if f.kind = 1 then f.minimumOff ≤ 1800 else f.minimumOff = 0) ∧ 5 ≤ f.settleLimit ∧ f.settleLimit ≤ 255 ∧
      f.adoptParked ≤ 1 ∧ f.events < 512) ∧
    ∀ c, f.config? = some c → c.fields = f) ∧
  ∀ (s : State) (tag : Byte) (n : Nat) (f : BindFields), s.ready →
    (n = 0 ∨ 96 < n ∨ f.config? = none → ∃ t, exec (.bindLoad tag n f) s = .next t ∧ s.onlyAnswers t 5 tag .range) ∧
    ∀ c : LoadConfig, 1 ≤ n → n ≤ 96 → f.config? = some c →
      (∀ l, s.load? n = some l →
        (∃ p, l.state = .parking p) ∨ l.state = .wakeQueued ∨ (∃ w, l.state = .waking w) →
        ∃ t, exec (.bindLoad tag n f) s = .next t ∧ s.onlyAnswers t 5 tag .busy) ∧
      ((∀ l, s.load? n = some l →
          (∀ p, l.state ≠ .parking p) ∧ l.state ≠ .wakeQueued ∧ ∀ w, l.state ≠ .waking w) →
        (∃ x ∈ s.plant.loads, x.num ≠ n ∧ x.cfg.station = c.station ∧ x.cfg.channel = c.channel) ∨
          (s.station c.station).fitted ≤ c.channel.val ∨ (s.plant.feeder c.feeder).capacity < c.demand →
        ∃ t, exec (.bindLoad tag n f) s = .next t ∧ s.onlyAnswers t 5 tag .conflict) ∧
      (s.plant.sound → s.load? n = none →
        (∀ x ∈ s.plant.loads, ¬(x.cfg.station = c.station ∧ x.cfg.channel = c.channel)) →
        c.channel.val < (s.station c.station).fitted → c.demand ≤ (s.plant.feeder c.feeder).capacity →
        ∃ t, exec (.bindLoad tag n f) s = .next t ∧ t.answers 5 tag .done [] ∧
          t.load? n = some
            { num := n, cfg := c, state := .offline,
              hold := { byCall := (s.station c.station).lastCall[c.channel], byHost := false,
                        byLockout := (s.station c.station).lastLockout[c.channel] },
              a16 := 0, idle := false, dwell := 0, sampleTime := none, sampleAge := none, manual := false,
              wakeDue := false, parkOwned := false, due := none, timer := none, stopTime := none,
              awaitingFan := false, latest := { safeStop := false, speedLow := false, unloaded := false } } ∧
          (∀ m x, m ≠ n → s.load? m = some x → x.state ≠ .wakeQueued → t.load? m = some x) ∧
          t.blocks = { s.blocks with plant := t.plant })

/-- In a state with sound start queues, for a load not in PARKING, WAKE_QUEUED or WAKING: an accepted BIND_LOAD to
another place leaves it OFFLINE with the new fields, HOST kept, call and lockout holds from the new place, assessment
and flags cleared, no order, and the stop time only for a compressor. One to the same place takes the new fields and
keeps the rest, but the dwell is at most the new idle dwell, an IDLING load whose dwell then equals it is
PARK_PENDING, and the stop time stays only for a compressor. UNBIND_LOAD leaves the record UNBOUND, and is refused
BUSY for a load in those states. Every other load that is not WAKE_QUEUED is as before, and the alert block too unless
the load was FAULTED. -/
def Obligations.RebindingAndUnbinding : Prop :=
  ∀ (s : State) (tag : Byte) (n : Nat) (f : BindFields) (c : LoadConfig) (l : Load), s.ready → s.plant.sound →
    s.load? n = some l →
    (((∃ p, l.state = .parking p) ∨ l.state = .wakeQueued ∨ ∃ w, l.state = .waking w) →
      ∃ t, exec (.unbindLoad tag n) s = .next t ∧ s.onlyAnswers t 6 tag .busy) ∧
    ((∀ p, l.state ≠ .parking p) → l.state ≠ .wakeQueued → (∀ w, l.state ≠ .waking w) →
      (∃ t, exec (.unbindLoad tag n) s = .next t ∧ t.answers 6 tag .done [] ∧ t.load? n = none ∧
        (∀ m x, m ≠ n → s.load? m = some x → x.state ≠ .wakeQueued → t.load? m = some x) ∧
        (l.state ≠ .faulted → t.blocks = { s.blocks with plant := t.plant })) ∧
      (f.config? = some c →
        (∀ x ∈ s.plant.loads, x.num ≠ n → ¬(x.cfg.station = c.station ∧ x.cfg.channel = c.channel)) →
        c.channel.val < (s.station c.station).fitted → c.demand ≤ (s.plant.feeder c.feeder).capacity →
        ∃ t, exec (.bindLoad tag n f) s = .next t ∧ t.answers 5 tag .done [] ∧
          t.load? n = some
            (if l.cfg.station = c.station ∧ l.cfg.channel = c.channel then
              { l with
                cfg := c
                dwell := min l.dwell c.idleDwell
                stopTime := if c.kind = .compressor then l.stopTime else none
                state := if l.state = .idling ∧ c.idleDwell ≤ l.dwell then .parkPending else l.state }
            else
              { num := n, cfg := c, state := .offline,
                hold := { byCall := (s.station c.station).lastCall[c.channel], byHost := l.hold.byHost,
                          byLockout := (s.station c.station).lastLockout[c.channel] },
                a16 := 0, idle := false, dwell := 0, sampleTime := none, sampleAge := none, manual := false,
                wakeDue := false, parkOwned := false, due := none, timer := none,
                stopTime := if c.kind = .compressor then l.stopTime else none, awaitingFan := false,
                latest := { safeStop := false, speedLow := false, unloaded := false } }) ∧
          (∀ m x, m ≠ n → s.load? m = some x → x.state ≠ .wakeQueued → t.load? m = some x) ∧
          (l.state ≠ .faulted → t.blocks = { s.blocks with plant := t.plant })))

/-- SET_PROFILE_DAY outside profiles 1 to 4 or days 1 to 7 is refused RANGE. Otherwise it is answered DONE, its row
alone is replaced, and the held profile states are the values under the new rows. Clock, holidays, sweep, assent
record and deframer are as before, of the alert block only notices can change, and where the values under the new rows
are the held states the plant and the alert block are as before too. -/
def Obligations.ProfileDayIsSet : Prop :=
  ∀ (s : State) (tag : Byte) (slots : SlotRow), s.ready →
    (∀ p d : Nat, ¬(1 ≤ p ∧ p ≤ 4 ∧ 1 ≤ d ∧ d ≤ 7) →
      ∃ t, exec (.setProfileDay tag p d slots) s = .next t ∧ s.onlyAnswers t 7 tag .range) ∧
    ∀ (p : ProfileId) (d : Fin 7),
      ∃ t, exec (.setProfileDay tag (p.val + 1) (d.val + 1) slots) s = .next t ∧ t.answers 7 tag .done [] ∧
        (∀ (q : ProfileId) (e : Fin 7), t.calendar.profiles[q][e] =
          if q = p ∧ e = d then slots else s.calendar.profiles[q][e]) ∧
        t.calendar = { s.calendar with profiles := t.calendar.profiles, held := t.calendar.values } ∧
        t.blocks = { s.blocks with plant := t.plant, calendar := t.calendar, alerts := t.alerts } ∧
        s.alerts.sameButQueue t.alerts ∧
        (t.calendar.values = s.calendar.held → t.plant = s.plant ∧ t.alerts = s.alerts)

/-- In a state with a sound holiday list: SET_HOLIDAY and DROP_HOLIDAY of no valid date of 2000 to 2099, and
SET_HOLIDAY with no day rule, are refused RANGE. SET_HOLIDAY of a date in the list replaces its rule in place; of
another date it is refused CONFLICT when the list holds 16 entries, and otherwise inserted between the earlier and the
later dates. DROP_HOLIDAY removes the entry of its date, the others keeping their order, or is refused NOT_FOUND. An
accepted request evaluates the profile states when its date is the clock's, and otherwise keeps them, the plant and
the alert block. The clock, the rows and the other blocks are as before. -/
def Obligations.HolidaysAreSetAndDropped : Prop :=
  ∀ (s : State) (tag : Byte) (d : Date), s.ready → s.calendar.listSound →
    (d.valid = false →
      (∀ rule, ∃ t, exec (.setHoliday tag d rule) s = .next t ∧ s.onlyAnswers t 8 tag .range) ∧
      ∃ t, exec (.dropHoliday tag d) s = .next t ∧ s.onlyAnswers t 9 tag .range) ∧
    (∀ rule, 8 < rule → ∃ t, exec (.setHoliday tag d rule) s = .next t ∧ s.onlyAnswers t 8 tag .range) ∧
    (d.valid = true →
      (∀ (rule : Nat) (r : DayRule), DayRule.ofCode? rule = some r →
        ((∀ h ∈ s.calendar.holidays, h.date ≠ d) → 16 ≤ s.calendar.holidays.length →
          ∃ t, exec (.setHoliday tag d rule) s = .next t ∧ s.onlyAnswers t 8 tag .conflict) ∧
        ((∃ h ∈ s.calendar.holidays, h.date = d) ∨ s.calendar.holidays.length < 16 →
          ∃ t, exec (.setHoliday tag d rule) s = .next t ∧ t.answers 8 tag .done [] ∧
            t.calendar.holidays = s.calendar.holidays.filter (fun h => h.date.before d) ++
              { date := d, rule := r } :: s.calendar.holidays.filter (fun h => d.before h.date) ∧
            t.calendar = { s.calendar with holidays := t.calendar.holidays, held := t.calendar.held } ∧
            t.blocks = { s.blocks with plant := t.plant, calendar := t.calendar, alerts := t.alerts } ∧
            (if s.calendar.clock.map Clock.date = some d then
              t.calendar.held = t.calendar.values ∧ s.alerts.sameButQueue t.alerts
            else t.calendar.held = s.calendar.held ∧ t.plant = s.plant ∧ t.alerts = s.alerts))) ∧
      ((∀ h ∈ s.calendar.holidays, h.date ≠ d) →
        ∃ t, exec (.dropHoliday tag d) s = .next t ∧ s.onlyAnswers t 9 tag .notFound) ∧
      ((∃ h ∈ s.calendar.holidays, h.date = d) →
        ∃ t, exec (.dropHoliday tag d) s = .next t ∧ t.answers 9 tag .done [] ∧
          t.calendar.holidays = s.calendar.holidays.filter (fun h => h.date != d) ∧
          t.calendar = { s.calendar with holidays := t.calendar.holidays, held := t.calendar.held } ∧
          t.blocks = { s.blocks with plant := t.plant, calendar := t.calendar, alerts := t.alerts } ∧
          (if s.calendar.clock.map Clock.date = some d then
            t.calendar.held = t.calendar.values ∧ s.alerts.sameButQueue t.alerts
          else t.calendar.held = s.calendar.held ∧ t.plant = s.plant ∧ t.alerts = s.alerts)))

/-- SET_ASSENT with a parameter outside its range, the high threshold counted from above the low one, is refused
RANGE; then LOCKED in AWAIT_ANSWER and AWAIT_CHALLENGE; and otherwise answered DONE, with the thirteen parameters
replaced and nothing else changed. After power-on they are the defaults, and a soft restart keeps them. -/
def Obligations.AssentParametersAreSet : Prop :=
  ∀ (s : State) (tag : Byte) (f : AssentFields), s.ready →
    (let inRange :=
      f.answerOpen ≤ 255 ∧ 1 ≤ f.answerClose ∧ f.answerClose ≤ 63 ∧ f.answerTimeout ≤ 63 ∧ f.requestOpen ≤ 255 ∧
      1 ≤ f.requestClose ∧ f.requestClose ≤ 63 ∧ f.requestTimeout ≤ 63 ∧ f.requestCheck ≤ 1 ∧ f.timeoutAction ≤ 1 ∧
      1 ≤ f.startCount ∧ f.startCount ≤ 15 ∧ 1 ≤ f.goodStep ∧ f.goodStep ≤ 4 ∧ 1 ≤ f.badStep ∧ f.badStep ≤ 7 ∧
      1 ≤ f.lowThreshold ∧ f.lowThreshold ≤ 14 ∧ f.lowThreshold + 1 ≤ f.highThreshold ∧ f.highThreshold ≤ 15
    (¬inRange → ∃ t, exec (.setAssent tag f) s = .next t ∧ s.onlyAnswers t 10 tag .range) ∧
    (inRange → (∃ e, s.assent.state = .awaitAnswer e ∨ s.assent.state = .awaitChallenge e) →
      ∃ t, exec (.setAssent tag f) s = .next t ∧ s.onlyAnswers t 10 tag .locked) ∧
    (inRange → s.assent.state = .dormant ∨ s.assent.state = .lapsed →
      ∃ t, exec (.setAssent tag f) s = .next t ∧ t.answers 10 tag .done [] ∧
        t.blocks = { s.blocks with assent := { s.assent with params :=
          { answerOpen := f.answerOpen, answerClose := f.answerClose, answerTimeout := f.answerTimeout,
            requestOpen := f.requestOpen, requestClose := f.requestClose, requestTimeout := f.requestTimeout,
            requestCheck := f.requestCheck == 1, timeoutLapse := f.timeoutAction == 0, startCount := f.startCount,
            goodStep := f.goodStep, badStep := f.badStep, lowThreshold := f.lowThreshold,
            highThreshold := f.highThreshold } } })) ∧
    State.reset.assent.params =
      { answerOpen := 8, answerClose := 40, answerTimeout := 20, requestOpen := 200, requestClose := 80,
        requestTimeout := 40, requestCheck := true, timeoutLapse := false, startCount := 6, goodStep := 1,
        badStep := 3, lowThreshold := 5, highThreshold := 11 } ∧
    ∀ u : State, u.restarting →
      ∃ t, exec .softRestartTakesEffect u = .next t ∧ t.assent.params = u.assent.params

/-- SET_ALERT with a mode other than NOTICE and BEACON, a tolerance outside 1 to 8 or an undefined byte is refused
RANGE. Otherwise it is answered DONE and replaces the five settings; the beacon is then set if the fault count has
reached the new tolerance, and released if no load is FAULTED, no station LOST, the monitor not LAPSED and the status-
read mark set. The queue, the fault count, the mark and everything else stay; the ALERT line follows the new mode.
Under the settings (R156, R157) a load event whose kind is in the load's enables, a station event in the station set
and a device event in the device set, each with the global enable on, adds its kind, and a curfew event its profile,
to the waiting notice of its source, which keeps place and time, or starts a notice at the tail with the clock
reading; any other leaves the whole part as it is. -/
def Obligations.AlertSettingsAreSet : Prop :=
  (∀ (s : State) (tag : Byte), s.ready →
    (∀ m tol e ss ds : Nat, ¬(m ≤ 1 ∧ 1 ≤ tol ∧ tol ≤ 8 ∧ e ≤ 1 ∧ ss ≤ 15 ∧ ds ≤ 255) →
      ∃ t, exec (.setAlert tag m tol e ss ds) s = .next t ∧ s.onlyAnswers t 11 tag .range) ∧
    ∀ (m : AlertMode) (tol : Nat) (e : Bool) (ss : BitVec 4) (ds : BitVec 8), 1 ≤ tol → tol ≤ 8 →
      ∃ t, exec (.setAlert tag m.code tol e.toNat ss.toNat ds.toNat) s = .next t ∧ t.answers 11 tag .done [] ∧
        t.blocks = { s.blocks with alerts := { s.alerts with
          mode := m, tolerance := tol, enabled := e, stationSet := ss, deviceSet := ds,
          beacon :=
            if (∀ l ∈ s.plant.loads, l.state ≠ .faulted) ∧ (∀ i, (s.station i).link ≠ .lost) ∧
                s.assent.state ≠ .lapsed ∧ s.alerts.statusRead = true then false
            else s.alerts.beacon || decide (tol ≤ s.alerts.faultCount) } } ∧
        (t.pins.alertLow = true ↔ (m = .notice ∧ s.alerts.queue ≠ []) ∨ (m = .beacon ∧ t.alerts.beacon = true))) ∧
  ∀ s : State,
    (let time := s.calendar.clock.map Clock.stamp
    let queues := fun (on : Bool) (event : Notice) (t : State) =>
      (s.alerts.enabled = true → on = true → t = { s with alerts := { s.alerts with queue := t.alerts.queue } } ∧
        queuedInto event s.alerts.queue t.alerts.queue) ∧
      (s.alerts.enabled = false ∨ on = false → t = s)
    (∀ n e l, s.load? n = some l → queues (l.cfg.events.getLsbD e.bit)
      { source := .load n, kinds := BitVec.ofNat 16 (2 ^ e.bit), time, opened := 0, closed := 0 } (s.raiseLoad n e)) ∧
    (∀ i e, queues (s.alerts.stationSet.getLsbD e.bit)
      { source := .station i, kinds := BitVec.ofNat 16 (2 ^ e.bit), time, opened := 0, closed := 0 }
      (s.raiseStation i e)) ∧
    ∀ opened closed e, queues (s.alerts.deviceSet.getLsbD e.bit)
      { source := .device, kinds := BitVec.ofNat 16 (2 ^ e.bit), time, opened, closed }
      (s.raiseDeviceWith opened closed e))

/-- SET_SWEEP of no line rate or of a pause above 255 is refused RANGE, then BUSY while the mode is not STOPPED, and
otherwise replaces rate and pause. STOP_SWEEP is answered DONE; it sets stop requested in CONTINUOUS and SINGLE and
changes nothing in STOPPED. SET_LAST_STATION outside 1 to 40 is refused RANGE; in STOPPED it replaces the last
station, and in the other modes it leaves the pending last station. Nothing else changes. -/
def Obligations.SweepIsConfiguredAndStopped : Prop :=
  ∀ (s : State) (tag : Byte), s.ready →
    (∀ r p : Nat, 3 < r ∨ 255 < p → ∃ t, exec (.setSweep tag r p) s = .next t ∧ s.onlyAnswers t 12 tag .range) ∧
    (∀ (r : LineRate) (p : Nat), p ≤ 255 →
      (s.sweep.mode ≠ .stopped → ∃ t, exec (.setSweep tag r.code p) s = .next t ∧ s.onlyAnswers t 12 tag .busy) ∧
      (s.sweep.mode = .stopped →
        ∃ t, exec (.setSweep tag r.code p) s = .next t ∧ t.answers 12 tag .done [] ∧
          t.blocks = { s.blocks with sweep := { s.sweep with rate := r, pause := p } })) ∧
    (∃ t, exec (.stopSweep tag) s = .next t ∧ t.answers 15 tag .done [] ∧
      t.blocks = { s.blocks with sweep :=
        if s.sweep.mode = .stopped then s.sweep else { s.sweep with stopRequested := true } }) ∧
    (∀ n : Nat, n = 0 ∨ 40 < n → ∃ t, exec (.setLastStation tag n) s = .next t ∧ s.onlyAnswers t 16 tag .range) ∧
    ∀ n : Nat, 1 ≤ n → n ≤ 40 →
      ∃ t, exec (.setLastStation tag n) s = .next t ∧ t.answers 16 tag .done [] ∧
        t.blocks = { s.blocks with sweep :=
          if s.sweep.mode = .stopped then { s.sweep with lastStation := n } else { s.sweep with pendingLast := some n } }

/-- SET_CLOCK of no valid date of 2000 to 2099, a day of week outside 1 to 7 or seconds above 86399 is refused RANGE.
Otherwise it is answered DONE and sets the clock as given, whatever the day of the week of the date; every stop time
later than the reading becomes the reading, and sample times and ages stay; the held profile states are the values at
the reading. The rows, the holiday list, with no purge, and the other blocks are as before, and of the alert block
only notices can change. -/
def Obligations.ClockIsSet : Prop :=
  ∀ (s : State) (tag : Byte) (d : Date) (dow seconds : Nat), s.ready →
    (¬(d.valid = true ∧ 1 ≤ dow ∧ dow ≤ 7 ∧ seconds ≤ 86399) →
      ∃ t, exec (.setClock tag d dow seconds) s = .next t ∧ s.onlyAnswers t 13 tag .range) ∧
    (d.valid = true → 1 ≤ dow → dow ≤ 7 → seconds ≤ 86399 →
      ∃ t, exec (.setClock tag d dow seconds) s = .next t ∧ t.answers 13 tag .done [] ∧
        t.calendar = { s.calendar with clock := some { date := d, dayOfWeek := dow, seconds }, held := t.calendar.values } ∧
        (∀ n l, s.load? n = some l → ∃ m, t.load? n = some m ∧ m.cfg = l.cfg ∧ m.sampleTime = l.sampleTime ∧
          m.sampleAge = l.sampleAge ∧
          m.stopTime = l.stopTime.map (fun stop =>
            if d.dayNumber * 86400 + seconds < stop.absolute then { date := d, seconds } else stop)) ∧
        t.blocks = { s.blocks with plant := t.plant, calendar := t.calendar, alerts := t.alerts } ∧
        s.alerts.sameButQueue t.alerts)

/-- On a bound load HOLD adds and RELEASE removes HOST, in every state, and nothing else. PARK_NOW takes a load in
ACTIVE or IDLING to PARK_PENDING with its manual flag set, and is refused WRONG_STATE in every other state.
CANCEL_PARK takes a load in PARK_PENDING to ACTIVE with dwell 0 and idle and manual flag clear, and is refused
WRONG_STATE in every other state; in a state with sound start queues every other load that is not WAKE_QUEUED and, but
for a fan of a zone, the whole rest of the part are then as before. -/
def Obligations.HoldsAndParkingRequests : Prop :=
  ∀ (s : State) (tag : Byte) (n : Nat) (l : Load), s.ready → 1 ≤ n → n ≤ 96 → s.load? n = some l →
    (∃ t, exec (.hold tag n) s = .next t ∧ t.answers 17 tag .done [] ∧
      t.load? n = some { l with hold := { l.hold with byHost := true } } ∧ (∀ m, m ≠ n → t.load? m = s.load? m) ∧
      t.blocks = { s.blocks with plant := { s.plant with loads := t.plant.loads } }) ∧
    (∃ t, exec (.release tag n) s = .next t ∧ t.answers 18 tag .done [] ∧
      t.load? n = some { l with hold := { l.hold with byHost := false } } ∧ (∀ m, m ≠ n → t.load? m = s.load? m) ∧
      t.blocks = { s.blocks with plant := { s.plant with loads := t.plant.loads } }) ∧
    (l.state = .active ∨ l.state = .idling →
      ∃ t, exec (.parkNow tag n) s = .next t ∧ t.answers 19 tag .done [] ∧
        t.load? n = some { l with state := .parkPending, manual := true } ∧ (∀ m, m ≠ n → t.load? m = s.load? m) ∧
        t.blocks = { s.blocks with plant := { s.plant with loads := t.plant.loads } }) ∧
    (l.state ≠ .active → l.state ≠ .idling →
      ∃ t, exec (.parkNow tag n) s = .next t ∧ s.onlyAnswers t 19 tag .wrongState) ∧
    (l.state = .parkPending → s.plant.sound →
      ∃ t, exec (.cancelPark tag n) s = .next t ∧ t.answers 20 tag .done [] ∧
        t.load? n = some { l with state := .active, dwell := 0, idle := false, manual := false } ∧
        t.blocks = { s.blocks with plant := t.plant } ∧
        (∀ m x, m ≠ n → s.load? m = some x → x.state ≠ .wakeQueued → t.load? m = some x) ∧
        (l.cfg.kind ≠ .fan ∨ l.cfg.zone = 0 →
          (∀ m, m ≠ n → t.load? m = s.load? m) ∧
          t.blocks = { s.blocks with plant := { s.plant with loads := t.plant.loads } })) ∧
    (l.state ≠ .parkPending → ∃ t, exec (.cancelPark tag n) s = .next t ∧ s.onlyAnswers t 20 tag .wrongState)

/-- In a state with sound start queues WAKE_NOW leaves a PARKED load WAKE_QUEUED or WAKING with wake-due clear and is
answered DONE; sets wake-due in PARKING, and in OFFLINE with park-owned set, and is answered DEFERRED; changes nothing
in WAKE_QUEUED and WAKING and is answered DONE; and is refused WRONG_STATE in every other state. A PARKED load that is
no fan, in a zone that a fan serves while none of its fans is in ACTIVE, IDLING or PARK_PENDING, is WAKE_QUEUED
awaiting a fan without the override; it then makes a wake request for each fan of the zone: a PARKED one is
WAKE_QUEUED or WAKING, one in PARKING, or OFFLINE with park-owned set, has its wake-due flag set, and every other one
that is not WAKE_QUEUED, like every load that is no fan of the zone, is as before. On a feeder whose spacing timer
runs the load, if it is its own, and then the PARKED fans join behind the queue, in ascending wake rank and, among
equals, load number. With the override it awaits none and no other load but a WAKE_QUEUED one changes. An override
that is neither yes nor no is refused RANGE. -/
def Obligations.WakeNowActsByTheState : Prop :=
  ∀ (s : State) (tag : Byte) (n : Nat) (l : Load), s.ready → 1 ≤ n → n ≤ 96 → s.plant.sound → s.load? n = some l →
    (∀ o : Nat, 1 < o → ∃ t, exec (.wakeNow tag n o) s = .next t ∧ s.onlyAnswers t 21 tag .range) ∧
    ∀ o : Bool,
      (l.state = .parked →
        ∃ t m, exec (.wakeNow tag n o.toNat) s = .next t ∧ t.answers 21 tag .done [] ∧ t.load? n = some m ∧
          (m.state = .wakeQueued ∨ ∃ w, m.state = .waking w) ∧ m.wakeDue = false ∧ m.parkOwned = l.parkOwned ∧
          m.cfg = l.cfg ∧ m.hold = l.hold ∧ t.blocks = { s.blocks with plant := t.plant } ∧
          (o = true → l.awaitingFan = false → m.awaitingFan = false) ∧
          (o = true → ∀ k x, k ≠ n → s.load? k = some x → x.state ≠ .wakeQueued → t.load? k = some x) ∧
          (o = false → l.cfg.kind ≠ .fan → l.cfg.zone ≠ 0 →
            (∃ f ∈ s.plant.loads, f.cfg.kind = .fan ∧ f.cfg.zone = l.cfg.zone) →
            (∀ f ∈ s.plant.loads, f.cfg.kind = .fan → f.cfg.zone = l.cfg.zone →
              f.state ≠ .active ∧ f.state ≠ .idling ∧ f.state ≠ .parkPending) →
            m.state = .wakeQueued ∧ m.awaitingFan = true ∧
            (let served := fun f : Load => f.cfg.kind == .fan && f.cfg.zone == l.cfg.zone
            (∀ k f, s.load? k = some f → served f = true →
              (f.state = .parked → ∃ g, t.load? k = some g ∧ (g.state = .wakeQueued ∨ ∃ w, g.state = .waking w) ∧
                g.wakeDue = false ∧ g.cfg = f.cfg) ∧
              ((∃ p, f.state = .parking p) ∨ (f.state = .offline ∧ f.parkOwned = true) →
                t.load? k = some { f with wakeDue := true }) ∧
              ((∃ w, f.state = .waking w) ∨ f.state = .stopped ∨ f.state = .faulted ∨
                  (f.state = .offline ∧ f.parkOwned = false) → t.load? k = some f)) ∧
            (∀ k x, k ≠ n → s.load? k = some x → served x = false → x.state ≠ .wakeQueued → t.load? k = some x) ∧
            ∀ i : FeederId, (s.plant.feeder i).spacingTimer ≠ none →
              ∃ fans : List Load,
                fans.Perm (s.plant.loads.filter (fun f => served f && f.state == .parked && f.cfg.feeder == i)) ∧
                fans.Pairwise (fun a b =>
                  a.cfg.wakeRank < b.cfg.wakeRank ∨ (a.cfg.wakeRank = b.cfg.wakeRank ∧ a.num < b.num)) ∧
                (t.plant.feeder i).queue = (s.plant.feeder i).queue ++
                  (if l.cfg.feeder = i then [{ load := n, passed := 0 }] else []) ++
                  fans.map (fun f => { load := f.num, passed := 0 })))) ∧
      ((∃ p, l.state = .parking p) ∨ (l.state = .offline ∧ l.parkOwned = true) →
        ∃ t, exec (.wakeNow tag n o.toNat) s = .next t ∧ t.answers 21 tag .deferred [] ∧
          t.blocks = { s.blocks with plant := s.plant.setLoad n (fun l => { l with wakeDue := true }) }) ∧
      (l.state = .wakeQueued ∨ (∃ w, l.state = .waking w) →
        ∃ t, exec (.wakeNow tag n o.toNat) s = .next t ∧ s.onlyAnswers t 21 tag .done) ∧
      ((l.state = .offline ∧ l.parkOwned = false) ∨ l.state = .active ∨ l.state = .idling ∨ l.state = .parkPending ∨
          l.state = .stopped ∨ l.state = .faulted →
        ∃ t, exec (.wakeNow tag n o.toNat) s = .next t ∧ s.onlyAnswers t 21 tag .wrongState)

/-- CANCEL_WAKE on a WAKE_QUEUED load is answered DONE: its entry leaves the queue, the entries behind it keeping
order and counts, and it is PARKED with wake-due and awaiting-fan clear and everything else kept, a due MOTOR OFF and
the alert block too. CLEAR_FAULT on a FAULTED load is answered DONE: it is OFFLINE with dwell 0 and idle flag clear
and everything else kept, and only the beacon can be released. In every other state both are refused WRONG_STATE. -/
def Obligations.WakesAndFaultsAreCancelled : Prop :=
  ∀ (s : State) (tag : Byte) (n : Nat) (l : Load), s.ready → 1 ≤ n → n ≤ 96 → s.load? n = some l →
    (l.state = .wakeQueued →
      ∃ t, exec (.cancelWake tag n) s = .next t ∧ t.answers 22 tag .done [] ∧
        t.load? n = some { l with state := .parked, wakeDue := false, awaitingFan := false } ∧
        s.plant.sameButLoad n t.plant ∧ t.plant.stations = s.plant.stations ∧
        t.plant.feeders = (s.plant.setFeeder l.cfg.feeder (fun f =>
          { f with queue := f.queue.filter (fun e => e.load != n) })).feeders ∧
        t.blocks = { s.blocks with plant := t.plant }) ∧
    (l.state ≠ .wakeQueued → ∃ t, exec (.cancelWake tag n) s = .next t ∧ s.onlyAnswers t 22 tag .wrongState) ∧
    (l.state = .faulted →
      ∃ t, exec (.clearFault tag n) s = .next t ∧ t.answers 23 tag .done [] ∧
        t.load? n = some { l with state := .offline, dwell := 0, idle := false } ∧
        s.plant.sameButLoad n t.plant ∧ t.plant.stations = s.plant.stations ∧ t.plant.feeders = s.plant.feeders ∧
        t.blocks = { s.blocks with plant := t.plant, alerts := t.alerts } ∧
        t.alerts = { s.alerts with beacon :=
          if (∀ x ∈ t.plant.loads, x.state ≠ .faulted) ∧ (∀ i, (s.station i).link ≠ .lost) ∧
              s.assent.state ≠ .lapsed ∧ s.alerts.statusRead = true then false else s.alerts.beacon }) ∧
    (l.state ≠ .faulted → ∃ t, exec (.clearFault tag n) s = .next t ∧ s.onlyAnswers t 23 tag .wrongState)

/-- CHALLENGE is answered DONE with the state, trust count and PERMIT it leaves, and the current token exactly when it
leaves AWAIT_ANSWER. In DORMANT and LAPSED the trust count becomes the start count and PERMIT is judged. In
AWAIT_CHALLENGE with request check on, an early or late one sets its flag and takes a bad step and one in the window a
good step, and with request check off no step is taken. In AWAIT_ANSWER it takes a bad step. A bad step to 0 lapses
the monitor and counts a fault event; otherwise the state is AWAIT_ANSWER with an answer window at 0. The token,
calendar, sweep and deframer are as before, and without a lapse the plant, and of the alert block only notices and,
from LAPSED, the beacon can change. -/
def Obligations.ChallengesAreJudged : Prop :=
  ∀ (s : State) (tag : Byte), s.ready →
    ∃ t, exec (.challenge tag) s = .next t ∧
      t.answers 25 tag .done ([b8 t.assent.state.code, b8 (t.assent.trust + 128 * t.assent.permit.toNat)] ++
        (match t.assent.state with
          | .awaitAnswer _ => 1 :: b16 s.assent.token
          | _ => [0])) ∧
      t.assent = (match s.assent.state with
        | .dormant =>
          { s.assent with
            state := .awaitAnswer 0, trust := s.assent.params.startCount,
            permit := s.assent.permitAt s.assent.params.startCount }
        | .lapsed =>
          { s.assent with
            state := .awaitAnswer 0, trust := s.assent.params.startCount,
            permit := s.assent.permitAt s.assent.params.startCount }
        | .awaitAnswer _ => s.assent.afterBad (.awaitAnswer 0)
        | .awaitChallenge e =>
          if s.assent.params.requestCheck = false then { s.assent with state := .awaitAnswer 0 }
          else if e < s.assent.params.requestOpen then
            { s.assent with flags := { s.assent.flags with earlyRequest := true } }.afterBad (.awaitAnswer 0)
          else if e < s.assent.params.requestOpen + s.assent.params.requestClose then
            s.assent.afterGood (.awaitAnswer 0)
          else { s.assent with flags := { s.assent.flags with lateRequest := true } }.afterBad (.awaitAnswer 0)) ∧
      t.blocks = { s.blocks with plant := t.plant, assent := t.assent, alerts := t.alerts } ∧
      (t.assent.state = .lapsed → s.alerts.faultCounted t.alerts) ∧
      (t.assent.state ≠ .lapsed → t.plant = s.plant ∧
        t.alerts = { s.alerts with queue := t.alerts.queue, beacon := t.alerts.beacon } ∧
        (s.assent.state ≠ .lapsed → t.alerts.beacon = s.alerts.beacon))

/-- In AWAIT_ANSWER, ANSWER is answered DONE with the state, trust count and PERMIT it leaves and the judgement: EARLY
and LATE set their flag and take a bad step, whatever the numbers; in the window an echo of the token with the value
65535 minus the token takes a good step and advances the token to (token x 25173 + 13849) mod 65536, and any other
pair is WRONG with a bad step. Without a lapse a request window starts at 0. In AWAIT_CHALLENGE it is answered IGNORED
and takes a bad step, the window running on. In DORMANT and LAPSED it is answered NOT_STARTED and changes nothing. A
lapse counts a fault event; without one the plant is as before and only notices change in the alert block. The token
is 4660 after power-on, and when the soft restart takes effect whose reply is in progress. -/
def Obligations.AnswersAreJudged : Prop :=
  ∀ (s : State) (tag : Byte) (echo value : Nat), s.ready →
    (∀ e, s.assent.state = .awaitAnswer e →
      ∃ t, exec (.answer tag echo value) s = .next t ∧
        t.blocks = { s.blocks with plant := t.plant, assent := t.assent, alerts := t.alerts } ∧
        (t.assent.state = .lapsed → s.alerts.faultCounted t.alerts) ∧
        (t.assent.state ≠ .lapsed → t.plant = s.plant ∧ s.alerts.sameButQueue t.alerts) ∧
        (if e < s.assent.params.answerOpen then
          t.answers 26 tag .done
            [b8 t.assent.state.code, b8 (t.assent.trust + 128 * t.assent.permit.toNat), 1, 0] ∧
          t.assent =
            { s.assent with flags := { s.assent.flags with earlyAnswer := true } }.afterBad (.awaitChallenge 0)
        else if s.assent.params.answerOpen + s.assent.params.answerClose ≤ e then
          t.answers 26 tag .done
            [b8 t.assent.state.code, b8 (t.assent.trust + 128 * t.assent.permit.toNat), 1, 3] ∧
          t.assent =
            { s.assent with flags := { s.assent.flags with lateAnswer := true } }.afterBad (.awaitChallenge 0)
        else if echo = s.assent.token ∧ value = 65535 - s.assent.token then
          t.answers 26 tag .done
            [b8 t.assent.state.code, b8 (t.assent.trust + 128 * t.assent.permit.toNat), 1, 1] ∧
          t.assent = { s.assent.afterGood (.awaitChallenge 0) with
            token := (s.assent.token * 25173 + 13849) % 65536 }
        else
          t.answers 26 tag .done
            [b8 t.assent.state.code, b8 (t.assent.trust + 128 * t.assent.permit.toNat), 1, 2] ∧
          t.assent =
            { s.assent with flags := { s.assent.flags with wrongAnswer := true } }.afterBad (.awaitChallenge 0))) ∧
    (∀ e, s.assent.state = .awaitChallenge e →
      ∃ t, exec (.answer tag echo value) s = .next t ∧
        t.answers 26 tag .ignored
          [b8 t.assent.state.code, b8 (t.assent.trust + 128 * t.assent.permit.toNat), 0] ∧
        t.assent = s.assent.afterBad (.awaitChallenge e) ∧
        t.blocks = { s.blocks with plant := t.plant, assent := t.assent, alerts := t.alerts } ∧
        (t.assent.state = .lapsed → s.alerts.faultCounted t.alerts) ∧
        (t.assent.state ≠ .lapsed → t.plant = s.plant ∧ s.alerts.sameButQueue t.alerts)) ∧
    (s.assent.state = .dormant ∨ s.assent.state = .lapsed →
      ∃ t, exec (.answer tag echo value) s = .next t ∧ t.blocks = s.blocks ∧
        t.answers 26 tag .notStarted
          [b8 s.assent.state.code, b8 (s.assent.trust + 128 * s.assent.permit.toNat), 0]) ∧
    State.reset.assent.token = 4660 ∧
    ∀ u : State, u.restarting → ∃ t, exec .softRestartTakesEffect u = .next t ∧ t.assent.token = 4660

/-- READ_LOADS of a page index above 4, and of a page above 0 that holds no load, is refused RANGE. Otherwise it is
answered DONE with the page index, the more flag exactly when loads stand beyond the page, and one summary of six
bytes for each of the loads at positions 20k + 1 to 20k + 20 of the list, which stands in ascending load number:
number, state, reported activity, hold set and flags. The reply payload has at most 122 bytes, and exactly 122 for a
full page. Nothing changes. -/
def Obligations.LoadsAreReadInPages : Prop :=
  ∀ (s : State) (tag : Byte) (k : Nat), s.ready →
    (4 < k ∨ (k ≠ 0 ∧ s.plant.loads.length ≤ 20 * k) →
      ∃ t, exec (.readLoads tag k) s = .next t ∧ s.onlyAnswers t 28 tag .range) ∧
    (k ≤ 4 → k = 0 ∨ 20 * k < s.plant.loads.length →
      ∃ t data, exec (.readLoads tag k) s = .next t ∧ t.blocks = s.blocks ∧ t.answers 28 tag .done data ∧
        data = b8 (k + 128 * (decide (20 * k + 20 < s.plant.loads.length)).toNat) ::
          ((s.plant.loads.drop (20 * k)).take 20).flatMap (fun l =>
            [b8 l.num, b8 l.state.code, b8 ((l.a16 + 8) / 16 / 256), b8 ((l.a16 + 8) / 16),
             b8 (l.hold.byCall.toNat + 2 * l.hold.byHost.toNat + 4 * l.hold.byLockout.toNat),
             b8 (l.idle.toNat + 2 * l.manual.toNat + 4 * l.wakeDue.toNat + 8 * l.parkOwned.toNat +
               16 * l.awaitingFan.toNat)]) ∧
        data.length + 1 = 2 + 6 * min 20 (s.plant.loads.length - 20 * k) ∧
        (s.plant.numbered → s.plant.loads.Pairwise (fun a b => a.num < b.num)))

/-- IDENTIFY is answered DONE with 3248 in two bytes, 1, 96, 40, 4, 8, 4 and 16. READ_LOAD of a bound load is answered
DONE with its configured fields in the BIND LOAD layout and then its runtime fields, each an optional item where it
may be absent; the place of sample age, UNLOADING phase and queue position at the end is the model's reading (log
entry 28). READ_STATION outside 1 to 40 is refused RANGE, and else answered DONE with the whole station record:
enabled value, channels fitted, link state and miss count; the order in the slot; last-served channel, inquiry kind
and options; run hours, temperatures, fault list and identity, each present or absent; restart-noted; the last calls
and the last lockouts of the fitted channels; and for each of them its load with the order that waits in its record.
The order inside these last groups, and the bytes 0 of a channel without a result, are the model's readings (log
entries 10 and 11). READ_FEEDER outside its feeders or pages 0 to 5, and of a page above 0 that holds no item, is
refused RANGE; otherwise it is answered DONE with the page index and the more flag, the capacity, the free units, the
spacing, the remaining spacing time and up to 16 items of six bytes: the queue entries, oldest first, with pass-over
count, awaiting-fan and eligible flag, and then the feeder's WAKING loads in the load table's order with demand, wake
step and remaining settle time. A remaining time may be one second less for the part of a second that has gone (log
entry 5). None changes any block. -/
def Obligations.ReadsAndIdentifyChangeNothing : Prop :=
  ∀ (s : State) (tag : Byte), s.ready →
    (∃ t, exec (.identify tag) s = .next t ∧ t.blocks = s.blocks ∧
      t.answers 33 tag .done [0x0C, 0xB0, 1, 96, 40, 4, 8, 4, 16]) ∧
    (∀ (n : Nat) (l : Load), 1 ≤ n → n ≤ 96 → s.load? n = some l →
      ∃ (t : State) (data place : List Byte) (late : Bool), exec (.readLoad tag n) s = .next t ∧ t.blocks = s.blocks ∧
        t.answers 27 tag .done data ∧ data.take 34 = l.cfg.fields.bytes ∧
        data.drop 34 = [b8 l.state.code] ++
          (match l.state with
            | .parking step => [1, b8 step.code]
            | _ => [0]) ++
          (match l.state with
            | .waking step => [1, b8 step.code]
            | _ => [0]) ++
          [b8 (l.hold.byCall.toNat + 2 * l.hold.byHost.toNat + 4 * l.hold.byLockout.toNat)] ++ b16 l.a16 ++
          b16 ((l.a16 + 8) / 16) ++ [b8 l.idle.toNat] ++ b16 l.dwell ++ stampBytes l.sampleTime ++
          [b8 l.manual.toNat, b8 l.wakeDue.toNat, b8 l.parkOwned.toNat] ++
          (match l.due with
            | none => [0]
            | some k => [1, b8 k.code,
                if (s.station l.cfg.station).slot.map Order.channel = some l.cfg.channel then 0 else 1]) ++
          (match l.timer with
            | none => [0xFF, 0xFF]
            | some x => b16 (x.limit - x.elapsed - late.toNat)) ++
          stampBytes l.stopTime ++ [b8 l.awaitingFan.toNat] ++
          [b8 (l.latest.safeStop.toNat + 2 * l.latest.speedLow.toNat + 4 * l.latest.unloaded.toNat)] ++
          (match l.sampleAge with
            | none => [0]
            | some age => [1, b8 age]) ++
          (match l.state with
            | .parking (.unloading phase) => [1, if phase = .dwell then 1 else 0]
            | _ => [0]) ++ place ∧
        (∀ earlier passed later, (s.plant.feeder l.cfg.feeder).queue = earlier ++ ⟨n, passed⟩ :: later →
          (∀ e ∈ earlier, e.load ≠ n) → place = [b8 (earlier.length + 1), 1, b8 passed]) ∧
        ((∀ e ∈ (s.plant.feeder l.cfg.feeder).queue, e.load ≠ n) → place = [0xFF, 0])) ∧
    (∀ n : Nat, n = 0 ∨ 40 < n → ∃ t, exec (.readStation tag n) s = .next t ∧ s.onlyAnswers t 29 tag .range) ∧
    (∀ i : StationId, ∃ t, exec (.readStation tag (i.val + 1)) s = .next t ∧ t.blocks = s.blocks ∧
      (let st := s.station i
      let fitted := ([0, 1, 2, 3] : List Channel).filter (fun c => decide (c.val < st.fitted))
      t.answers 29 tag .done
        ([b8 st.enabled.toNat, b8 st.fitted, b8 st.link.code, b8 st.misses] ++
        (match st.slot with
          | none => [0]
          | some o => [1, b8 o.channel.val, b8 o.kind.code]) ++
        [b8 st.lastServed.val, b8 st.inquiry.code, b8 (st.once.toNat + 2 * st.round.toNat)] ++
        (match st.runHours with
          | none => [0]
          | some hours => 1 :: fitted.flatMap (fun c => b16 (hours.getD c.val 0))) ++
        (match st.temperatures with
          | none => [0]
          | some degrees => 1 :: fitted.map (fun c => BitVec.ofInt 8 (degrees.getD c.val 0))) ++
        (match st.faultList with
          | none => [0]
          | some codes => 1 :: b8 codes.length :: codes.map b8) ++
        (match st.ident with
          | none => [0]
          | some (type, level) => [1, b8 type, b8 level]) ++
        [b8 st.restartNoted.toNat] ++ fitted.map (fun c => b8 st.lastCall[c].toNat) ++
        fitted.map (fun c => b8 st.lastLockout[c].toNat) ++
        fitted.flatMap (fun c =>
          match s.plant.loadAt? i c with
          | none => [0, 0]
          | some l =>
            match l.due with
            | none => [b8 l.num, 0]
            | some k =>
              if st.slot.map Order.channel = some c then [b8 l.num, 0] else [b8 l.num, 1, b8 k.code, 1])))) ∧
    (∀ f p : Nat, f = 0 ∨ 4 < f ∨ 5 < p → ∃ t, exec (.readFeeder tag f p) s = .next t ∧ s.onlyAnswers t 30 tag .range) ∧
    ∀ (i : FeederId) (k : Nat), k ≤ 5 →
      (let queue := (s.plant.feeder i).queue
      let waking := s.plant.loads.filter (fun l => l.cfg.feeder == i && l.isWaking)
      (k ≠ 0 → queue.length + waking.length ≤ 16 * k →
        ∃ t, exec (.readFeeder tag (i.val + 1) k) s = .next t ∧ s.onlyAnswers t 30 tag .range) ∧
      (k = 0 ∨ 16 * k < queue.length + waking.length →
        ∃ (t : State) (late : Nat → Bool) (lateSpacing : Bool), exec (.readFeeder tag (i.val + 1) k) s = .next t ∧
          t.blocks = s.blocks ∧
          (let items :=
            queue.map (fun e => [b8 e.load, 0, b8 e.passed,
              b8 (((s.load? e.load).any Load.awaitingFan).toNat +
                2 * (s.plant.eligible s.calendar.clock e).toNat), 0, 0]) ++
            waking.map (fun l => [b8 l.num, 1, b8 l.cfg.demand, b8 (if l.state = .waking .ordered then 1 else 2)] ++
              (match l.timer with
                | none => [0xFF, 0xFF]
                | some x => b16 (x.limit - x.elapsed - (late l.num).toNat)))
          t.answers 30 tag .done
            ([b8 (k + 128 * (decide (16 * k + 16 < queue.length + waking.length)).toNat), b8 (s.plant.feeder i).capacity,
              b8 (s.plant.feeder i).free, b8 (s.plant.feeder i).spacing] ++
            (match (s.plant.feeder i).spacingTimer with
              | none => [0xFF, 0xFF]
              | some x => b16 (x.limit - x.elapsed - lateSpacing.toNat)) ++
            ((items.drop (16 * k)).take 16).flatten))))

/-- READ_STATUS is answered DONE with a payload of 31 bytes that carries, as they stood and at the offsets of chapter
11, the sweep mode, current and pending last station, pause, digest, clock, profile states, assent state, trust count
with PERMIT, assent status flags, lapse count, notice count, the alert byte of mode, line and beacon, frame error
count and fault count. It then empties the assent status flags, sets the frame error count and the fault count to 0
and the status-read mark, and releases the beacon if no fault stands. FETCH_NOTICE removes the oldest notice and
answers DONE with its source, kinds, time, profile sets and the number that remain, or is answered EMPTY on an empty
queue. Nothing else changes, but that in NOTICE mode a fetch that empties the queue releases the ALERT pin. -/
def Obligations.StatusAndNoticesAreRead : Prop :=
  ∀ (s : State) (tag : Byte), s.ready →
    (∃ t data, exec (.readStatus tag) s = .next t ∧ t.answers 31 tag .done data ∧ data.length = 30 ∧
      (let at' := fun offset count => ((b8 0 :: data).drop offset).take count
      at' 1 1 = [b8 s.sweep.mode.code] ∧
      at' 2 1 = [(match s.sweep.line with
        | .slot v => b8 (v.station.val + 1)
        | _ => 0)] ∧
      at' 3 1 = [b8 (s.sweep.pendingLast.getD 0)] ∧
      at' 4 1 = [b8 (s.sweep.stopRequested.toNat + 2 * s.sweep.rate.code)] ∧ at' 5 1 = [b8 s.sweep.pause] ∧
      at' 6 1 = [b8 (s.sweep.digest.flags.newCall.toNat + 2 * s.sweep.digest.flags.newLoss.toNat +
        4 * s.sweep.digest.flags.anyMiss.toNat)] ∧
      at' 7 3 = b24 s.sweep.digest.activity ∧ at' 10 1 = [b8 s.sweep.digest.parked] ∧
      at' 11 2 = b16 s.sweep.digest.round ∧
      at' 13 8 = (match s.calendar.clock with
        | none => [0, 0, 0, 0, 0, 0, 0, 0]
        | some k => b16 k.date.year ++ [b8 k.date.month, b8 k.date.day, b8 k.dayOfWeek] ++ b24 k.seconds) ∧
      at' 21 1 = [b8 (s.calendar.held[0].toNat + 2 * s.calendar.held[1].toNat + 4 * s.calendar.held[2].toNat +
        8 * s.calendar.held[3].toNat)] ∧
      at' 22 1 = [b8 s.assent.state.code] ∧ at' 23 1 = [b8 (s.assent.trust + 128 * s.assent.permit.toNat)] ∧
      at' 24 1 = [b8 (s.assent.flags.earlyAnswer.toNat + 2 * s.assent.flags.lateAnswer.toNat +
        4 * s.assent.flags.wrongAnswer.toNat + 8 * s.assent.flags.earlyRequest.toNat +
        16 * s.assent.flags.lateRequest.toNat + 32 * s.assent.flags.answerTimeout.toNat +
        64 * s.assent.flags.requestTimeout.toNat + 128 * s.assent.flags.lapsedByCount.toNat)] ∧
      at' 27 1 = [(match s.alerts.mode with
        | .notice => b8 (2 * (!s.alerts.queue.isEmpty).toNat + 4 * s.alerts.beacon.toNat)
        | .beacon => b8 (1 + 2 * s.alerts.beacon.toNat + 4 * s.alerts.beacon.toNat))] ∧
      at' 25 1 = [b8 s.assent.lapses] ∧ at' 26 1 = [b8 s.alerts.queue.length] ∧ at' 28 2 = b16 s.link.errors ∧
      at' 30 1 = [b8 s.alerts.faultCount]) ∧
      t.blocks = { s.blocks with
        assent := { s.assent with flags := .empty }
        errors := 0
        alerts := { s.alerts with
          faultCount := 0, statusRead := true,
          beacon :=
            if (∀ l ∈ s.plant.loads, l.state ≠ .faulted) ∧ (∀ i, (s.station i).link ≠ .lost) ∧
              s.assent.state ≠ .lapsed then false else s.alerts.beacon } }) ∧
    (∀ x rest, s.alerts.queue = x :: rest →
      ∃ t, exec (.fetchNotice tag) s = .next t ∧
        t.blocks = { s.blocks with alerts := { s.alerts with queue := rest } } ∧
        (s.alerts.mode = .notice → rest = [] → t.pins.alertLow = false) ∧
        t.answers 32 tag .done
          ([b8 (match x.source with
            | .device => 0
            | .load n => n
            | .station i => 101 + i.val)] ++ b16 x.kinds.toNat ++
          (match x.time with
            | none => [0, 0, 0, 0, 0, 0, 0]
            | some z => b16 z.date.year ++ [b8 z.date.month, b8 z.date.day] ++ b24 z.seconds) ++
          [b8 x.opened.toNat, b8 x.closed.toNat, b8 rest.length])) ∧
    (s.alerts.queue = [] → ∃ t, exec (.fetchNotice tag) s = .next t ∧ s.onlyAnswers t 32 tag .empty)

/-- SOFT_RESTART is answered DONE and changes nothing else. When it takes effect every load is OFFLINE with its
fields, hold set, park-owned flag and stop time kept and its assessment, order, timer and other flags cleared; every
feeder has its capacity free, an empty queue and no spacing timer; every enabled station is UNHEARD with miss count 0
and a disabled one EXCLUDED, its order slot, inquiry and restart-noted clear, last-served channel 3 and its results,
fitted channels and last values kept. That a disabled station not yet EXCLUDED becomes so, and that the row restarts
the part also where no SOFT RESTART reply is in progress, are the model's choices (log entries 15 and 36). Group
minimums and curves are kept. -/
def Obligations.SoftRestartOfThePlant : Prop :=
  ∀ s : State,
    (∀ tag : Byte, s.ready →
      ∃ t, exec (.softRestart tag) s = .next t ∧ t.answers 34 tag .done [] ∧ t.blocks = s.blocks) ∧
    (s.inReset = false →
      ∃ t, exec .softRestartTakesEffect s = .next t ∧
        t.plant.loads = s.plant.loads.map (fun l =>
          { num := l.num, cfg := l.cfg, state := .offline, hold := l.hold, a16 := 0, idle := false, dwell := 0,
            sampleTime := none, sampleAge := none, manual := false, wakeDue := false, parkOwned := l.parkOwned,
            due := none, timer := none, stopTime := l.stopTime, awaitingFan := false,
            latest := { safeStop := false, speedLow := false, unloaded := false } }) ∧
        (∀ i, t.plant.feeder i =
          { capacity := (s.plant.feeder i).capacity, free := (s.plant.feeder i).capacity,
            spacing := (s.plant.feeder i).spacing, spacingTimer := none, queue := [] }) ∧
        (∀ i, t.station i = { s.station i with
          link := if (s.station i).enabled then .unheard else .excluded
          misses := if (s.station i).enabled then 0 else (s.station i).misses
          slot := none, lastServed := 3, inquiry := .routine, once := false, round := false,
          restartNoted := false }) ∧
        t.plant.groups = s.plant.groups ∧ t.plant.curves = s.plant.curves)

/-- When the soft restart takes effect the sweep is STOPPED with round number 0, a pending last station taken, no stop
request, idle line and clear round flags, its rate, pause and digest kept; the monitor is DORMANT with trust count 0,
PERMIT clear, token 4660 and no status flag, its parameters and lapse count kept; the alert settings are kept, with
fault count 0, beacon clear, status-read mark set and no notice but, where it is enabled, that of SOFT_RESTARTED at
the clock reading; buffer and reply are gone, the deframer hunts and the frame error count is kept; and the calendar
is as before. That the row does so also where no SOFT RESTART reply is in progress is the model's choice (log entry
36). -/
def Obligations.SoftRestartOfTheRest : Prop :=
  ∀ s : State, s.inReset = false →
    ∃ t, exec .softRestartTakesEffect s = .next t ∧
      t.sweep = { s.sweep with
        mode := .stopped, lastStation := s.sweep.pendingLast.getD s.sweep.lastStation, pendingLast := none,
        stopRequested := false, roundNumber := 0, flags := .clear, line := .idle } ∧
      t.assent = { s.assent with
        state := .dormant, trust := 0, permit := false, token := 4660,
        flags := { earlyAnswer := false, lateAnswer := false, wrongAnswer := false, earlyRequest := false,
                   lateRequest := false, answerTimeout := false, requestTimeout := false, lapsedByCount := false } } ∧
      t.alerts = { s.alerts with
        faultCount := 0, beacon := false, statusRead := true,
        queue := if s.alerts.enabled = true ∧ s.alerts.deviceSet.getLsbD 7 = true then
            [{ source := .device, kinds := 128, time := s.calendar.clock.map Clock.stamp, opened := 0, closed := 0 }]
          else [] } ∧
      t.link = { deframer := .hunting, buffer := [], reply := none, errors := s.link.errors } ∧
      t.calendar = s.calendar ∧ t.inReset = false ∧ t.pending = s.pending

/-- For every curve with knots of at most 1000 and every raw sample 0 to 4095, with s and f the quotient and remainder
by 512, the level is K(s) + floor((P + 256) / 512) for P the rise of the span times f, lies between K(s) and K(s+1)
inclusive and so within 0 to 1000, is within a half of the exact value K(s) + P/512 with an exact half upwards, and is
exactly the knot at f = 0. -/
def Obligations.LevelInterpolatesTheCurve : Prop :=
  ∀ (k : Knots) (raw : Nat), (∀ j : Nat, 1 ≤ j → j ≤ 7 → k.knot j ≤ 1000) → raw < 4096 →
    (let s := raw / 512
    let p : Int := ((k.knot (s + 1) : Int) - k.knot s) * (raw - 512 * s : Nat)
    (level k raw : Int) = k.knot s + Int.floor (((p + 256 : Int) : ℚ) / 512) ∧
    min (k.knot s) (k.knot (s + 1)) ≤ level k raw ∧ level k raw ≤ max (k.knot s) (k.knot (s + 1)) ∧
    level k raw ≤ 1000 ∧ 512 * ((level k raw : Int) - k.knot s) ≤ p + 256 ∧
    p + 256 < 512 * ((level k raw : Int) - k.knot s) + 512 ∧ (raw = 512 * s → level k raw = k.knot s))

/-- For a level of at most 1000 the sample activity is 0 when the level is at most floor plus band and level minus
both above it, at most 1000, 0 for every such level when floor plus band is 1000 or more and the level itself when
both are 0. For an A16 of at most 16000, a sample activity of at most 1000 and a weight 1 to 16, the new A16 is A16
plus diff times weight sixteenths rounded to the nearest, an exact half away from zero; it lies between A16 and 16a
inclusive and within 0 to 16000, and is exactly 16a at weight 16. A newly bound load starts at 0. -/
def Obligations.CoringAndSmoothing : Prop :=
  (∀ floor band lvl : Nat, lvl ≤ 1000 →
      (lvl ≤ floor + band → sampleActivity floor band lvl = 0) ∧
      (floor + band < lvl → sampleActivity floor band lvl = lvl - floor - band) ∧
      sampleActivity floor band lvl ≤ 1000 ∧ (1000 ≤ floor + band → sampleActivity floor band lvl = 0) ∧
      sampleActivity 0 0 lvl = lvl) ∧
    (∀ a16 a w : Nat, a16 ≤ 16000 → a ≤ 1000 → 1 ≤ w → w ≤ 16 →
      (let diff : Int := 16 * (a : Int) - a16
      let step : Int := (smooth a16 a w : Int) - a16
      2 * |16 * step - diff * w| ≤ 16 ∧
      (2 * |16 * step - diff * w| = 16 → |diff * w| < |16 * step|) ∧
      min a16 (16 * a) ≤ smooth a16 a w ∧ smooth a16 a w ≤ max a16 (16 * a) ∧ smooth a16 a w ≤ 16000 ∧
      (w = 16 → smooth a16 a w = 16 * a))) ∧
    ∀ (n : Nat) (c : LoadConfig) (h : HoldSet), (Load.bound n c h).a16 = 0

end Slice0
end

