-- ==== Sys2Proof/Laws/PerInstr.lean ====
section
/-!
SUPPORT. Laws about each command as syntax. `FrameLength`: the frame of a request carries a payload of the one length
that its kind has (R177), so no request row is one that the part would answer LENGTH (R169).
-/

namespace Sys2Proof.Laws

open Sys2Proof Sys2Proof.Machine

/-- The frame that carries the command, where it is a request of the catalogue, has the payload length of its kind. -/
def FrameLength.Statement (c : Instr) : Prop :=
  ∀ f, requestFrame? c = some f → payloadLength? f.kind.toNat = some f.payload.length

/-- A command that is no request of the catalogue has no frame. -/
theorem FrameLength.of_none {c : Instr} (h : requestFrame? c = none) : FrameLength.Statement c := by
  intro f hf
  rw [h] at hf
  cases hf

/-- A request has one frame, so the law is about that frame. -/
theorem FrameLength.of_some {c : Instr} (f : Frame) (h : requestFrame? c = some f)
    (hl : payloadLength? f.kind.toNat = some f.payload.length) : FrameLength.Statement c := by
  intro g hg
  rw [h] at hg
  cases hg
  exact hl

theorem FrameLength.powerOn : FrameLength.Statement .powerOn :=
  FrameLength.of_none rfl

theorem FrameLength.resetPinLow : FrameLength.Statement .resetPinLow :=
  FrameLength.of_none rfl

theorem FrameLength.leaveReset : FrameLength.Statement .leaveReset :=
  FrameLength.of_none rfl

theorem FrameLength.secondsEvent : FrameLength.Statement .secondsEvent :=
  FrameLength.of_none rfl

theorem FrameLength.quarterSecondEvent : FrameLength.Statement .quarterSecondEvent :=
  FrameLength.of_none rfl

theorem FrameLength.dwellComplete (load : Nat) : FrameLength.Statement (.dwellComplete load) :=
  FrameLength.of_none rfl

theorem FrameLength.minimumOffElapsed : FrameLength.Statement .minimumOffElapsed :=
  FrameLength.of_none rfl

theorem FrameLength.stepTimerExpiry (load : Nat) : FrameLength.Statement (.stepTimerExpiry load) :=
  FrameLength.of_none rfl

theorem FrameLength.coastLimitExpiry (load : Nat) : FrameLength.Statement (.coastLimitExpiry load) :=
  FrameLength.of_none rfl

theorem FrameLength.unloadDwellExpiry (load : Nat) : FrameLength.Statement (.unloadDwellExpiry load) :=
  FrameLength.of_none rfl

theorem FrameLength.settleTimerExpiry (load : Nat) : FrameLength.Statement (.settleTimerExpiry load) :=
  FrameLength.of_none rfl

theorem FrameLength.spacingTimerExpiry (feeder : Nat) : FrameLength.Statement (.spacingTimerExpiry feeder) :=
  FrameLength.of_none rfl

theorem FrameLength.answerWindowTimeout : FrameLength.Statement .answerWindowTimeout :=
  FrameLength.of_none rfl

theorem FrameLength.requestWindowTimeout : FrameLength.Statement .requestWindowTimeout :=
  FrameLength.of_none rfl

theorem FrameLength.pauseEnd : FrameLength.Statement .pauseEnd :=
  FrameLength.of_none rfl

theorem FrameLength.slotEnd : FrameLength.Statement .slotEnd :=
  FrameLength.of_none rfl

theorem FrameLength.replyStartTimeout : FrameLength.Statement .replyStartTimeout :=
  FrameLength.of_none rfl

theorem FrameLength.fieldReplyReceived (frame : List Byte) : FrameLength.Statement (.fieldReplyReceived frame) :=
  FrameLength.of_none rfl

theorem FrameLength.framingFault : FrameLength.Statement .framingFault :=
  FrameLength.of_none rfl

theorem FrameLength.lengthOutOfRange (byte : Byte) : FrameLength.Statement (.lengthOutOfRange byte) :=
  FrameLength.of_none rfl

theorem FrameLength.gapTimeout : FrameLength.Statement .gapTimeout :=
  FrameLength.of_none rfl

theorem FrameLength.frameComplete (byte : Byte) : FrameLength.Statement (.frameComplete byte) :=
  FrameLength.of_none rfl

theorem FrameLength.replySent : FrameLength.Statement .replySent :=
  FrameLength.of_none rfl

theorem FrameLength.unknownRequest (kind tag : Byte) (payload : List Byte) : FrameLength.Statement (.unknownRequest kind tag payload) :=
  FrameLength.of_none rfl

theorem FrameLength.setFeeder (tag : Byte) (feeder capacity spacing : Nat) : FrameLength.Statement (.setFeeder tag feeder capacity spacing) :=
  FrameLength.of_some _ rfl rfl

theorem FrameLength.setGroup (tag : Byte) (group minimum : Nat) : FrameLength.Statement (.setGroup tag group minimum) :=
  FrameLength.of_some _ rfl rfl

theorem FrameLength.setCurve (tag : Byte) (curve : Nat) (knots : Knots) : FrameLength.Statement (.setCurve tag curve knots) :=
  FrameLength.of_some _ rfl rfl

theorem FrameLength.setStation (tag : Byte) (station enabled fitted : Nat) : FrameLength.Statement (.setStation tag station enabled fitted) :=
  FrameLength.of_some _ rfl rfl

theorem FrameLength.bindLoad (tag : Byte) (load : Nat) (fields : BindFields) : FrameLength.Statement (.bindLoad tag load fields) :=
  FrameLength.of_some _ rfl rfl

theorem FrameLength.unbindLoad (tag : Byte) (load : Nat) : FrameLength.Statement (.unbindLoad tag load) :=
  FrameLength.of_some _ rfl rfl

theorem FrameLength.setProfileDay (tag : Byte) (profile day : Nat) (slots : SlotRow) : FrameLength.Statement (.setProfileDay tag profile day slots) :=
  FrameLength.of_some _ rfl rfl

theorem FrameLength.setHoliday (tag : Byte) (date : Date) (rule : Nat) : FrameLength.Statement (.setHoliday tag date rule) :=
  FrameLength.of_some _ rfl rfl

theorem FrameLength.dropHoliday (tag : Byte) (date : Date) : FrameLength.Statement (.dropHoliday tag date) :=
  FrameLength.of_some _ rfl rfl

theorem FrameLength.setAssent (tag : Byte) (fields : AssentFields) : FrameLength.Statement (.setAssent tag fields) :=
  FrameLength.of_some _ rfl rfl

theorem FrameLength.setAlert (tag : Byte) (mode tolerance enable stationSet deviceSet : Nat) : FrameLength.Statement (.setAlert tag mode tolerance enable stationSet deviceSet) :=
  FrameLength.of_some _ rfl rfl

theorem FrameLength.setSweep (tag : Byte) (rate pause : Nat) : FrameLength.Statement (.setSweep tag rate pause) :=
  FrameLength.of_some _ rfl rfl

theorem FrameLength.setClock (tag : Byte) (date : Date) (dayOfWeek seconds : Nat) : FrameLength.Statement (.setClock tag date dayOfWeek seconds) :=
  FrameLength.of_some _ rfl rfl

theorem FrameLength.startSweep (tag : Byte) (mode lastStation : Nat) : FrameLength.Statement (.startSweep tag mode lastStation) :=
  FrameLength.of_some _ rfl rfl

theorem FrameLength.stopSweep (tag : Byte) : FrameLength.Statement (.stopSweep tag) :=
  FrameLength.of_some _ rfl rfl

theorem FrameLength.setLastStation (tag : Byte) (lastStation : Nat) : FrameLength.Statement (.setLastStation tag lastStation) :=
  FrameLength.of_some _ rfl rfl

theorem FrameLength.hold (tag : Byte) (load : Nat) : FrameLength.Statement (.hold tag load) :=
  FrameLength.of_some _ rfl rfl

theorem FrameLength.release (tag : Byte) (load : Nat) : FrameLength.Statement (.release tag load) :=
  FrameLength.of_some _ rfl rfl

theorem FrameLength.parkNow (tag : Byte) (load : Nat) : FrameLength.Statement (.parkNow tag load) :=
  FrameLength.of_some _ rfl rfl

theorem FrameLength.cancelPark (tag : Byte) (load : Nat) : FrameLength.Statement (.cancelPark tag load) :=
  FrameLength.of_some _ rfl rfl

theorem FrameLength.wakeNow (tag : Byte) (load override : Nat) : FrameLength.Statement (.wakeNow tag load override) :=
  FrameLength.of_some _ rfl rfl

theorem FrameLength.cancelWake (tag : Byte) (load : Nat) : FrameLength.Statement (.cancelWake tag load) :=
  FrameLength.of_some _ rfl rfl

theorem FrameLength.clearFault (tag : Byte) (load : Nat) : FrameLength.Statement (.clearFault tag load) :=
  FrameLength.of_some _ rfl rfl

theorem FrameLength.setInquiry (tag : Byte) (station kind options : Nat) : FrameLength.Statement (.setInquiry tag station kind options) :=
  FrameLength.of_some _ rfl rfl

theorem FrameLength.challenge (tag : Byte) : FrameLength.Statement (.challenge tag) :=
  FrameLength.of_some _ rfl rfl

theorem FrameLength.answer (tag : Byte) (echo value : Nat) : FrameLength.Statement (.answer tag echo value) :=
  FrameLength.of_some _ rfl rfl

theorem FrameLength.readLoad (tag : Byte) (load : Nat) : FrameLength.Statement (.readLoad tag load) :=
  FrameLength.of_some _ rfl rfl

theorem FrameLength.readLoads (tag : Byte) (page : Nat) : FrameLength.Statement (.readLoads tag page) :=
  FrameLength.of_some _ rfl rfl

theorem FrameLength.readStation (tag : Byte) (station : Nat) : FrameLength.Statement (.readStation tag station) :=
  FrameLength.of_some _ rfl rfl

theorem FrameLength.readFeeder (tag : Byte) (feeder page : Nat) : FrameLength.Statement (.readFeeder tag feeder page) :=
  FrameLength.of_some _ rfl rfl

theorem FrameLength.readStatus (tag : Byte) : FrameLength.Statement (.readStatus tag) :=
  FrameLength.of_some _ rfl rfl

theorem FrameLength.fetchNotice (tag : Byte) : FrameLength.Statement (.fetchNotice tag) :=
  FrameLength.of_some _ rfl rfl

theorem FrameLength.identify (tag : Byte) : FrameLength.Statement (.identify tag) :=
  FrameLength.of_some _ rfl rfl

theorem FrameLength.softRestart (tag : Byte) : FrameLength.Statement (.softRestart tag) :=
  FrameLength.of_some _ rfl rfl

theorem FrameLength.softRestartTakesEffect : FrameLength.Statement .softRestartTakesEffect :=
  FrameLength.of_none rfl

theorem FrameLength.replyCharacterFault : FrameLength.Statement .replyCharacterFault :=
  FrameLength.of_none rfl

theorem FrameLength.visitFrameSent : FrameLength.Statement .visitFrameSent :=
  FrameLength.of_none rfl

theorem FrameLength.replyStartBit : FrameLength.Statement .replyStartBit :=
  FrameLength.of_none rfl

theorem FrameLength.characterReceived (byte : Byte) : FrameLength.Statement (.characterReceived byte) :=
  FrameLength.of_none rfl

end Sys2Proof.Laws
end

