-- ==== Sys2Proof/Laws/State.lean ====
section
/-!
SUPPORT. One lemma per field per update of the state: what an update of one block leaves of the others, and what reading
a record after writing it gives. Tagged simp, so that no proof unfolds a record update.
-/

namespace Sys2Proof.Machine

variable (s : State)

/-! ### onPlant -/

@[simp] theorem State.onPlant_plant (f : Plant → Plant) : (s.onPlant f).plant = f s.plant := rfl
@[simp] theorem State.onPlant_calendar (f : Plant → Plant) : (s.onPlant f).calendar = s.calendar := rfl
@[simp] theorem State.onPlant_sweep (f : Plant → Plant) : (s.onPlant f).sweep = s.sweep := rfl
@[simp] theorem State.onPlant_assent (f : Plant → Plant) : (s.onPlant f).assent = s.assent := rfl
@[simp] theorem State.onPlant_alerts (f : Plant → Plant) : (s.onPlant f).alerts = s.alerts := rfl
@[simp] theorem State.onPlant_link (f : Plant → Plant) : (s.onPlant f).link = s.link := rfl
@[simp] theorem State.onPlant_inReset (f : Plant → Plant) : (s.onPlant f).inReset = s.inReset := rfl
@[simp] theorem State.onPlant_pins (f : Plant → Plant) : (s.onPlant f).pins = s.pins := rfl
@[simp] theorem State.onPlant_draws (f : Plant → Plant) : (s.onPlant f).draws = s.draws := rfl
@[simp] theorem State.onPlant_pending (f : Plant → Plant) : (s.onPlant f).pending = s.pending := rfl

/-! ### onPlantNow -/

@[simp] theorem State.onPlantNow_plant (f : Option Clock → Plant → Plant) : (s.onPlantNow f).plant = f s.calendar.clock s.plant := rfl
@[simp] theorem State.onPlantNow_calendar (f : Option Clock → Plant → Plant) : (s.onPlantNow f).calendar = s.calendar := rfl
@[simp] theorem State.onPlantNow_sweep (f : Option Clock → Plant → Plant) : (s.onPlantNow f).sweep = s.sweep := rfl
@[simp] theorem State.onPlantNow_assent (f : Option Clock → Plant → Plant) : (s.onPlantNow f).assent = s.assent := rfl
@[simp] theorem State.onPlantNow_alerts (f : Option Clock → Plant → Plant) : (s.onPlantNow f).alerts = s.alerts := rfl
@[simp] theorem State.onPlantNow_link (f : Option Clock → Plant → Plant) : (s.onPlantNow f).link = s.link := rfl
@[simp] theorem State.onPlantNow_inReset (f : Option Clock → Plant → Plant) : (s.onPlantNow f).inReset = s.inReset := rfl
@[simp] theorem State.onPlantNow_pins (f : Option Clock → Plant → Plant) : (s.onPlantNow f).pins = s.pins := rfl
@[simp] theorem State.onPlantNow_draws (f : Option Clock → Plant → Plant) : (s.onPlantNow f).draws = s.draws := rfl
@[simp] theorem State.onPlantNow_pending (f : Option Clock → Plant → Plant) : (s.onPlantNow f).pending = s.pending := rfl

/-! ### setLoad -/

@[simp] theorem State.setLoad_plant (n : Nat) (f : Load → Load) : (s.setLoad n f).plant = s.plant.setLoad n f := rfl
@[simp] theorem State.setLoad_calendar (n : Nat) (f : Load → Load) : (s.setLoad n f).calendar = s.calendar := rfl
@[simp] theorem State.setLoad_sweep (n : Nat) (f : Load → Load) : (s.setLoad n f).sweep = s.sweep := rfl
@[simp] theorem State.setLoad_assent (n : Nat) (f : Load → Load) : (s.setLoad n f).assent = s.assent := rfl
@[simp] theorem State.setLoad_alerts (n : Nat) (f : Load → Load) : (s.setLoad n f).alerts = s.alerts := rfl
@[simp] theorem State.setLoad_link (n : Nat) (f : Load → Load) : (s.setLoad n f).link = s.link := rfl
@[simp] theorem State.setLoad_inReset (n : Nat) (f : Load → Load) : (s.setLoad n f).inReset = s.inReset := rfl
@[simp] theorem State.setLoad_pins (n : Nat) (f : Load → Load) : (s.setLoad n f).pins = s.pins := rfl
@[simp] theorem State.setLoad_draws (n : Nat) (f : Load → Load) : (s.setLoad n f).draws = s.draws := rfl
@[simp] theorem State.setLoad_pending (n : Nat) (f : Load → Load) : (s.setLoad n f).pending = s.pending := rfl

/-! ### setStation -/

@[simp] theorem State.setStation_plant (i : StationId) (f : Station → Station) : (s.setStation i f).plant = s.plant.setStation i f := rfl
@[simp] theorem State.setStation_calendar (i : StationId) (f : Station → Station) : (s.setStation i f).calendar = s.calendar := rfl
@[simp] theorem State.setStation_sweep (i : StationId) (f : Station → Station) : (s.setStation i f).sweep = s.sweep := rfl
@[simp] theorem State.setStation_assent (i : StationId) (f : Station → Station) : (s.setStation i f).assent = s.assent := rfl
@[simp] theorem State.setStation_alerts (i : StationId) (f : Station → Station) : (s.setStation i f).alerts = s.alerts := rfl
@[simp] theorem State.setStation_link (i : StationId) (f : Station → Station) : (s.setStation i f).link = s.link := rfl
@[simp] theorem State.setStation_inReset (i : StationId) (f : Station → Station) : (s.setStation i f).inReset = s.inReset := rfl
@[simp] theorem State.setStation_pins (i : StationId) (f : Station → Station) : (s.setStation i f).pins = s.pins := rfl
@[simp] theorem State.setStation_draws (i : StationId) (f : Station → Station) : (s.setStation i f).draws = s.draws := rfl
@[simp] theorem State.setStation_pending (i : StationId) (f : Station → Station) : (s.setStation i f).pending = s.pending := rfl

/-! ### setCalendar -/

@[simp] theorem State.setCalendar_plant (f : Calendar → Calendar) : (s.setCalendar f).plant = s.plant := rfl
@[simp] theorem State.setCalendar_calendar (f : Calendar → Calendar) : (s.setCalendar f).calendar = f s.calendar := rfl
@[simp] theorem State.setCalendar_sweep (f : Calendar → Calendar) : (s.setCalendar f).sweep = s.sweep := rfl
@[simp] theorem State.setCalendar_assent (f : Calendar → Calendar) : (s.setCalendar f).assent = s.assent := rfl
@[simp] theorem State.setCalendar_alerts (f : Calendar → Calendar) : (s.setCalendar f).alerts = s.alerts := rfl
@[simp] theorem State.setCalendar_link (f : Calendar → Calendar) : (s.setCalendar f).link = s.link := rfl
@[simp] theorem State.setCalendar_inReset (f : Calendar → Calendar) : (s.setCalendar f).inReset = s.inReset := rfl
@[simp] theorem State.setCalendar_pins (f : Calendar → Calendar) : (s.setCalendar f).pins = s.pins := rfl
@[simp] theorem State.setCalendar_draws (f : Calendar → Calendar) : (s.setCalendar f).draws = s.draws := rfl
@[simp] theorem State.setCalendar_pending (f : Calendar → Calendar) : (s.setCalendar f).pending = s.pending := rfl

/-! ### setSweep -/

@[simp] theorem State.setSweep_plant (f : Sweep → Sweep) : (s.setSweep f).plant = s.plant := rfl
@[simp] theorem State.setSweep_calendar (f : Sweep → Sweep) : (s.setSweep f).calendar = s.calendar := rfl
@[simp] theorem State.setSweep_sweep (f : Sweep → Sweep) : (s.setSweep f).sweep = f s.sweep := rfl
@[simp] theorem State.setSweep_assent (f : Sweep → Sweep) : (s.setSweep f).assent = s.assent := rfl
@[simp] theorem State.setSweep_alerts (f : Sweep → Sweep) : (s.setSweep f).alerts = s.alerts := rfl
@[simp] theorem State.setSweep_link (f : Sweep → Sweep) : (s.setSweep f).link = s.link := rfl
@[simp] theorem State.setSweep_inReset (f : Sweep → Sweep) : (s.setSweep f).inReset = s.inReset := rfl
@[simp] theorem State.setSweep_pins (f : Sweep → Sweep) : (s.setSweep f).pins = s.pins := rfl
@[simp] theorem State.setSweep_draws (f : Sweep → Sweep) : (s.setSweep f).draws = s.draws := rfl
@[simp] theorem State.setSweep_pending (f : Sweep → Sweep) : (s.setSweep f).pending = s.pending := rfl

/-! ### flagRound -/

@[simp] theorem State.flagRound_plant (f : RoundFlags → RoundFlags) : (s.flagRound f).plant = s.plant := rfl
@[simp] theorem State.flagRound_calendar (f : RoundFlags → RoundFlags) : (s.flagRound f).calendar = s.calendar := rfl
@[simp] theorem State.flagRound_sweep (f : RoundFlags → RoundFlags) : (s.flagRound f).sweep = { s.sweep with flags := f s.sweep.flags } := rfl
@[simp] theorem State.flagRound_assent (f : RoundFlags → RoundFlags) : (s.flagRound f).assent = s.assent := rfl
@[simp] theorem State.flagRound_alerts (f : RoundFlags → RoundFlags) : (s.flagRound f).alerts = s.alerts := rfl
@[simp] theorem State.flagRound_link (f : RoundFlags → RoundFlags) : (s.flagRound f).link = s.link := rfl
@[simp] theorem State.flagRound_inReset (f : RoundFlags → RoundFlags) : (s.flagRound f).inReset = s.inReset := rfl
@[simp] theorem State.flagRound_pins (f : RoundFlags → RoundFlags) : (s.flagRound f).pins = s.pins := rfl
@[simp] theorem State.flagRound_draws (f : RoundFlags → RoundFlags) : (s.flagRound f).draws = s.draws := rfl
@[simp] theorem State.flagRound_pending (f : RoundFlags → RoundFlags) : (s.flagRound f).pending = s.pending := rfl

/-! ### setAssent -/

@[simp] theorem State.setAssent_plant (f : Assent → Assent) : (s.setAssent f).plant = s.plant := rfl
@[simp] theorem State.setAssent_calendar (f : Assent → Assent) : (s.setAssent f).calendar = s.calendar := rfl
@[simp] theorem State.setAssent_sweep (f : Assent → Assent) : (s.setAssent f).sweep = s.sweep := rfl
@[simp] theorem State.setAssent_assent (f : Assent → Assent) : (s.setAssent f).assent = f s.assent := rfl
@[simp] theorem State.setAssent_alerts (f : Assent → Assent) : (s.setAssent f).alerts = s.alerts := rfl
@[simp] theorem State.setAssent_link (f : Assent → Assent) : (s.setAssent f).link = s.link := rfl
@[simp] theorem State.setAssent_inReset (f : Assent → Assent) : (s.setAssent f).inReset = s.inReset := rfl
@[simp] theorem State.setAssent_pins (f : Assent → Assent) : (s.setAssent f).pins = s.pins := rfl
@[simp] theorem State.setAssent_draws (f : Assent → Assent) : (s.setAssent f).draws = s.draws := rfl
@[simp] theorem State.setAssent_pending (f : Assent → Assent) : (s.setAssent f).pending = s.pending := rfl

/-! ### setLink -/

@[simp] theorem State.setLink_plant (f : Link → Link) : (s.setLink f).plant = s.plant := rfl
@[simp] theorem State.setLink_calendar (f : Link → Link) : (s.setLink f).calendar = s.calendar := rfl
@[simp] theorem State.setLink_sweep (f : Link → Link) : (s.setLink f).sweep = s.sweep := rfl
@[simp] theorem State.setLink_assent (f : Link → Link) : (s.setLink f).assent = s.assent := rfl
@[simp] theorem State.setLink_alerts (f : Link → Link) : (s.setLink f).alerts = s.alerts := rfl
@[simp] theorem State.setLink_link (f : Link → Link) : (s.setLink f).link = f s.link := rfl
@[simp] theorem State.setLink_inReset (f : Link → Link) : (s.setLink f).inReset = s.inReset := rfl
@[simp] theorem State.setLink_pins (f : Link → Link) : (s.setLink f).pins = s.pins := rfl
@[simp] theorem State.setLink_draws (f : Link → Link) : (s.setLink f).draws = s.draws := rfl
@[simp] theorem State.setLink_pending (f : Link → Link) : (s.setLink f).pending = s.pending := rfl

/-! ### countFault -/

@[simp] theorem State.countFault_plant : (s.countFault).plant = s.plant := rfl
@[simp] theorem State.countFault_calendar : (s.countFault).calendar = s.calendar := rfl
@[simp] theorem State.countFault_sweep : (s.countFault).sweep = s.sweep := rfl
@[simp] theorem State.countFault_assent : (s.countFault).assent = s.assent := rfl
@[simp] theorem State.countFault_alerts : (s.countFault).alerts = s.alerts.countFault := rfl
@[simp] theorem State.countFault_link : (s.countFault).link = s.link := rfl
@[simp] theorem State.countFault_inReset : (s.countFault).inReset = s.inReset := rfl
@[simp] theorem State.countFault_pins : (s.countFault).pins = s.pins := rfl
@[simp] theorem State.countFault_draws : (s.countFault).draws = s.draws := rfl
@[simp] theorem State.countFault_pending : (s.countFault).pending = s.pending := rfl

/-! ### settlePins -/

@[simp] theorem State.settlePins_plant : (s.settlePins).plant = s.plant := rfl
@[simp] theorem State.settlePins_calendar : (s.settlePins).calendar = s.calendar := rfl
@[simp] theorem State.settlePins_sweep : (s.settlePins).sweep = s.sweep := rfl
@[simp] theorem State.settlePins_assent : (s.settlePins).assent = s.assent := rfl
@[simp] theorem State.settlePins_alerts : (s.settlePins).alerts = s.alerts := rfl
@[simp] theorem State.settlePins_link : (s.settlePins).link = s.link := rfl
@[simp] theorem State.settlePins_inReset : (s.settlePins).inReset = s.inReset := rfl
@[simp] theorem State.settlePins_pins : (s.settlePins).pins = s.pinLevels := rfl
@[simp] theorem State.settlePins_draws : (s.settlePins).draws = s.draws := rfl
@[simp] theorem State.settlePins_pending : (s.settlePins).pending = s.pending := rfl

/-! ### withdraw, makeDue, enterActive, wake and returnUnits act on the plant -/

@[simp] theorem State.withdraw_plant (n : Nat) : (s.withdraw n).plant = s.plant.withdraw n := rfl
@[simp] theorem State.withdraw_calendar (n : Nat) : (s.withdraw n).calendar = s.calendar := rfl
@[simp] theorem State.withdraw_sweep (n : Nat) : (s.withdraw n).sweep = s.sweep := rfl
@[simp] theorem State.withdraw_assent (n : Nat) : (s.withdraw n).assent = s.assent := rfl
@[simp] theorem State.withdraw_alerts (n : Nat) : (s.withdraw n).alerts = s.alerts := rfl
@[simp] theorem State.withdraw_link (n : Nat) : (s.withdraw n).link = s.link := rfl
@[simp] theorem State.withdraw_inReset (n : Nat) : (s.withdraw n).inReset = s.inReset := rfl
@[simp] theorem State.withdraw_pins (n : Nat) : (s.withdraw n).pins = s.pins := rfl
@[simp] theorem State.withdraw_draws (n : Nat) : (s.withdraw n).draws = s.draws := rfl
@[simp] theorem State.withdraw_pending (n : Nat) : (s.withdraw n).pending = s.pending := rfl

/-! ### makeDue -/

@[simp] theorem State.makeDue_plant (n : Nat) (k : OrderKind) : (s.makeDue n k).plant = s.plant.makeDue n k := rfl
@[simp] theorem State.makeDue_calendar (n : Nat) (k : OrderKind) : (s.makeDue n k).calendar = s.calendar := rfl
@[simp] theorem State.makeDue_sweep (n : Nat) (k : OrderKind) : (s.makeDue n k).sweep = s.sweep := rfl
@[simp] theorem State.makeDue_assent (n : Nat) (k : OrderKind) : (s.makeDue n k).assent = s.assent := rfl
@[simp] theorem State.makeDue_alerts (n : Nat) (k : OrderKind) : (s.makeDue n k).alerts = s.alerts := rfl
@[simp] theorem State.makeDue_link (n : Nat) (k : OrderKind) : (s.makeDue n k).link = s.link := rfl
@[simp] theorem State.makeDue_inReset (n : Nat) (k : OrderKind) : (s.makeDue n k).inReset = s.inReset := rfl
@[simp] theorem State.makeDue_pins (n : Nat) (k : OrderKind) : (s.makeDue n k).pins = s.pins := rfl
@[simp] theorem State.makeDue_draws (n : Nat) (k : OrderKind) : (s.makeDue n k).draws = s.draws := rfl
@[simp] theorem State.makeDue_pending (n : Nat) (k : OrderKind) : (s.makeDue n k).pending = s.pending := rfl

/-! ### enterActive -/

@[simp] theorem State.enterActive_plant (n : Nat) : (s.enterActive n).plant = s.plant.enterActive s.calendar.clock n := rfl
@[simp] theorem State.enterActive_calendar (n : Nat) : (s.enterActive n).calendar = s.calendar := rfl
@[simp] theorem State.enterActive_sweep (n : Nat) : (s.enterActive n).sweep = s.sweep := rfl
@[simp] theorem State.enterActive_assent (n : Nat) : (s.enterActive n).assent = s.assent := rfl
@[simp] theorem State.enterActive_alerts (n : Nat) : (s.enterActive n).alerts = s.alerts := rfl
@[simp] theorem State.enterActive_link (n : Nat) : (s.enterActive n).link = s.link := rfl
@[simp] theorem State.enterActive_inReset (n : Nat) : (s.enterActive n).inReset = s.inReset := rfl
@[simp] theorem State.enterActive_pins (n : Nat) : (s.enterActive n).pins = s.pins := rfl
@[simp] theorem State.enterActive_draws (n : Nat) : (s.enterActive n).draws = s.draws := rfl
@[simp] theorem State.enterActive_pending (n : Nat) : (s.enterActive n).pending = s.pending := rfl

/-! ### wake -/

@[simp] theorem State.wake_plant (n : Nat) : (s.wake n).plant = s.plant.wake s.calendar.clock n := rfl
@[simp] theorem State.wake_calendar (n : Nat) : (s.wake n).calendar = s.calendar := rfl
@[simp] theorem State.wake_sweep (n : Nat) : (s.wake n).sweep = s.sweep := rfl
@[simp] theorem State.wake_assent (n : Nat) : (s.wake n).assent = s.assent := rfl
@[simp] theorem State.wake_alerts (n : Nat) : (s.wake n).alerts = s.alerts := rfl
@[simp] theorem State.wake_link (n : Nat) : (s.wake n).link = s.link := rfl
@[simp] theorem State.wake_inReset (n : Nat) : (s.wake n).inReset = s.inReset := rfl
@[simp] theorem State.wake_pins (n : Nat) : (s.wake n).pins = s.pins := rfl
@[simp] theorem State.wake_draws (n : Nat) : (s.wake n).draws = s.draws := rfl
@[simp] theorem State.wake_pending (n : Nat) : (s.wake n).pending = s.pending := rfl

/-! ### wakeAll -/

@[simp] theorem State.wakeAll_plant (ns : List Nat) : (s.wakeAll ns).plant = s.plant.wakeAll s.calendar.clock ns := rfl
@[simp] theorem State.wakeAll_calendar (ns : List Nat) : (s.wakeAll ns).calendar = s.calendar := rfl
@[simp] theorem State.wakeAll_sweep (ns : List Nat) : (s.wakeAll ns).sweep = s.sweep := rfl
@[simp] theorem State.wakeAll_assent (ns : List Nat) : (s.wakeAll ns).assent = s.assent := rfl
@[simp] theorem State.wakeAll_alerts (ns : List Nat) : (s.wakeAll ns).alerts = s.alerts := rfl
@[simp] theorem State.wakeAll_link (ns : List Nat) : (s.wakeAll ns).link = s.link := rfl
@[simp] theorem State.wakeAll_inReset (ns : List Nat) : (s.wakeAll ns).inReset = s.inReset := rfl
@[simp] theorem State.wakeAll_pins (ns : List Nat) : (s.wakeAll ns).pins = s.pins := rfl
@[simp] theorem State.wakeAll_draws (ns : List Nat) : (s.wakeAll ns).draws = s.draws := rfl
@[simp] theorem State.wakeAll_pending (ns : List Nat) : (s.wakeAll ns).pending = s.pending := rfl

/-! ### returnUnits -/

@[simp] theorem State.returnUnits_plant (l : Load) : (s.returnUnits l).plant = s.plant.returnUnits s.calendar.clock l.cfg.feeder l.cfg.demand := rfl
@[simp] theorem State.returnUnits_calendar (l : Load) : (s.returnUnits l).calendar = s.calendar := rfl
@[simp] theorem State.returnUnits_sweep (l : Load) : (s.returnUnits l).sweep = s.sweep := rfl
@[simp] theorem State.returnUnits_assent (l : Load) : (s.returnUnits l).assent = s.assent := rfl
@[simp] theorem State.returnUnits_alerts (l : Load) : (s.returnUnits l).alerts = s.alerts := rfl
@[simp] theorem State.returnUnits_link (l : Load) : (s.returnUnits l).link = s.link := rfl
@[simp] theorem State.returnUnits_inReset (l : Load) : (s.returnUnits l).inReset = s.inReset := rfl
@[simp] theorem State.returnUnits_pins (l : Load) : (s.returnUnits l).pins = s.pins := rfl
@[simp] theorem State.returnUnits_draws (l : Load) : (s.returnUnits l).draws = s.draws := rfl
@[simp] theorem State.returnUnits_pending (l : Load) : (s.returnUnits l).pending = s.pending := rfl

/-! ### offer -/

@[simp] theorem State.offer_plant (b : Bool) (e : Notice) : (s.offer b e).plant = s.plant := by unfold State.offer; split <;> rfl
@[simp] theorem State.offer_calendar (b : Bool) (e : Notice) : (s.offer b e).calendar = s.calendar := by unfold State.offer; split <;> rfl
@[simp] theorem State.offer_sweep (b : Bool) (e : Notice) : (s.offer b e).sweep = s.sweep := by unfold State.offer; split <;> rfl
@[simp] theorem State.offer_assent (b : Bool) (e : Notice) : (s.offer b e).assent = s.assent := by unfold State.offer; split <;> rfl
@[simp] theorem State.offer_link (b : Bool) (e : Notice) : (s.offer b e).link = s.link := by unfold State.offer; split <;> rfl
@[simp] theorem State.offer_inReset (b : Bool) (e : Notice) : (s.offer b e).inReset = s.inReset := by unfold State.offer; split <;> rfl
@[simp] theorem State.offer_pins (b : Bool) (e : Notice) : (s.offer b e).pins = s.pins := by unfold State.offer; split <;> rfl
@[simp] theorem State.offer_draws (b : Bool) (e : Notice) : (s.offer b e).draws = s.draws := by unfold State.offer; split <;> rfl
@[simp] theorem State.offer_pending (b : Bool) (e : Notice) : (s.offer b e).pending = s.pending := by unfold State.offer; split <;> rfl

/-! ### raiseLoad -/

@[simp] theorem State.raiseLoad_plant (n : Nat) (e : LoadEvent) : (s.raiseLoad n e).plant = s.plant := by unfold State.raiseLoad; split <;> simp
@[simp] theorem State.raiseLoad_calendar (n : Nat) (e : LoadEvent) : (s.raiseLoad n e).calendar = s.calendar := by unfold State.raiseLoad; split <;> simp
@[simp] theorem State.raiseLoad_sweep (n : Nat) (e : LoadEvent) : (s.raiseLoad n e).sweep = s.sweep := by unfold State.raiseLoad; split <;> simp
@[simp] theorem State.raiseLoad_assent (n : Nat) (e : LoadEvent) : (s.raiseLoad n e).assent = s.assent := by unfold State.raiseLoad; split <;> simp
@[simp] theorem State.raiseLoad_link (n : Nat) (e : LoadEvent) : (s.raiseLoad n e).link = s.link := by unfold State.raiseLoad; split <;> simp
@[simp] theorem State.raiseLoad_inReset (n : Nat) (e : LoadEvent) : (s.raiseLoad n e).inReset = s.inReset := by unfold State.raiseLoad; split <;> simp
@[simp] theorem State.raiseLoad_pins (n : Nat) (e : LoadEvent) : (s.raiseLoad n e).pins = s.pins := by unfold State.raiseLoad; split <;> simp
@[simp] theorem State.raiseLoad_draws (n : Nat) (e : LoadEvent) : (s.raiseLoad n e).draws = s.draws := by unfold State.raiseLoad; split <;> simp
@[simp] theorem State.raiseLoad_pending (n : Nat) (e : LoadEvent) : (s.raiseLoad n e).pending = s.pending := by unfold State.raiseLoad; split <;> simp

/-! ### raiseStation -/

@[simp] theorem State.raiseStation_plant (i : StationId) (e : StationEvent) : (s.raiseStation i e).plant = s.plant := by simp [State.raiseStation]
@[simp] theorem State.raiseStation_calendar (i : StationId) (e : StationEvent) : (s.raiseStation i e).calendar = s.calendar := by simp [State.raiseStation]
@[simp] theorem State.raiseStation_sweep (i : StationId) (e : StationEvent) : (s.raiseStation i e).sweep = s.sweep := by simp [State.raiseStation]
@[simp] theorem State.raiseStation_assent (i : StationId) (e : StationEvent) : (s.raiseStation i e).assent = s.assent := by simp [State.raiseStation]
@[simp] theorem State.raiseStation_link (i : StationId) (e : StationEvent) : (s.raiseStation i e).link = s.link := by simp [State.raiseStation]
@[simp] theorem State.raiseStation_inReset (i : StationId) (e : StationEvent) : (s.raiseStation i e).inReset = s.inReset := by simp [State.raiseStation]
@[simp] theorem State.raiseStation_pins (i : StationId) (e : StationEvent) : (s.raiseStation i e).pins = s.pins := by simp [State.raiseStation]
@[simp] theorem State.raiseStation_draws (i : StationId) (e : StationEvent) : (s.raiseStation i e).draws = s.draws := by simp [State.raiseStation]
@[simp] theorem State.raiseStation_pending (i : StationId) (e : StationEvent) : (s.raiseStation i e).pending = s.pending := by simp [State.raiseStation]

/-! ### raiseDeviceWith -/

@[simp] theorem State.raiseDeviceWith_plant (o c : BitVec 4) (e : DeviceEvent) : (s.raiseDeviceWith o c e).plant = s.plant := by simp [State.raiseDeviceWith]
@[simp] theorem State.raiseDeviceWith_calendar (o c : BitVec 4) (e : DeviceEvent) : (s.raiseDeviceWith o c e).calendar = s.calendar := by simp [State.raiseDeviceWith]
@[simp] theorem State.raiseDeviceWith_sweep (o c : BitVec 4) (e : DeviceEvent) : (s.raiseDeviceWith o c e).sweep = s.sweep := by simp [State.raiseDeviceWith]
@[simp] theorem State.raiseDeviceWith_assent (o c : BitVec 4) (e : DeviceEvent) : (s.raiseDeviceWith o c e).assent = s.assent := by simp [State.raiseDeviceWith]
@[simp] theorem State.raiseDeviceWith_link (o c : BitVec 4) (e : DeviceEvent) : (s.raiseDeviceWith o c e).link = s.link := by simp [State.raiseDeviceWith]
@[simp] theorem State.raiseDeviceWith_inReset (o c : BitVec 4) (e : DeviceEvent) : (s.raiseDeviceWith o c e).inReset = s.inReset := by simp [State.raiseDeviceWith]
@[simp] theorem State.raiseDeviceWith_pins (o c : BitVec 4) (e : DeviceEvent) : (s.raiseDeviceWith o c e).pins = s.pins := by simp [State.raiseDeviceWith]
@[simp] theorem State.raiseDeviceWith_draws (o c : BitVec 4) (e : DeviceEvent) : (s.raiseDeviceWith o c e).draws = s.draws := by simp [State.raiseDeviceWith]
@[simp] theorem State.raiseDeviceWith_pending (o c : BitVec 4) (e : DeviceEvent) : (s.raiseDeviceWith o c e).pending = s.pending := by simp [State.raiseDeviceWith]

/-! ### raiseDevice -/

@[simp] theorem State.raiseDevice_plant (e : DeviceEvent) : (s.raiseDevice e).plant = s.plant := by simp [State.raiseDevice]
@[simp] theorem State.raiseDevice_calendar (e : DeviceEvent) : (s.raiseDevice e).calendar = s.calendar := by simp [State.raiseDevice]
@[simp] theorem State.raiseDevice_sweep (e : DeviceEvent) : (s.raiseDevice e).sweep = s.sweep := by simp [State.raiseDevice]
@[simp] theorem State.raiseDevice_assent (e : DeviceEvent) : (s.raiseDevice e).assent = s.assent := by simp [State.raiseDevice]
@[simp] theorem State.raiseDevice_link (e : DeviceEvent) : (s.raiseDevice e).link = s.link := by simp [State.raiseDevice]
@[simp] theorem State.raiseDevice_inReset (e : DeviceEvent) : (s.raiseDevice e).inReset = s.inReset := by simp [State.raiseDevice]
@[simp] theorem State.raiseDevice_pins (e : DeviceEvent) : (s.raiseDevice e).pins = s.pins := by simp [State.raiseDevice]
@[simp] theorem State.raiseDevice_draws (e : DeviceEvent) : (s.raiseDevice e).draws = s.draws := by simp [State.raiseDevice]
@[simp] theorem State.raiseDevice_pending (e : DeviceEvent) : (s.raiseDevice e).pending = s.pending := by simp [State.raiseDevice]

/-! ### evaluateBeacon -/

@[simp] theorem State.evaluateBeacon_plant : (s.evaluateBeacon).plant = s.plant := by unfold State.evaluateBeacon; split <;> rfl
@[simp] theorem State.evaluateBeacon_calendar : (s.evaluateBeacon).calendar = s.calendar := by unfold State.evaluateBeacon; split <;> rfl
@[simp] theorem State.evaluateBeacon_sweep : (s.evaluateBeacon).sweep = s.sweep := by unfold State.evaluateBeacon; split <;> rfl
@[simp] theorem State.evaluateBeacon_assent : (s.evaluateBeacon).assent = s.assent := by unfold State.evaluateBeacon; split <;> rfl
@[simp] theorem State.evaluateBeacon_link : (s.evaluateBeacon).link = s.link := by unfold State.evaluateBeacon; split <;> rfl
@[simp] theorem State.evaluateBeacon_inReset : (s.evaluateBeacon).inReset = s.inReset := by unfold State.evaluateBeacon; split <;> rfl
@[simp] theorem State.evaluateBeacon_pins : (s.evaluateBeacon).pins = s.pins := by unfold State.evaluateBeacon; split <;> rfl
@[simp] theorem State.evaluateBeacon_draws : (s.evaluateBeacon).draws = s.draws := by unfold State.evaluateBeacon; split <;> rfl
@[simp] theorem State.evaluateBeacon_pending : (s.evaluateBeacon).pending = s.pending := by unfold State.evaluateBeacon; split <;> rfl

/-! ## The plant's records -/

variable (p : Plant)

@[simp] theorem Plant.setLoad_stations (n : Nat) (f : Load → Load) : (p.setLoad n f).stations = p.stations := rfl
@[simp] theorem Plant.setLoad_feeders (n : Nat) (f : Load → Load) : (p.setLoad n f).feeders = p.feeders := rfl
@[simp] theorem Plant.setLoad_groups (n : Nat) (f : Load → Load) : (p.setLoad n f).groups = p.groups := rfl
@[simp] theorem Plant.setLoad_curves (n : Nat) (f : Load → Load) : (p.setLoad n f).curves = p.curves := rfl

@[simp] theorem Plant.setStation_loads (i : StationId) (f : Station → Station) : (p.setStation i f).loads = p.loads := rfl
@[simp] theorem Plant.setStation_feeders (i : StationId) (f : Station → Station) : (p.setStation i f).feeders = p.feeders := rfl
@[simp] theorem Plant.setStation_groups (i : StationId) (f : Station → Station) : (p.setStation i f).groups = p.groups := rfl
@[simp] theorem Plant.setStation_curves (i : StationId) (f : Station → Station) : (p.setStation i f).curves = p.curves := rfl

@[simp] theorem Plant.setFeeder_loads (i : FeederId) (f : Feeder → Feeder) : (p.setFeeder i f).loads = p.loads := rfl
@[simp] theorem Plant.setFeeder_stations (i : FeederId) (f : Feeder → Feeder) : (p.setFeeder i f).stations = p.stations := rfl
@[simp] theorem Plant.setFeeder_groups (i : FeederId) (f : Feeder → Feeder) : (p.setFeeder i f).groups = p.groups := rfl
@[simp] theorem Plant.setFeeder_curves (i : FeederId) (f : Feeder → Feeder) : (p.setFeeder i f).curves = p.curves := rfl

@[simp] theorem Plant.bind_stations (l : Load) : (p.bind l).stations = p.stations := rfl
@[simp] theorem Plant.bind_feeders (l : Load) : (p.bind l).feeders = p.feeders := rfl
@[simp] theorem Plant.bind_groups (l : Load) : (p.bind l).groups = p.groups := rfl
@[simp] theorem Plant.bind_curves (l : Load) : (p.bind l).curves = p.curves := rfl

@[simp] theorem Plant.unbind_stations (n : Nat) : (p.unbind n).stations = p.stations := rfl
@[simp] theorem Plant.unbind_feeders (n : Nat) : (p.unbind n).feeders = p.feeders := rfl
@[simp] theorem Plant.unbind_groups (n : Nat) : (p.unbind n).groups = p.groups := rfl
@[simp] theorem Plant.unbind_curves (n : Nat) : (p.unbind n).curves = p.curves := rfl

@[simp] theorem Plant.clearAwaiting_stations (z : Nat) : (p.clearAwaiting z).stations = p.stations := rfl
@[simp] theorem Plant.clearAwaiting_feeders (z : Nat) : (p.clearAwaiting z).feeders = p.feeders := rfl
@[simp] theorem Plant.clearAwaiting_groups (z : Nat) : (p.clearAwaiting z).groups = p.groups := rfl
@[simp] theorem Plant.clearAwaiting_curves (z : Nat) : (p.clearAwaiting z).curves = p.curves := rfl

@[simp] theorem Plant.markLoads_stations (i : StationId) : (p.markLoads i).stations = p.stations := rfl
@[simp] theorem Plant.markLoads_feeders (i : StationId) : (p.markLoads i).feeders = p.feeders := rfl
@[simp] theorem Plant.markLoads_groups (i : StationId) : (p.markLoads i).groups = p.groups := rfl
@[simp] theorem Plant.markLoads_curves (i : StationId) : (p.markLoads i).curves = p.curves := rfl

/-! ### Reading after writing -/

theorem Plant.load?_num {p : Plant} {n : Nat} {l : Load} (h : p.load? n = some l) : l.num = n := by
  have := List.find?_some h
  simpa using this

/-- Finding a load after a change of one load that keeps its number. -/
theorem Plant.load?_setLoad (n m : Nat) (f : Load → Load) (hf : ∀ l : Load, l.num = n → (f l).num = n) :
    (p.setLoad n f).load? m = (p.load? m).map (fun l => if l.num == n then f l else l) := by
  have same : ((fun l : Load => l.num == m) ∘ fun l => if l.num == n then f l else l) = fun l => l.num == m := by
    funext l
    by_cases hl : l.num = n
    · simp [hl, hf l hl]
    · simp [hl]
  simp only [Plant.load?, Plant.setLoad, List.find?_map, same]

/-- A change of one load that keeps its number is read back. -/
theorem Plant.load?_setLoad_self (n : Nat) (f : Load → Load) (hf : ∀ l : Load, l.num = n → (f l).num = n) :
    (p.setLoad n f).load? n = (p.load? n).map f := by
  rw [Plant.load?_setLoad p n n f hf]
  cases h : p.load? n with
  | none => rfl
  | some l => simp [Plant.load?_num h]

/-- A change of one load that keeps its number leaves every other load. -/
theorem Plant.load?_setLoad_other {n m : Nat} (hm : m ≠ n) (f : Load → Load)
    (hf : ∀ l : Load, l.num = n → (f l).num = n) : (p.setLoad n f).load? m = p.load? m := by
  rw [Plant.load?_setLoad p n m f hf]
  cases h : p.load? m with
  | none => rfl
  | some l => simp [Plant.load?_num h, hm]

@[simp] theorem Plant.load?_setStation (i : StationId) (f : Station → Station) (n : Nat) :
    (p.setStation i f).load? n = p.load? n := rfl

@[simp] theorem Plant.load?_setFeeder (i : FeederId) (f : Feeder → Feeder) (n : Nat) :
    (p.setFeeder i f).load? n = p.load? n := rfl

@[simp] theorem Plant.station_setStation_self (i : StationId) (f : Station → Station) :
    (p.setStation i f).station i = f (p.station i) := by
  simp [Plant.setStation, Plant.station]

theorem Plant.station_setStation_other {i j : StationId} (h : j ≠ i) (f : Station → Station) :
    (p.setStation i f).station j = p.station j := by
  have : ¬(i.val = j.val) := fun e => h (Fin.ext e.symm)
  simp [Plant.setStation, Plant.station, this]

@[simp] theorem Plant.station_setLoad (n : Nat) (f : Load → Load) (i : StationId) :
    (p.setLoad n f).station i = p.station i := rfl

@[simp] theorem Plant.station_setFeeder (j : FeederId) (f : Feeder → Feeder) (i : StationId) :
    (p.setFeeder j f).station i = p.station i := rfl

@[simp] theorem Plant.feeder_setFeeder_self (i : FeederId) (f : Feeder → Feeder) :
    (p.setFeeder i f).feeder i = f (p.feeder i) := by
  simp [Plant.setFeeder, Plant.feeder]

theorem Plant.feeder_setFeeder_other {i j : FeederId} (h : j ≠ i) (f : Feeder → Feeder) :
    (p.setFeeder i f).feeder j = p.feeder j := by
  have : ¬(i.val = j.val) := fun e => h (Fin.ext e.symm)
  simp [Plant.setFeeder, Plant.feeder, this]

@[simp] theorem Plant.feeder_setLoad (n : Nat) (f : Load → Load) (i : FeederId) :
    (p.setLoad n f).feeder i = p.feeder i := rfl

@[simp] theorem Plant.feeder_setStation (j : StationId) (f : Station → Station) (i : FeederId) :
    (p.setStation j f).feeder i = p.feeder i := rfl

/-! ## The frame of a command -/

/-- What `perform` answers, once and for all. -/
theorem State.perform_eq (f : State → State) :
    s.perform f = .next (if s.inReset then s else f s).settlePins := rfl

end Sys2Proof.Machine
end

