-- ==== Sys2Proof/Laws/Plant.lean ====
section
/-!
SUPPORT. What the shared operations over the plant can change, one lemma for each: orders and their slots, grants, start
queues, wake requests and the return of units touch only a few fields of a load, the slot and the turn of a station, and
the free units, queue and spacing timer of a feeder. Beside them, what raising an event and counting a fault do.
-/

namespace Sys2Proof.Machine

/-! ## The frame of grants and orders -/

/-- What orders, grants and wake requests leave of a load: all but state, due order, timer, wake-due and awaiting-fan. -/
def Load.core (l : Load) : Load :=
  { l with state := .offline, due := none, timer := none, wakeDue := false, awaitingFan := false }

/-- What they leave of a station: all but the order slot and the last-served channel. -/
def Station.core (st : Station) : Station := { st with slot := none, lastServed := 0 }

/-- What they leave of a feeder: capacity and spacing. -/
def Feeder.core (f : Feeder) : Feeder := { f with free := 0, spacingTimer := none, queue := [] }

/-- The two plants differ only in what orders, grants and wake requests change. -/
structure Plant.SameFrame (p q : Plant) : Prop where
  loads : q.loads.map Load.core = p.loads.map Load.core
  stations : ∀ i, (q.station i).core = (p.station i).core
  feeders : ∀ i, (q.feeder i).core = (p.feeder i).core
  groups : q.groups = p.groups
  curves : q.curves = p.curves

theorem Plant.SameFrame.rfl {p : Plant} : p.SameFrame p := ⟨Eq.refl _, fun _ => Eq.refl _, fun _ => Eq.refl _, Eq.refl _, Eq.refl _⟩

theorem Plant.SameFrame.trans {p q r : Plant} (h : p.SameFrame q) (k : q.SameFrame r) : p.SameFrame r :=
  ⟨k.loads.trans h.loads, fun i => (k.stations i).trans (h.stations i), fun i => (k.feeders i).trans (h.feeders i),
   k.groups.trans h.groups, k.curves.trans h.curves⟩

/-- A fold of operations that each keep the frame keeps it. -/
theorem Plant.SameFrame.foldl {α : Type} {f : Plant → α → Plant} (h : ∀ p a, Plant.SameFrame p (f p a)) (as : List α)
    (p : Plant) : p.SameFrame (as.foldl f p) := by
  induction as generalizing p with
  | nil => exact .rfl
  | cons a as ih => exact (h p a).trans (ih _)

theorem Plant.sameFrame_loads {p : Plant} (f : Load → Load) (hf : ∀ l, (f l).core = l.core) :
    p.SameFrame { p with loads := p.loads.map f } :=
  ⟨by simp [Function.comp_def, hf], fun _ => rfl, fun _ => rfl, rfl, rfl⟩

theorem Plant.sameFrame_setLoad {p : Plant} (n : Nat) (f : Load → Load) (hf : ∀ l, (f l).core = l.core) :
    p.SameFrame (p.setLoad n f) :=
  Plant.sameFrame_loads _ (fun l => by split <;> simp [hf])

theorem Plant.sameFrame_setStation {p : Plant} (i : StationId) (f : Station → Station)
    (hf : ∀ st, (f st).core = st.core) : p.SameFrame (p.setStation i f) := by
  refine ⟨rfl, fun j => ?_, fun _ => rfl, rfl, rfl⟩
  by_cases h : j = i
  · subst h; rw [Plant.station_setStation_self, hf]
  · rw [Plant.station_setStation_other p h]

theorem Plant.sameFrame_setFeeder {p : Plant} (i : FeederId) (f : Feeder → Feeder) (hf : ∀ x, (f x).core = x.core) :
    p.SameFrame (p.setFeeder i f) := by
  refine ⟨rfl, fun _ => rfl, fun j => ?_, rfl, rfl⟩
  by_cases h : j = i
  · subst h; rw [Plant.feeder_setFeeder_self, hf]
  · rw [Plant.feeder_setFeeder_other p h]

/-! ## Orders (R6, R112) -/

theorem Plant.sameFrame_refillSlot (i : StationId) (p : Plant) : p.SameFrame (p.refillSlot i) := by
  unfold Plant.refillSlot
  split
  · exact .rfl
  · split
    · exact .rfl
    · exact sameFrame_setStation _ _ (by intro _; rfl)

/-- With a waiting order next in turn, an empty slot takes it and its channel becomes the last-served one (R112). -/
theorem Plant.refillSlot_of_waiting {i : StationId} {o : Order} {p : Plant} (h : (p.station i).slot = none)
    (ho : (turns (p.station i).lastServed).findSome? (p.waitingOrder i) = some o) :
    p.refillSlot i = p.setStation i (fun st => { st with slot := some o, lastServed := o.channel }) := by
  simp only [Plant.refillSlot, h, ho]

/-- With no waiting order the slot and the last-served channel are kept (R112). -/
theorem Plant.refillSlot_of_none {i : StationId} {p : Plant} (h : ∀ c : Channel, p.waitingOrder i c = none) :
    p.refillSlot i = p := by
  have hn : (turns (p.station i).lastServed).findSome? (p.waitingOrder i) = none :=
    List.findSome?_eq_none_iff.mpr (fun c _ => h c)
  unfold Plant.refillSlot
  split
  · rfl
  · simp only [hn]

theorem Plant.sameFrame_makeDue (n : Nat) (k : OrderKind) (p : Plant) : p.SameFrame (p.makeDue n k) := by
  unfold Plant.makeDue
  split
  · exact .rfl
  · split
    · exact .rfl
    · split
      · exact (sameFrame_setLoad _ _ (by intro _; rfl)).trans (sameFrame_setStation _ _ (by intro _; rfl))
      · exact sameFrame_setLoad _ _ (by intro _; rfl)

theorem Plant.sameFrame_withdraw (n : Nat) (p : Plant) : p.SameFrame (p.withdraw n) := by
  unfold Plant.withdraw
  split
  · exact .rfl
  · split
    · exact .rfl
    · have hq := sameFrame_setLoad (p := p) n (fun l => { l with due := none }) (by intro _; rfl)
      split
      · exact hq
      · split
        · exact (hq.trans (sameFrame_setStation _ _ (by intro _; rfl))).trans (sameFrame_refillSlot _ _)
        · exact hq

theorem Plant.sameFrame_dropOrders (i : StationId) (p : Plant) : p.SameFrame (p.dropOrders i) := by
  unfold Plant.dropOrders
  refine .trans ?_ (sameFrame_setStation _ _ (by intro _; rfl))
  exact sameFrame_loads _ (by intro l; split <;> rfl)

/-- Making an order due changes no other load. -/
theorem Plant.load?_makeDue_other {n m : Nat} (hm : m ≠ n) (k : OrderKind) (p : Plant) :
    (p.makeDue n k).load? m = p.load? m := by
  have hf : ∀ l : Load, l.num = n → ({ l with due := some k } : Load).num = n := fun _ h => h
  unfold Plant.makeDue
  split
  · rfl
  · split
    · rfl
    · split <;> simp [Plant.load?_setLoad_other p hm _ hf]

/-- Making an order due gives it to the load, unless it is locked out (R6). -/
theorem Plant.load?_makeDue_self {n : Nat} {l : Load} (k : OrderKind) (p : Plant) (h : p.load? n = some l) :
    (p.makeDue n k).load? n = some (if l.hold.byLockout then l else { l with due := some k }) := by
  have hf : ∀ l : Load, l.num = n → ({ l with due := some k } : Load).num = n := fun _ h => h
  unfold Plant.makeDue
  rw [h]
  dsimp only
  split
  · exact h
  · split <;> simp [Plant.load?_setLoad_self p n _ hf, h]

/-! ## Grants (R81, R82, R88) -/

theorem Plant.sameFrame_grantTo (i : FeederId) (n : Nat) (rest : List QueueEntry) (p : Plant) :
    p.SameFrame (p.grantTo i n rest) := by
  unfold Plant.grantTo
  split
  · exact .rfl
  · refine .trans ?_ (sameFrame_setFeeder _ _ (by intro x; split <;> rfl))
    refine .trans ?_ (sameFrame_setLoad _ _ (by intro _; rfl))
    refine .trans ?_ (sameFrame_makeDue _ _ _)
    refine .trans ?_ (sameFrame_withdraw _ _)
    exact (sameFrame_setFeeder _ _ (by intro _; rfl)).trans (sameFrame_setLoad _ _ (by intro _; rfl))

theorem Plant.sameFrame_grantLoop (clock : Option Clock) (i : FeederId) (fuel : Nat) (p : Plant) :
    p.SameFrame (p.grantLoop clock i fuel) := by
  induction fuel generalizing p with
  | zero => exact .rfl
  | succ fuel ih =>
    rw [Plant.grantLoop]
    split
    · exact .rfl
    · split
      · exact .rfl
      · split
        · exact (sameFrame_grantTo _ _ _ _).trans (ih _)
        · exact sameFrame_grantTo _ _ _ _

theorem Plant.sameFrame_grantAttempt (clock : Option Clock) (i : FeederId) (p : Plant) :
    p.SameFrame (p.grantAttempt clock i) := sameFrame_grantLoop _ _ _ _

theorem Plant.sameFrame_grantAll (clock : Option Clock) (p : Plant) : p.SameFrame (p.grantAll clock) :=
  .foldl (fun p i => sameFrame_grantAttempt clock i p) _ _

theorem Plant.sameFrame_returnUnits (clock : Option Clock) (i : FeederId) (units : Nat) (p : Plant) :
    p.SameFrame (p.returnUnits clock i units) :=
  (sameFrame_setFeeder _ _ (by intro _; rfl)).trans (sameFrame_grantAttempt _ _ _)

theorem Plant.sameFrame_leaveQueue (n : Nat) (p : Plant) : p.SameFrame (p.leaveQueue n) := by
  unfold Plant.leaveQueue
  split
  · exact .rfl
  · exact (sameFrame_setFeeder _ _ (by intro _; rfl)).trans (sameFrame_setLoad _ _ (by intro _; rfl))

theorem Plant.sameFrame_clearAwaiting (z : Nat) (p : Plant) : p.SameFrame (p.clearAwaiting z) :=
  Plant.sameFrame_loads _ (by intro l; split <;> rfl)

/-- While the spacing timer runs no grant is made (R81). -/
theorem Plant.grantAttempt_spaced (clock : Option Clock) (i : FeederId) (p : Plant)
    (h : (p.feeder i).spacingTimer.isSome = true) : p.grantAttempt clock i = p := by
  unfold Plant.grantAttempt
  cases (p.feeder i).queue.length with
  | zero => rfl
  | succ k => rw [Plant.grantLoop, if_pos h]

/-- A feeder with an empty start queue makes no grant (R81). -/
theorem Plant.grantAttempt_empty (clock : Option Clock) (i : FeederId) (p : Plant) (h : (p.feeder i).queue = []) :
    p.grantAttempt clock i = p := by
  unfold Plant.grantAttempt
  rw [h]
  rfl

/-! ## Wake requests (R69, R70, R73) -/

theorem Plant.sameFrame_wakeBy {join : Load → Plant → Plant} (h : ∀ l p, Plant.SameFrame p (join l p)) (n : Nat)
    (p : Plant) : p.SameFrame (p.wakeBy join n) := by
  unfold Plant.wakeBy
  split
  · exact .rfl
  · split
    · exact h _ _
    · exact sameFrame_setLoad _ _ (by intro _; rfl)
    · split
      · exact sameFrame_setLoad _ _ (by intro _; rfl)
      · exact .rfl
    · exact .rfl

theorem Plant.sameFrame_joinPlain (clock : Option Clock) (l : Load) (p : Plant) :
    p.SameFrame (p.joinPlain clock l) :=
  ((sameFrame_setFeeder _ _ (by intro _; rfl)).trans (sameFrame_setLoad _ _ (by intro _; rfl))).trans
    (sameFrame_grantAttempt _ _ _)

theorem Plant.sameFrame_wakePlain (clock : Option Clock) (n : Nat) (p : Plant) : p.SameFrame (p.wakePlain clock n) :=
  sameFrame_wakeBy (sameFrame_joinPlain clock) n p

theorem Plant.sameFrame_joinJudged (clock : Option Clock) (l : Load) (p : Plant) :
    p.SameFrame (p.joinJudged clock l) := by
  unfold Plant.joinJudged
  refine .trans ?_ (sameFrame_grantAttempt _ _ _)
  have hq := (sameFrame_setFeeder (p := p) l.cfg.feeder
    (fun f => { f with queue := f.queue ++ [{ load := l.num, passed := 0 }] }) (by intro _; rfl)).trans
    (sameFrame_setLoad l.num (fun l => { l with state := .wakeQueued, wakeDue := false }) (by intro _; rfl))
  split
  · exact hq.trans ((sameFrame_setLoad _ _ (by intro _; rfl)).trans
      (.foldl (fun p (fan : Load) => sameFrame_wakePlain clock fan.num p) _ _))
  · exact hq

theorem Plant.sameFrame_wake (clock : Option Clock) (n : Nat) (p : Plant) : p.SameFrame (p.wake clock n) :=
  sameFrame_wakeBy (sameFrame_joinJudged clock) n p

theorem Plant.sameFrame_wakeAll (clock : Option Clock) (ns : List Nat) (p : Plant) : p.SameFrame (p.wakeAll clock ns) :=
  .foldl (fun p n => sameFrame_wake clock n p) _ _

/-- What the frame says of one load. -/
theorem Plant.SameFrame.load? {p q : Plant} (h : p.SameFrame q) (n : Nat) :
    (q.load? n).map Load.core = (p.load? n).map Load.core := by
  have key : ∀ ls : List Load, (ls.find? (fun l => l.num == n)).map Load.core
      = (ls.map Load.core).find? (fun l => l.num == n) := by
    intro ls
    rw [List.find?_map]
    rfl
  rw [Plant.load?, Plant.load?, key, key, h.loads]

/-! ## Events and faults (R156, R160) -/

/-- Offering an event changes nothing but the queue. -/
theorem State.offer_alerts (s : State) (enabled : Bool) (e : Notice) :
    s.alerts.sameButQueue (s.offer enabled e).alerts := by
  unfold State.offer
  split <;> rfl

theorem State.raiseLoad_alerts (s : State) (n : Nat) (e : LoadEvent) :
    s.alerts.sameButQueue (s.raiseLoad n e).alerts := by
  unfold State.raiseLoad
  split
  · rfl
  · exact s.offer_alerts _ _

theorem State.raiseStation_alerts (s : State) (i : StationId) (e : StationEvent) :
    s.alerts.sameButQueue (s.raiseStation i e).alerts := s.offer_alerts _ _

theorem State.raiseDeviceWith_alerts (s : State) (opened closed : BitVec 4) (e : DeviceEvent) :
    s.alerts.sameButQueue (s.raiseDeviceWith opened closed e).alerts := s.offer_alerts _ _

/-- Counting a fault is what R160 says of a fault event. -/
theorem Alerts.faultCounted_countFault (a : Alerts) : a.faultCounted a.countFault :=
  ⟨rfl, rfl, rfl, rfl, rfl, rfl, rfl, rfl⟩

/-- A merged event leaves the sources of the queue as they are, or adds its own at the tail (R156). -/
theorem mergeNotice_sources (e : Notice) (q : List Notice) :
    (mergeNotice e q).map Notice.source =
      if e.source ∈ q.map Notice.source then q.map Notice.source else q.map Notice.source ++ [e.source] := by
  induction q with
  | nil => rfl
  | cons x rest ih =>
    unfold mergeNotice
    by_cases h : x.source = e.source
    · simp [h]
    · have h' : e.source ≠ x.source := fun hh => h hh.symm
      simp only [h, if_false, List.map_cons, ih, List.mem_cons, h', false_or]
      split <;> rfl

/-- Where its source has no notice, an event starts one at the tail (R156). -/
theorem mergeNotice_new (e : Notice) (q : List Notice) (h : ∀ x ∈ q, x.source ≠ e.source) : mergeNotice e q = q ++ [e] := by
  induction q with
  | nil => rfl
  | cons x rest ih =>
    rw [mergeNotice, if_neg (h x List.mem_cons_self), ih (fun y hy => h y (List.mem_cons_of_mem _ hy))]
    rfl

/-- Where its source has a notice, an event merges into it, in its place and with its time (R156). -/
theorem mergeNotice_old (e x : Notice) (earlier later : List Notice) (hx : x.source = e.source)
    (h : ∀ y ∈ earlier, y.source ≠ e.source) :
    mergeNotice e (earlier ++ x :: later) =
      earlier ++ { x with kinds := x.kinds ||| e.kinds, opened := x.opened ||| e.opened,
                          closed := x.closed ||| e.closed } :: later := by
  induction earlier with
  | nil => simp [mergeNotice, hx]
  | cons y rest ih =>
    rw [List.cons_append, mergeNotice, if_neg (h y List.mem_cons_self),
      ih (fun z hz => h z (List.mem_cons_of_mem _ hz))]
    rfl

/-! ## The minimum off (R79) -/

/-- When the minimum off of a load elapses at the clock reading. -/
theorem minimumOffElapses_iff (clock : Option Clock) (l : Load) :
    minimumOffElapses clock l = true ↔
      ∃ stop k, l.stopTime = some stop ∧ clock = some k ∧ 0 < l.cfg.minimumOff ∧
        stop.absolute + l.cfg.minimumOff = k.stamp.absolute := by
  unfold minimumOffElapses
  cases l.stopTime <;> cases clock <;> simp

/-- A minimum off that elapses at the reading has elapsed at it. -/
theorem minimumOffElapsed_of_elapses {clock : Option Clock} {l : Load} (h : minimumOffElapses clock l = true) :
    minimumOffElapsed clock l = true := by
  obtain ⟨stop, k, hs, rfl, -, he⟩ := (minimumOffElapses_iff clock l).mp h
  simp [minimumOffElapsed, hs, he]

/-- Where no load's minimum off elapses, no attempt is made. -/
theorem Plant.attemptFor_nil (clock : Option Clock) (p : Plant) : p.attemptFor clock [] = p := by
  simp [Plant.attemptFor]

/-! ## What a report makes of a load -/

@[simp] theorem Load.underReport_num (curves : Vector Knots 8) (now : Option Stamp) (r : Report) (l : Load) :
    (l.underReport curves now r).num = l.num := by
  unfold Load.underReport Load.keepFlags
  cases r.sample <;> simp only <;> split <;> rfl

@[simp] theorem Load.underReport_cfg (curves : Vector Knots 8) (now : Option Stamp) (r : Report) (l : Load) :
    (l.underReport curves now r).cfg = l.cfg := by
  unfold Load.underReport Load.keepFlags
  cases r.sample <;> simp only <;> split <;> rfl

@[simp] theorem Load.underReport_state (curves : Vector Knots 8) (now : Option Stamp) (r : Report) (l : Load) :
    (l.underReport curves now r).state = l.state := by
  unfold Load.underReport Load.keepFlags
  cases r.sample <;> simp only <;> split <;> rfl

end Sys2Proof.Machine
end

