-- ==== Sys2Proof/Laws/Requests.lean ====
section
/-!
SUPPORT. What taking a request comes to, said once: on a part that is ready the row of a request answers the next state
whose blocks are those its effect leaves, and whose reply in progress is the answer of the effect.
-/

namespace Sys2Proof.Machine

variable (s : State)

@[simp] theorem State.blocks_plant : s.blocks.plant = s.plant := rfl
@[simp] theorem State.blocks_calendar : s.blocks.calendar = s.calendar := rfl
@[simp] theorem State.blocks_sweep : s.blocks.sweep = s.sweep := rfl
@[simp] theorem State.blocks_assent : s.blocks.assent = s.assent := rfl
@[simp] theorem State.blocks_alerts : s.blocks.alerts = s.alerts := rfl
@[simp] theorem State.blocks_settlePins : s.settlePins.blocks = s.blocks := rfl
@[simp] theorem State.link_settlePins : s.settlePins.link = s.link := rfl

/-- The state in which the effect of a request on a ready part is made: its frame alone is in the buffer (R168). -/
def State.holding (f : Frame) (s : State) : State := s.setLink (fun k => { k with buffer := [f] })

@[simp] theorem State.holding_plant (f : Frame) : (s.holding f).plant = s.plant := rfl
@[simp] theorem State.holding_calendar (f : Frame) : (s.holding f).calendar = s.calendar := rfl
@[simp] theorem State.holding_sweep (f : Frame) : (s.holding f).sweep = s.sweep := rfl
@[simp] theorem State.holding_assent (f : Frame) : (s.holding f).assent = s.assent := rfl
@[simp] theorem State.holding_alerts (f : Frame) : (s.holding f).alerts = s.alerts := rfl
@[simp] theorem State.holding_inReset (f : Frame) : (s.holding f).inReset = s.inReset := rfl
@[simp] theorem State.holding_pending (f : Frame) : (s.holding f).pending = s.pending := rfl
@[simp] theorem State.holding_draws (f : Frame) : (s.holding f).draws = s.draws := rfl
@[simp] theorem State.holding_deframer (f : Frame) : (s.holding f).link.deframer = s.link.deframer := rfl
@[simp] theorem State.holding_errors (f : Frame) : (s.holding f).link.errors = s.link.errors := rfl
@[simp] theorem State.holding_blocks (f : Frame) : (s.holding f).blocks = s.blocks := rfl
@[simp] theorem State.holding_load? (f : Frame) (n : Nat) : (s.holding f).load? n = s.load? n := rfl
@[simp] theorem State.holding_station (f : Frame) (i : StationId) : (s.holding f).station i = s.station i := rfl

/-- The end of a reply, where none is in progress, changes nothing. -/
theorem State.endReply_idle (h : s.link.reply = none) : s.endReply = s := by simp [State.endReply, h]

/-- So do any number of them. -/
theorem State.endReplies_idle (h : s.link.reply = none) (fuel : Nat) : s.endReplies fuel = s := by
  induction fuel with
  | zero => rfl
  | succ k ih => rw [State.endReplies, s.endReply_idle h, ih]

/-- A part without a reply in progress has nothing to drain. -/
theorem State.drain_idle (h : s.link.reply = none) : s.drain = s := s.endReplies_idle h _

/-- Taking a request leaves the blocks as its effect leaves them. -/
@[simp] theorem State.takeWith_blocks (f : Frame) (effect : State → State × Answer) :
    (s.takeWith f effect).blocks = (effect s).1.blocks := rfl

/-- Taking a request forms the reply of its effect's answer. -/
theorem State.takeWith_answers (f : Frame) (effect : State → State × Answer) :
    (s.takeWith f effect).answers f.kind f.tag (effect s).2.code (effect s).2.data := rfl

/-- What the row of a request does on a ready part. -/
theorem State.perform_request (h : s.ready) (f : Frame) (effect : State → State × Answer) :
    ∃ t, s.perform (State.request f effect) = .next t ∧ t.blocks = (effect (s.holding f)).1.blocks ∧
      t.answers f.kind f.tag (effect (s.holding f)).2.code (effect (s.holding f)).2.data ∧ t.pins = t.pinLevels := by
  refine ⟨_, by rw [State.perform_eq, h.1], ?_, ?_, rfl⟩
  · simp only [State.request, s.drain_idle h.2]; rfl
  · simp only [State.request, s.drain_idle h.2]; rfl

/-- A request that only answers leaves every block (R169). -/
theorem State.perform_refused (h : s.ready) (f : Frame) (effect : State → State × Answer) (code : ReplyCode)
    (he : effect (s.holding f) = (s.holding f).refuse code) :
    ∃ t, s.perform (State.request f effect) = .next t ∧ s.onlyAnswers t f.kind f.tag code := by
  obtain ⟨t, ht, hb, ha, -⟩ := s.perform_request h f effect
  rw [he] at hb ha
  exact ⟨t, ht, hb, ha⟩

end Sys2Proof.Machine
end

