-- ==== Sys2Proof/Tests/Slice0.lean ====
section
/-!
SUPPORT. Tests. First the ill-formed terms that the checks of WellFormed refuse; then one or two single steps for each
command, with results taken from the manual's worked cases where it has them and otherwise worked from its rules by
hand; last a witness for each statement with hypotheses, a state and operands that meet them together.
-/

namespace Sys2Proof.Tests

open Sys2Proof Sys2Proof.Machine

-- The many small evaluations below are checked one after another.
set_option Elab.async false

/-! ## WellFormed refuses -/

theorem test_illFormed_loads : (Instr.dwellComplete 0).wellFormed = false ∧ (Instr.stepTimerExpiry 97).wellFormed = false ∧
    (Instr.coastLimitExpiry 0).wellFormed = false ∧ (Instr.unloadDwellExpiry 97).wellFormed = false ∧
    (Instr.settleTimerExpiry 97).wellFormed = false := by decide

theorem test_illFormed_feeders : (Instr.spacingTimerExpiry 0).wellFormed = false ∧
    (Instr.spacingTimerExpiry 5).wellFormed = false := by decide

theorem test_illFormed_reply : (Instr.fieldReplyReceived [0x5A, 3, 1]).wellFormed = false := by decide

theorem test_illFormed_characters : (Instr.lengthOutOfRange 2).wellFormed = false ∧
    (Instr.lengthOutOfRange 124).wellFormed = false ∧ (Instr.unknownRequest 34 0 []).wellFormed = false ∧
    (Instr.unknownRequest 1 0 []).wellFormed = false := by decide

theorem test_illFormed_unknownLength :
    (Instr.unknownRequest 99 0 (List.replicate 123 0)).wellFormed = false := by decide +kernel

theorem test_illFormed_bytes : (Instr.setFeeder 0 256 1 1).wellFormed = false ∧ (Instr.setGroup 0 1 256).wellFormed = false ∧
    (Instr.setStation 0 1 256 1).wellFormed = false ∧ (Instr.unbindLoad 0 256).wellFormed = false ∧
    (Instr.setProfileDay 0 1 256 0).wellFormed = false ∧ (Instr.setAlert 0 0 1 0 256 0).wellFormed = false ∧
    (Instr.setSweep 0 0 256).wellFormed = false ∧ (Instr.startSweep 0 1 256).wellFormed = false ∧
    (Instr.wakeNow 0 1 256).wellFormed = false ∧ (Instr.setInquiry 0 1 1 256).wellFormed = false ∧
    (Instr.readFeeder 0 1 256).wellFormed = false := by decide

theorem test_illFormed_words : (Instr.setHoliday 0 ⟨65536, 1, 1⟩ 0).wellFormed = false ∧
    (Instr.dropHoliday 0 ⟨2024, 256, 1⟩).wellFormed = false ∧
    (Instr.setClock 0 ⟨2024, 1, 1⟩ 1 16777216).wellFormed = false ∧ (Instr.answer 0 65536 0).wellFormed = false ∧
    (Instr.setCurve 0 1 ⟨0, 0, 0, 65536, 0, 0, 0⟩).wellFormed = false := by decide

/-! ## A small plant -/

/-- The configuration of a load on S1 and F1 with a start demand of 6. -/
def config (kind : LoadKind) (channel : Channel) : LoadConfig :=
  { station := 0, channel, kind, feeder := 0, demand := 6, zone := 0, airGroup := none, curve := 2, restFloor := 150,
    noiseBand := 20, weight := 4, idleThreshold := 130, busyThreshold := 180, idleDwell := 600, profile := some 0,
    wakeAtClose := true, wakeRank := 10, fallbackWake := true, stepLimit := 30,
    coastLimit := if kind = .press then 120 else 0, unloadDwell := if kind = .compressor then 120 else 0,
    minimumOff := if kind = .compressor then 600 else 0, settleLimit := 60, adoptParked := false, events := 0 }

/-- The same configuration as a BIND LOAD carries it. -/
def fields (kind channel : Nat) : BindFields :=
  { station := 1, channel, kind, feeder := 1, demand := 6, zone := 0, airGroup := 0, curve := 3, restFloor := 150,
    noiseBand := 20, weight := 4, idleThreshold := 130, busyThreshold := 180, idleDwell := 600, profile := 1,
    wakeAtClose := 1, wakeRank := 10, fallback := 1, stepLimit := 30, coastLimit := if kind = 0 then 120 else 0,
    unloadDwell := if kind = 1 then 120 else 0, minimumOff := if kind = 1 then 600 else 0, settleLimit := 60,
    adoptParked := 0, events := 0 }

/-- A load of that configuration in a state. -/
def load (n : Nat) (kind : LoadKind) (channel : Channel) (state : LoadState) : Load :=
  { num := n, cfg := config kind channel, state, hold := { byCall := false, byHost := false, byLockout := false },
    a16 := 0, idle := false, dwell := 0, sampleTime := none, sampleAge := none, manual := false, wakeDue := false,
    parkOwned := false, due := none, timer := none, stopTime := none, awaitingFan := false,
    latest := { safeStop := false, speedLow := false, unloaded := false } }

/-- S1 as the plant has it: enabled, four channels fitted, LIVE. -/
def stationOne : Station := { Station.reset with enabled := true, fitted := 4, link := .live }

/-- The curve C3 of section 2.4.1. -/
def curveThree : Knots := { k1 := 60, k2 := 140, k3 := 260, k4 := 420, k5 := 600, k6 := 790, k7 := 960 }

/-- A plant of these loads on S1 and F1, which has capacity 20, the units of its WAKING loads out, a spacing of 5 s, and
the WAKE_QUEUED loads in its queue. -/
def plantOf (loads : List Load) : Plant :=
  { Plant.reset with
    loads
    curves := Plant.reset.curves.set 2 curveThree
    stations := Plant.reset.stations.set 0 stationOne
    feeders := Plant.reset.feeders.set 0
      { capacity := 20
        free := 20 - ((loads.filter Load.isWaking).map (fun l => l.cfg.demand)).sum
        spacing := 5
        spacingTimer := none
        queue := (loads.filter (fun l => l.state == .wakeQueued)).map (fun l => { load := l.num, passed := 0 }) } }

/-- The state of such a plant on Tuesday 2024-03-12 at 01:00:00. -/
def bench (loads : List Load) : State :=
  { State.reset with
    plant := plantOf loads
    calendar := { Calendar.reset with clock := some { date := ⟨2024, 3, 12⟩, dayOfWeek := 2, seconds := 3600 } } }

/-- The state after a command. -/
def ran (c : Instr) (s : State) : State :=
  match exec c s with
  | .next t => t
  | _ => State.reset

/-- The payload of the reply that a command leaves in progress. -/
def reply (c : Instr) (s : State) : Option (List Byte) := (ran c s).link.reply.map (fun r => r.reply.payload)

/-- What the state holds of a load after a command. -/
def stateOf (c : Instr) (s : State) (n : Nat) : Option LoadState := ((ran c s).load? n).map Load.state

/-- A bench with the monitor in a state. -/
def monitored (state : AssentState) (trust token : Nat) (permit : Bool) : State :=
  { bench [] with assent := { Assent.reset with state, trust, token, permit } }

/-- A bench with the visit of S1 in a phase of its slot. -/
def visiting (phase : SlotPhase) (loads : List Load) : State :=
  let v : Visit := { station := 0, kind := .routine, order := none, fitted := 4, notedMark := false,
                     inquiryReplaced := false, phase }
  { bench loads with sweep := { Sweep.reset with mode := .continuous, line := .slot v } }

/-- A field line reply with this body (R179). -/
def fieldFrame (body : List Byte) : List Byte :=
  let covered := BitVec.ofNat 8 body.length :: body
  0x5A :: covered ++ crcBytes covered

/-- A routine reply of S1 with four STOPPED channels and no samples. -/
def quietReply : List Byte :=
  fieldFrame [1, 4, 0, 0xFF, 0xFF, 0, 0, 0xFF, 0xFF, 0, 0, 0xFF, 0xFF, 0, 0, 0xFF, 0xFF, 0]

/-! ## The arithmetic of the assessor and the link (2.4.1, 2.4.2, R166) -/

theorem test_level_cases : level curveThree 1300 = 205 ∧ level curveThree 2189 = 470 ∧ level curveThree 4095 = 1000 ∧
    level curveThree 0 = 0 ∧ level curveThree 1536 = 260 ∧ level straightLine 256 = 63 ∧
    level { straightLine with k4 := 500, k5 := 300 } 2300 = 402 ∧
    level { straightLine with k4 := 125, k5 := 0 } 2304 = 125 - 62 := by decide

theorem test_smooth_cases : smooth 2400 35 4 = 1940 ∧ smooth 1940 35 4 = 1595 ∧ smooth 1595 300 4 = 2396 ∧
    smooth 2396 300 4 = 2997 ∧ smooth 803 50 8 = 801 ∧ smooth 797 50 8 = 799 ∧ smooth 808 51 1 = 809 ∧
    smooth 7 0 1 = 7 ∧ smooth 0 1000 16 = 16000 := by decide

theorem test_crc_check : crc [0x31, 0x32, 0x33, 0x34, 0x35, 0x36, 0x37, 0x38, 0x39] = 0x29B1 := by decide +kernel

/-! ## Reset and power (R175) -/

theorem test_powerOn : (ran .powerOn (bench [load 1 .press 0 .active])).inReset = true ∧
    (ran .powerOn (bench [load 1 .press 0 .active])).plant.loads = [] := by decide +kernel

theorem test_resetPinLow : (ran .resetPinLow (visiting .sending [])).pins.flDe = false ∧
    (ran .resetPinLow (visiting .sending [])).sweep.mode = .stopped := by decide +kernel

theorem test_leaveReset : (ran .leaveReset { bench [] with inReset := true }).inReset = false := by decide +kernel

/-! ## The timebase (R30, R39, R79, R93, R141) -/

/-- 2024 has a 29 February; the day of week goes on by one (R93). -/
theorem test_secondsEvent_leapDay :
    (ran .secondsEvent { bench [] with
      calendar := { Calendar.reset with clock := some { date := ⟨2024, 2, 28⟩, dayOfWeek := 3, seconds := 86399 } } }).calendar.clock =
    some { date := ⟨2024, 2, 29⟩, dayOfWeek := 4, seconds := 0 } := by decide +kernel

/-- At the midnight rollover to 2024-12-25 the entry of 2024-12-24 is purged, that of the day itself not (5.3.1, R98). -/
theorem test_secondsEvent_purge :
    (ran .secondsEvent { bench [] with
      calendar := { Calendar.reset with
        clock := some { date := ⟨2024, 12, 24⟩, dayOfWeek := 2, seconds := 86399 }
        holidays := [⟨⟨2024, 12, 24⟩, .allClosed⟩, ⟨⟨2024, 12, 25⟩, .allClosed⟩] } }).calendar.holidays =
    [⟨⟨2024, 12, 25⟩, .allClosed⟩] := by decide +kernel

theorem test_quarterSecondEvent : (ran .quarterSecondEvent (monitored (.awaitAnswer 66) 9 25627 true)).assent.state =
    .awaitAnswer 67 := by decide +kernel

/-- The answer timeouts of 8.12 at 192.0 and 209.0: the count goes 9, 6, 3, and PERMIT ends below 5. -/
theorem test_answerWindowTimeout :
    (ran .answerWindowTimeout (monitored (.awaitAnswer 67) 9 25627 true)).assent.trust = 6 ∧
    (ran .answerWindowTimeout (monitored (.awaitAnswer 67) 9 25627 true)).assent.permit = true ∧
    (ran .answerWindowTimeout (monitored (.awaitAnswer 67) 6 25627 true)).assent.permit = false := by decide +kernel

/-- The third timeout of 8.12 lapses the monitor by count. -/
theorem test_answerWindowTimeout_lapse :
    (ran .answerWindowTimeout (monitored (.awaitAnswer 67) 3 25627 false)).assent.state = .lapsed ∧
    (ran .answerWindowTimeout (monitored (.awaitAnswer 67) 3 25627 false)).assent.lapses = 1 ∧
    (ran .answerWindowTimeout (monitored (.awaitAnswer 67) 3 25627 false)).assent.flags.lapsedByCount = true ∧
    (ran .answerWindowTimeout (monitored (.awaitAnswer 67) 3 25627 false)).alerts.faultCount = 1 := by decide +kernel

/-- With the defaults the request window times out at 320 (8.12). -/
theorem test_requestWindowTimeout :
    (ran .requestWindowTimeout (monitored (.awaitChallenge 319) 9 25627 true)).assent.flags.requestTimeout = true ∧
    (ran .requestWindowTimeout (monitored (.awaitChallenge 318) 9 25627 true)).assent.flags.requestTimeout = false := by
  decide +kernel

/-- An IDLING load with a fresh sample one second short of its idle dwell. -/
def almostIdle : Load := { load 1 .press 0 .idling with idle := true, dwell := 599, sampleAge := some 30 }

theorem test_dwellComplete : stateOf (.dwellComplete 1) (bench [almostIdle]) 1 = some .parkPending := by decide +kernel

/-- At the seconds event the sample of age 30 becomes stale first, so no dwell is counted (R30, R39). -/
theorem test_dwell_stale : stateOf .secondsEvent (bench [almostIdle]) 1 = some .idling ∧
    stateOf .secondsEvent (bench [{ almostIdle with sampleAge := some 29 }]) 1 = some .parkPending := by decide +kernel

/-- A compressor with 600 s of minimum off, stopped 600 s, 599 s and 601 s ago; the last elapsed a second before (R79). -/
theorem test_minimumOffElapsed :
    stateOf .minimumOffElapsed (bench [{ load 1 .compressor 0 .wakeQueued with stopTime := some ⟨⟨2024, 3, 12⟩, 3000⟩ }]) 1 =
      some (.waking .ordered) ∧
    stateOf .minimumOffElapsed (bench [{ load 1 .compressor 0 .wakeQueued with stopTime := some ⟨⟨2024, 3, 12⟩, 3001⟩ }]) 1 =
      some .wakeQueued ∧
    stateOf .minimumOffElapsed (bench [{ load 1 .compressor 0 .wakeQueued with stopTime := some ⟨⟨2024, 3, 12⟩, 2999⟩ }]) 1 =
      some .wakeQueued := by decide +kernel

/-! ## Timers (R55, R57, R59, R83, R86) -/

/-- A load in a park step with its timer running. -/
def parking (kind : LoadKind) (step : ParkStep) : Load :=
  { load 1 kind 0 (.parking step) with timer := some { limit := 30, elapsed := 7 } }

theorem test_stepTimerExpiry : stateOf (.stepTimerExpiry 1) (bench [parking .press .declutching]) 1 = some .faulted ∧
    (ran (.stepTimerExpiry 1) (bench [parking .press .declutching])).alerts.faultCount = 1 := by decide +kernel

theorem test_coastLimitExpiry : stateOf (.coastLimitExpiry 1) (bench [parking .press .coasting]) 1 = some .faulted := by
  decide +kernel

theorem test_unloadDwellExpiry :
    stateOf (.unloadDwellExpiry 1) (bench [parking .compressor (.unloading .dwell)]) 1 = some (.parking .stopping) ∧
    ((ran (.unloadDwellExpiry 1) (bench [parking .compressor (.unloading .dwell)])).station 0).slot =
      some { channel := 0, kind := .motorOff } := by decide +kernel

/-- A WAKING load with its settle timer running. -/
def settling : Load := { load 1 .auxiliary 0 (.waking .settling) with timer := some { limit := 60, elapsed := 9 } }

theorem test_settleTimerExpiry : stateOf (.settleTimerExpiry 1) (bench [settling]) 1 = some .faulted ∧
    ((ran (.settleTimerExpiry 1) (bench [settling])).plant.feeder 0).free = 20 := by decide +kernel

/-- The line t0+5 of 4.5.1: the demand of 10 is passed once by the demand of 6. -/
theorem test_spacingTimerExpiry :
    let waiting (n : Nat) (channel : Channel) (demand : Nat) : Load :=
      { load n .auxiliary channel .wakeQueued with cfg := { config .auxiliary channel with demand } }
    let s := bench [waiting 2 0 6, { load 3 .auxiliary 1 (.waking .ordered) with
      cfg := { config .auxiliary 1 with demand := 12 } }, waiting 7 2 10]
    let t := ran (.spacingTimerExpiry 1)
      (s.onPlant (Plant.setFeeder 0 (fun f =>
        { f with spacingTimer := some { limit := 5, elapsed := 4 }, queue := [⟨7, 0⟩, ⟨2, 0⟩] })))
    (t.plant.feeder 0).queue = [⟨7, 1⟩] ∧ (t.plant.feeder 0).free = 2 ∧
      (t.plant.feeder 0).spacingTimer = some { limit := 5, elapsed := 0 } := by decide +kernel

/-! ## The field line (R107 to R118, R126 to R134) -/

/-- A bench in the pause after a round, with S1 and S2 enabled and S2 beyond the last station. -/
def pausing : State :=
  { (bench []).onPlant (Plant.setStation 1 (fun _ => stationOne)) with
    sweep := { Sweep.reset with mode := .continuous, line := .pausing } }

theorem test_pauseEnd : (ran .pauseEnd pausing).sweep.currentStation = some 0 ∧
    ((ran .pauseEnd pausing).station 1).link = .excluded := by decide +kernel

/-- The five loads of section 2.7 give a plant activity of 547 and a parked count of 1 (R43). -/
theorem test_slotEnd_digest :
    let l (n : Nat) (channel : Channel) (state : LoadState) (a16 : Nat) : Load :=
      { load n .auxiliary channel state with a16 }
    let s := visiting .over [l 1 0 .active 6592, l 2 1 .idling 1600, l 3 2 .parkPending 560, l 4 3 .parked 0]
    (ran .slotEnd s).sweep.digest.activity = 547 ∧ (ran .slotEnd s).sweep.digest.parked = 1 := by decide +kernel

theorem test_replyStartTimeout : ((ran .replyStartTimeout (visiting .listening [])).station 0).link = .suspect ∧
    ((ran .replyStartTimeout (visiting .listening [])).station 0).misses = 1 := by decide +kernel

theorem test_replyCharacterFault : (ran .replyCharacterFault (visiting .receiving [])).sweep.flags.anyMiss = true := by
  decide +kernel

theorem test_visitFrameSent : (ran .visitFrameSent (visiting .sending [])).pins.flDe = false ∧
    (ran .replyStartBit (visiting .sending [])).pins.flDe = true := by decide +kernel

theorem test_replyStartBit :
    ((ran .replyStartBit (visiting .listening [])).visit?).map Visit.phase = some .receiving := by decide +kernel

/-- The sample of 2.4.1 brings the ACTIVE load to A16 1940 and into IDLING. -/
theorem test_fieldReplyReceived_sample :
    let s := visiting .listening [{ load 1 .auxiliary 0 .active with a16 := 2400 }]
    let t := ran (.fieldReplyReceived (fieldFrame
      [1, 4, 2, 0x05, 0x14, 0, 0, 0xFF, 0xFF, 0, 0, 0xFF, 0xFF, 0, 0, 0xFF, 0xFF, 0])) s
    (t.load? 1).map (fun l => (l.a16, l.state, l.idle)) = some (1940, .idling, true) := by decide +kernel

/-- The first line of 6.4.1: the echo of channel 2 is taken, and the search from channel 3 finds the order that waits
there before that of channel 0. -/
theorem test_fieldReplyReceived_turns :
    let orders := [{ load 50 .press 0 (.parking .declutching) with due := some .declutch },
      { load 52 .auxiliary 2 (.parking .stopping) with due := some .motorOff },
      { load 53 .auxiliary 3 (.parking .stopping) with due := some .motorOff }]
    let s := (visiting .listening orders).setStation 0
      (fun st => { st with slot := some { channel := 2, kind := .motorOff }, lastServed := 2 })
    let t := ran (.fieldReplyReceived (fieldFrame
      [1, 12, 2, 3, 2, 0xFF, 0xFF, 0, 2, 0xFF, 0xFF, 0, 2, 0xFF, 0xFF, 0, 2, 0xFF, 0xFF, 0])) s
    (t.station 0).slot = some { channel := 3, kind := .motorOff } ∧ (t.station 0).lastServed = 3 ∧
      ((t.load? 50).bind Load.due) = some .declutch := by decide +kernel

/-! ## Characters, frames and replies (R164 to R169) -/

/-- A bench with the deframer standing somewhere. -/
def deframing (d : Deframer) : State := { bench [] with link := { Link.reset with deframer := d } }

theorem test_characterReceived : (ran (.characterReceived 0xA5) (deframing .hunting)).link.deframer = .expectLength ∧
    (ran (.characterReceived 0x5A) (deframing .hunting)).link.deframer = .hunting := by decide +kernel

theorem test_framingFault : (ran .framingFault (deframing .expectLength)).link.errors = 1 ∧
    (ran .framingFault (deframing .hunting)).link.errors = 0 := by decide +kernel

theorem test_lengthOutOfRange : (ran (.lengthOutOfRange 125) (deframing .expectLength)).link.errors = 1 ∧
    (ran (.lengthOutOfRange 1) (deframing .expectLength)).link.deframer = .hunting := by decide +kernel

theorem test_gapTimeout : (ran .gapTimeout (deframing (.body 5 [33]))).link.deframer = .hunting := by decide +kernel

/-- The frame of IDENTIFY with tag 9 is length 2, kind 33, tag 9; its last character completes it and it is taken. -/
theorem test_frameComplete :
    let check := crcBytes [2, 33, 9]
    let s := deframing (.body 2 [33, 9, check.getD 0 0])
    reply (.frameComplete (check.getD 1 0)) s = some [0, 0x0C, 0xB0, 1, 96, 40, 4, 8, 4, 16] := by decide +kernel

/-- A reply to IDENTIFY in progress, with a READ LOADS behind it. -/
def replying : State :=
  { bench [] with link := { Link.reset with
      buffer := [{ kind := 33, tag := 1, payload := [] }, { kind := 28, tag := 2, payload := [0] }]
      reply := some { request := { kind := 33, tag := 1, payload := [] }, reply := { kind := 33, tag := 1, payload := [0] } } } }

theorem test_replySent : reply .replySent replying = some [0, 0] ∧
    (ran .replySent replying).link.buffer = [{ kind := 28, tag := 2, payload := [0] }] := by decide +kernel

/-- UNKNOWN has code 12 (R170, R176). -/
theorem test_unknownRequest : reply (.unknownRequest 40 7 [1, 2]) (bench []) = some [12] := by decide +kernel

/-! ## Configuration requests -/

theorem test_setFeeder : reply (.setFeeder 0 1 30 2) (bench [load 1 .press 0 .active]) = some [0] ∧
    ((ran (.setFeeder 0 1 30 2) (bench [load 1 .press 0 .active])).plant.feeder 0).free = 30 := by decide +kernel

/-- BUSY is 3, CONFLICT is 5 (R89). -/
theorem test_setFeeder_refused : reply (.setFeeder 0 1 30 2) (bench [settling]) = some [3] ∧
    reply (.setFeeder 0 1 5 2) (bench [load 1 .press 0 .active]) = some [5] := by decide +kernel

theorem test_setGroup : (ran (.setGroup 0 4 8) (bench [])).plant.groups = #v[0, 0, 0, 8] ∧
    reply (.setGroup 0 4 9) (bench []) = some [4] := by decide +kernel

theorem test_setCurve : (ran (.setCurve 0 8 curveThree) (bench [])).plant.curves[7] = curveThree ∧
    reply (.setCurve 0 8 { curveThree with k5 := 1001 }) (bench []) = some [4] := by decide +kernel

theorem test_setStation : ((ran (.setStation 0 2 1 3) (bench [])).station 1).fitted = 3 ∧
    reply (.setStation 0 1 1 3) (bench [load 1 .press 3 .active]) = some [5] := by decide +kernel

theorem test_bindLoad : ((ran (.bindLoad 0 1 (fields 0 0)) (bench [])).load? 1).map Load.cfg = some (config .press 0) ∧
    stateOf (.bindLoad 0 1 (fields 0 0)) (bench []) 1 = some .offline := by decide +kernel

/-- RANGE for a coast limit on a kind that has none; CONFLICT for a place that is taken (R7). -/
theorem test_bindLoad_refused :
    reply (.bindLoad 0 1 { fields 3 0 with coastLimit := 120 }) (bench []) = some [4] ∧
    reply (.bindLoad 0 2 (fields 0 0)) (bench [load 1 .press 0 .active]) = some [5] := by decide +kernel

theorem test_unbindLoad : (ran (.unbindLoad 0 1) (bench [load 1 .press 0 .active])).plant.loads = [] ∧
    reply (.unbindLoad 0 1) (bench [settling]) = some [3] := by decide +kernel

/-- P1's row for Tuesday opens slot 2, the half hour that the clock stands in (R99, R101). -/
theorem test_setProfileDay : (ran (.setProfileDay 0 1 2 4) (bench [])).calendar.held[0] = true ∧
    (ran (.setProfileDay 0 1 2 8) (bench [])).calendar.held[0] = false := by decide +kernel

/-- A holiday list between two dates. -/
def withHolidays : State :=
  { bench [] with calendar := { (bench []).calendar with
      holidays := [⟨⟨2025, 4, 21⟩, .asDay 6⟩, ⟨⟨2025, 12, 26⟩, .asDay 6⟩] } }

/-- 5.3.1: an existing date keeps its place, a new one is inserted in order. -/
theorem test_setHoliday :
    (ran (.setHoliday 0 ⟨2025, 4, 21⟩ 0) withHolidays).calendar.holidays =
      [⟨⟨2025, 4, 21⟩, .allOpen⟩, ⟨⟨2025, 12, 26⟩, .asDay 6⟩] ∧
    (ran (.setHoliday 0 ⟨2025, 5, 1⟩ 8) withHolidays).calendar.holidays =
      [⟨⟨2025, 4, 21⟩, .asDay 6⟩, ⟨⟨2025, 5, 1⟩, .allClosed⟩, ⟨⟨2025, 12, 26⟩, .asDay 6⟩] := by decide +kernel

/-- 5.3.1: 2025-02-29 is no date; 2025-08-15 is not in the list. -/
theorem test_holiday_refused : reply (.setHoliday 0 ⟨2025, 2, 29⟩ 0) withHolidays = some [4] ∧
    reply (.dropHoliday 0 ⟨2025, 8, 15⟩) withHolidays = some [10] := by decide +kernel

theorem test_dropHoliday : (ran (.dropHoliday 0 ⟨2025, 12, 26⟩) withHolidays).calendar.holidays =
    [⟨⟨2025, 4, 21⟩, .asDay 6⟩] := by decide +kernel

/-- The defaults of R140 as a SET ASSENT carries them, with a low threshold of 4 and action LAPSE. -/
def assentFields : AssentFields :=
  { answerOpen := 8, answerClose := 40, answerTimeout := 20, requestOpen := 200, requestClose := 63, requestTimeout := 40,
    requestCheck := 1, timeoutAction := 0, startCount := 6, goodStep := 1, badStep := 3, lowThreshold := 4,
    highThreshold := 11 }

/-- LOCKED is 8 (12.2: SET ASSENT is LOCKED while the monitor runs). -/
theorem test_setAssent : (ran (.setAssent 0 assentFields) (bench [])).assent.params.timeoutLapse = true ∧
    reply (.setAssent 0 assentFields) (monitored (.awaitAnswer 0) 6 4660 false) = some [8] := by decide +kernel

/-- BEACON mode with a tolerance that the fault count has reached asserts the alert at once (R162). -/
theorem test_setAlert :
    (ran (.setAlert 0 1 2 1 15 255) { bench [{ load 1 .press 0 .faulted with a16 := 0 }] with
      alerts := { Alerts.reset with faultCount := 2, statusRead := false } }).pins.alertLow = true := by decide +kernel

/-- 12.2: SET SWEEP is BUSY while the sweep runs. -/
theorem test_setSweep : (ran (.setSweep 0 3 100) (bench [])).sweep.rate = .b115200 ∧
    reply (.setSweep 0 3 100) pausing = some [3] := by decide +kernel

/-! ## Operation requests -/

/-- A clock set back before a stop time moves the stop time to the reading (R94). -/
theorem test_setClock :
    ((ran (.setClock 0 ⟨2024, 3, 11⟩ 1 7200)
      (bench [{ load 1 .compressor 0 .parked with stopTime := some ⟨⟨2024, 3, 12⟩, 3000⟩ }])).load? 1).map Load.stopTime =
    some (some ⟨⟨2024, 3, 11⟩, 7200⟩) := by decide +kernel

theorem test_startSweep : (ran (.startSweep 0 1 1) (bench [])).sweep.currentStation = some 0 ∧
    (ran (.startSweep 0 1 1) (bench [])).pins.flDe = true ∧ reply (.startSweep 0 2 1) pausing = some [3] := by decide +kernel

theorem test_stopSweep : (ran (.stopSweep 0) pausing).sweep.stopRequested = true := by decide +kernel

theorem test_setLastStation : (ran (.setLastStation 0 9) pausing).sweep.pendingLast = some 9 ∧
    (ran (.setLastStation 0 9) (bench [])).sweep.lastStation = 9 := by decide +kernel

theorem test_hold : ((ran (.hold 0 1) (bench [load 1 .press 0 .active])).load? 1).map (fun l => l.hold.byHost) = some true ∧
    reply (.hold 0 2) (bench []) = some [6] := by decide +kernel

theorem test_release :
    ((ran (.release 0 1) (bench [{ load 1 .press 0 .active with
      hold := { byCall := true, byHost := true, byLockout := false } }])).load? 1).map Load.hold =
    some { byCall := true, byHost := false, byLockout := false } := by decide +kernel

/-- WRONG_STATE is 7 (R66). -/
theorem test_parkNow : ((ran (.parkNow 0 1) (bench [load 1 .press 0 .active])).load? 1).map Load.manual = some true ∧
    reply (.parkNow 0 1) (bench [load 1 .press 0 .parkPending]) = some [7] := by decide +kernel

theorem test_cancelPark :
    ((ran (.cancelPark 0 1) (bench [{ load 1 .press 0 .parkPending with idle := true, dwell := 600 }])).load? 1).map
      (fun l => (l.state, l.idle, l.dwell)) = some (.active, false, 0) := by decide +kernel

/-- A PARKED load joins and, with units free, is granted at once (R73, R81); a PARKING one is DEFERRED, code 1 (R70). -/
theorem test_wakeNow : stateOf (.wakeNow 0 1 0) (bench [load 1 .press 0 .parked]) 1 = some (.waking .ordered) ∧
    reply (.wakeNow 0 1 0) (bench [parking .press .coasting]) = some [1] := by decide +kernel

/-- A load of zone 1 whose fan is FAULTED waits for it, unless the override is given (R71, R76). -/
theorem test_wakeNow_fan :
    let inZone (l : Load) : Load := { l with cfg := { l.cfg with zone := 1 } }
    let s := bench [inZone (load 1 .press 0 .parked), inZone (load 2 .fan 1 .faulted)]
    stateOf (.wakeNow 0 1 0) s 1 = some .wakeQueued ∧ stateOf (.wakeNow 0 1 1) s 1 = some (.waking .ordered) := by
  decide +kernel

theorem test_cancelWake : stateOf (.cancelWake 0 1) (bench [load 1 .press 0 .wakeQueued]) 1 = some .parked ∧
    ((ran (.cancelWake 0 1) (bench [load 1 .press 0 .wakeQueued])).plant.feeder 0).queue = [] := by decide +kernel

theorem test_clearFault : stateOf (.clearFault 0 1) (bench [load 1 .press 0 .faulted]) 1 = some .offline := by
  decide +kernel

theorem test_setInquiry : ((ran (.setInquiry 0 1 1 3) (bench [])).station 0).inquiry = .hours ∧
    ((ran (.setInquiry 0 1 1 3) (bench [])).station 0).round = true ∧ reply (.setInquiry 0 1 5 0) (bench []) = some [4] := by
  decide +kernel

/-! ## Supervision (8.12) -/

/-- The first CHALLENGE answers DONE with AWAIT_ANSWER, count 6, PERMIT clear and token 4660. -/
theorem test_challenge : reply (.challenge 0) (bench []) = some [0, 1, 6, 1, 0x12, 0x34] := by decide +kernel

/-- The challenge at 175.0 comes at count 228 of the request window: a good step from 8 to 9. -/
theorem test_challenge_inWindow :
    (ran (.challenge 0) (monitored (.awaitChallenge 228) 8 25627 true)).assent.trust = 9 := by decide +kernel

/-- The answers at 3.0 and 118.0: the tokens go 4660, 10589 and 35834, 25627; the count of 11 sets PERMIT. -/
theorem test_answer : (ran (.answer 0 4660 60875) (monitored (.awaitAnswer 12) 6 4660 false)).assent.token = 10589 ∧
    (ran (.answer 0 35834 29701) (monitored (.awaitAnswer 10) 10 35834 false)).assent.token = 25627 ∧
    (ran (.answer 0 35834 29701) (monitored (.awaitAnswer 10) 10 35834 false)).assent.permit = true := by decide +kernel

/-- The repeated answer at 119.0 is IGNORED, code 2, and costs three: 11 to 8, PERMIT still set (136 is 8 + 128). -/
theorem test_answer_ignored :
    reply (.answer 0 35834 29701) (monitored (.awaitChallenge 4) 11 25627 true) = some [2, 2, 136, 0] := by decide +kernel

/-! ## Reading -/

/-- READ LOAD carries the configuration in the layout of BIND LOAD, then the state (R42, R177). -/
theorem test_readLoad :
    (reply (.readLoad 0 1) (bench [load 1 .press 0 .parked])).map (fun p => (p.take 35).drop 1) =
      some (fields 0 0).bytes ∧
    (reply (.readLoad 0 1) (bench [load 1 .press 0 .parked])).map (fun p => p.getD 35 0) = some 6 := by decide +kernel

theorem test_readLoads : reply (.readLoads 0 0) (bench [{ load 7 .press 0 .active with a16 := 6592 }]) =
    some [0, 0, 7, 2, 0x01, 0x9C, 0, 0] ∧ reply (.readLoads 0 1) (bench []) = some [4] := by decide +kernel

theorem test_readStation : (reply (.readStation 0 1) (bench [])).map (fun p => p.take 5) = some [0, 1, 4, 1, 0] := by
  decide +kernel

/-- An order in the slot is sent with the slot, and one that waits with its load (R120, R176). -/
theorem test_readStation_orders :
    reply (.readStation 0 1) ((bench [{ load 7 .auxiliary 0 (.parking .stopping) with due := some .motorOff },
      { load 9 .auxiliary 1 (.parking .stopping) with due := some .motorOff }]).setStation 0 (fun st =>
      { st with fitted := 2, slot := some { channel := 0, kind := .motorOff }, lastServed := 0,
                lastCall := #v[true, false, false, false] })) =
    some [0, 1, 2, 1, 0, 1, 0, 3, 0, 0, 0, 0, 0, 0, 0, 0, 1, 0, 0, 0, 7, 0, 9, 1, 3, 1] := by decide +kernel

/-- A fitted channel without a stored result is sent as 0 (R178); the others as stored, 300 h and 25 degrees. -/
theorem test_readStation_results :
    (reply (.readStation 0 1) ((bench []).setStation 0 (fun st =>
      { st with fitted := 2, runHours := some [300], temperatures := some [25] }))).map (fun p => (p.drop 9).take 10) =
    some [1, 0x01, 0x2C, 0, 0, 1, 25, 0, 0, 0] := by decide +kernel

theorem test_readFeeder : (reply (.readFeeder 0 1 0) (bench [settling])).map (fun p => (p.take 5).drop 2) =
    some [20, 14, 5] := by decide +kernel

theorem test_readStatus : (reply (.readStatus 0) pausing).map (fun p => (p.length, p.getD 1 0, p.getD 3 0)) = some (31, 1, 0) ∧
    (ran (.readStatus 0) { bench [] with alerts := { Alerts.reset with faultCount := 3 } }).alerts.faultCount = 0 := by
  decide +kernel

/-- A notice of S5, LOST, at 03:09:30 (9.6): source 105, kinds bit 0, 11370 s, none remaining; then EMPTY, code 11. -/
theorem test_fetchNotice :
    reply (.fetchNotice 0) { bench [] with alerts := { Alerts.reset with
      queue := [{ source := .station 4, kinds := 1, time := some ⟨⟨2024, 3, 12⟩, 11370⟩, opened := 0, closed := 0 }] } } =
      some [0, 105, 0, 1, 0x07, 0xE8, 3, 12, 0, 0x2C, 0x6A, 0, 0, 0] ∧
    reply (.fetchNotice 0) (bench []) = some [11] := by decide +kernel

theorem test_identify : reply (.identify 5) (bench []) = some [0, 0x0C, 0xB0, 1, 96, 40, 4, 8, 4, 16] := by decide +kernel

/-! ## The device -/

theorem test_softRestart : reply (.softRestart 0) (bench [load 1 .press 0 .active]) = some [0] ∧
    stateOf (.softRestart 0) (bench [load 1 .press 0 .active]) 1 = some .active := by decide +kernel

theorem test_softRestartTakesEffect :
    stateOf .softRestartTakesEffect (bench [load 1 .press 0 .active]) 1 = some .offline ∧
    ((ran .softRestartTakesEffect (bench [])).station 0).link = .unheard := by decide +kernel

/-! ## Witnesses: what each statement supposes can be met -/

theorem witness_StepTakesFrontCommand : { bench [] with pending := [.secondsEvent, .replySent] }.pending =
    .secondsEvent :: [.replySent] ∧ (bench []).pending = [] := by decide

theorem witness_PinsFollowTheState :
    (∃ t, exec .powerOn (bench []) = .next t ∧ t.inReset = true) ∧
    ∃ t, exec .secondsEvent (bench []) = .next t ∧ t.inReset = false := by
  exact ⟨⟨_, rfl, by decide +kernel⟩, _, rfl, by decide +kernel⟩

theorem witness_ResetRows : { bench [] with inReset := true }.inReset = true ∧ Instr.secondsEvent ≠ .powerOn ∧
    Instr.secondsEvent ≠ .resetPinLow ∧ Instr.secondsEvent ≠ .leaveReset := by decide

/-- A sound plant with a load in the queue, one WAKING and one with a due order in its station's slot. -/
def busyPlant : State :=
  { (bench [{ load 1 .press 0 (.parking .declutching) with due := some .declutch, timer := some { limit := 30, elapsed := 0 } },
      load 2 .compressor 1 .wakeQueued, { settling with num := 3, cfg := config .auxiliary 2 }]).setStation 0
      (fun st => { st with slot := some { channel := 0, kind := .declutch }, lastServed := 0 }) with
    pending := [.secondsEvent] }

theorem witness_StepKeepsStartQueuesAndUnits :
    busyPlant.plant.sound ∧ ∃ t, step busyPlant = .next t :=
  ⟨by decide +kernel, _, rfl⟩

theorem witness_StepKeepsPlacesAndOrders :
    busyPlant.plant.ordersSound ∧ ∃ t, step busyPlant = .next t :=
  ⟨by decide +kernel, _, rfl⟩

theorem witness_StepKeepsAssentRecord :
    { monitored (.awaitAnswer 67) 9 25627 true with pending := [.quarterSecondEvent] }.assent.sound ∧
    ∃ t, step { monitored (.awaitAnswer 67) 9 25627 true with pending := [.quarterSecondEvent] } = .next t :=
  ⟨by decide +kernel, _, rfl⟩

/-- A state with two notices waiting. -/
def noticed : State :=
  { bench [] with
    alerts := { Alerts.reset with
      queue := [{ source := .device, kinds := 1, time := none, opened := 1, closed := 0 },
        { source := .load 3, kinds := 8, time := none, opened := 0, closed := 0 }] }
    pending := [.fetchNotice 0] }

theorem witness_StepKeepsNoticeQueue : noticed.alerts.queueSound ∧ ∃ t, step noticed = .next t :=
  ⟨by decide +kernel, _, rfl⟩

theorem witness_StepKeepsCalendar :
    { withHolidays with pending := [.dropHoliday 0 ⟨2025, 4, 21⟩] }.calendar.sound ∧
    ∃ t, step { withHolidays with pending := [.dropHoliday 0 ⟨2025, 4, 21⟩] } = .next t :=
  ⟨by decide +kernel, _, rfl⟩

theorem witness_StepKeepsLinkAndSweep :
    replying.link.sound ∧ pausing.sweep.sound ∧ (∀ i, (pausing.station i).linkSound = true) ∧
    (∃ t, step { replying with pending := [.replySent] } = .next t) ∧
    ∃ t, step { pausing with pending := [.pauseEnd] } = .next t :=
  ⟨by decide +kernel, by decide +kernel, by decide +kernel, ⟨_, rfl⟩, _, rfl⟩

/-- A compressor with a stop time, one second before the clock's wrap. -/
def wrapping : State :=
  { bench [{ load 1 .compressor 0 .parked with stopTime := some ⟨⟨2099, 12, 31⟩, 80000⟩ }] with
    calendar := { Calendar.reset with clock := some { date := ⟨2099, 12, 31⟩, dayOfWeek := 4, seconds := 86399 } } }

theorem witness_SecondsEventAdvancesTheClock : (bench []).inReset = false ∧ wrapping.inReset = false ∧
    (wrapping.load? 1).map Load.stopTime = some (some ⟨⟨2099, 12, 31⟩, 80000⟩) := by decide +kernel

theorem witness_ClockAdvancesByOneSecond :
    Clock.sound { date := ⟨2099, 12, 31⟩, dayOfWeek := 4, seconds := 86399 } = true ∧
    Clock.sound { date := ⟨2000, 1, 1⟩, dayOfWeek := 6, seconds := 0 } = true := by decide

theorem witness_SecondsEventCountsDwell :
    (bench [almostIdle]).inReset = false ∧ (bench [almostIdle]).plant.sound ∧
    (bench [almostIdle]).load? 1 = some almostIdle ∧ almostIdle.state = .idling ∧
    almostIdle.dwell < almostIdle.cfg.idleDwell := by decide +kernel

theorem witness_DwellCompleteEndsTheDwell :
    (bench [almostIdle]).inReset = false ∧ (bench [almostIdle]).load? 1 = some almostIdle ∧ almostIdle.state = .idling ∧
    almostIdle.sampleAge = some 30 ∧ almostIdle.dwell + 1 = almostIdle.cfg.idleDwell ∧
    (bench []).plant.numbered ∧ (bench []).load? 1 = none ∧ (bench [almostIdle]).plant.numbered ∧
    { almostIdle with dwell := 598 }.dwell + 1 < almostIdle.cfg.idleDwell := by decide +kernel

/-- A feeder with one eligible entry that fits. -/
def waitingOne : State := bench [{ load 1 .compressor 0 .wakeQueued with stopTime := some ⟨⟨2024, 3, 12⟩, 3000⟩ }]

/-- The same with the spacing timer running. -/
def spacedOne : State :=
  waitingOne.onPlant (Plant.setFeeder 0 (fun f => { f with spacingTimer := some { limit := 5, elapsed := 4 } }))

theorem witness_GrantExamination :
    (spacedOne.plant.feeder 0).spacingTimer ≠ none ∧
    pickEntry ((bench []).plant.eligible none) (bench []).plant.demandOf 0 [] = none ∧
    (waitingOne.plant.feeder 0).spacingTimer = none ∧ (waitingOne.plant.feeder 0).spacing ≠ 0 ∧
    pickEntry (waitingOne.plant.eligible waitingOne.calendar.clock) waitingOne.plant.demandOf
      (waitingOne.plant.feeder 0).free (waitingOne.plant.feeder 0).queue = some (⟨1, 0⟩, []) := by decide +kernel

theorem witness_ArrivalsGrantTheOldest (s : State) (hs : s = waitingOne ∨ s = spacedOne) :
    s.inReset = false ∧ s.plant.sound ∧ (s.plant.feeder 0).queue = [⟨1, 0⟩] ∧
    (∃ l, s.load? 1 = some l ∧ (s.station l.cfg.station).link = .live ∧ l.hold.byLockout = false ∧
      l.awaitingFan = false ∧ l.cfg.kind = .compressor ∧ minimumOffElapsed s.calendar.clock l = true ∧
      l.cfg.demand ≤ (s.plant.feeder 0).free) ∧
    0 < (s.plant.feeder 0).spacing ∧ ((s.plant.feeder 0).spacingTimer = none ↔ s = waitingOne) := by
  have h : waitingOne ≠ spacedOne := by decide +kernel
  rcases hs with rfl | rfl
  · exact ⟨by decide +kernel, by decide +kernel, by decide +kernel, ⟨_, rfl, by decide +kernel⟩, by decide +kernel,
      by simp; decide +kernel⟩
  · exact ⟨by decide +kernel, by decide +kernel, by decide +kernel, ⟨_, rfl, by decide +kernel⟩, by decide +kernel,
      ⟨fun e => absurd e (by decide +kernel), fun e => absurd e.symm h⟩⟩

theorem witness_ArrivalsGrantTheOldest_minimumOff :
    waitingOne.calendar.clock = some { date := ⟨2024, 3, 12⟩, dayOfWeek := 2, seconds := 3600 } ∧
    (waitingOne.load? 1).map (fun l => (l.stopTime, l.cfg.minimumOff)) = some (some ⟨⟨2024, 3, 12⟩, 3000⟩, 600) ∧
    (⟨⟨2024, 3, 12⟩, 3000⟩ : Stamp).absolute + 600 =
      (Clock.stamp { date := ⟨2024, 3, 12⟩, dayOfWeek := 2, seconds := 3600 }).absolute ∧
    (bench []).inReset = false ∧ (bench []).plant.loads = [] := by decide +kernel

theorem witness_ArrivalsGrantTheOldest_spacingZero :
    let p := waitingOne.plant.setFeeder 0 (fun f => { f with spacing := 0 })
    (p.feeder 0).spacingTimer = none ∧ (p.feeder 0).spacing = 0 ∧
    pickEntry (p.eligible waitingOne.calendar.clock) p.demandOf (p.feeder 0).free (p.feeder 0).queue =
      some (⟨1, 0⟩, []) := by decide +kernel

theorem witness_WindowsCountAndTimeOut :
    (monitored (.awaitAnswer 66) 9 4660 true).inReset = false ∧ 66 + 1 < 8 + 40 + 20 ∧ 8 + 40 + 20 = 67 + 1 ∧
    (monitored (.awaitAnswer 66) 9 4660 true).assent.state = .awaitAnswer 66 ∧
    (monitored (.awaitAnswer 67) 9 4660 true).assent.state = .awaitAnswer 67 ∧
    (monitored (.awaitChallenge 318) 9 4660 true).assent.state = .awaitChallenge 318 ∧
    318 + 1 < 200 + 80 + 40 ∧ 200 + 80 + 40 = 319 + 1 ∧
    (monitored (.awaitChallenge 319) 9 4660 true).assent.state = .awaitChallenge 319 ∧
    (bench []).assent.state = .dormant := by decide

/-- A PARKED load whose profile is OPEN, with the monitor one quarter second and three counts from a lapse. -/
def lapsing : State :=
  { bench [load 1 .press 0 .parked] with
    assent := { Assent.reset with state := .awaitAnswer 67, trust := 3 }
    calendar := { Calendar.reset with clock := some { date := ⟨2024, 3, 12⟩, dayOfWeek := 2, seconds := 3599 }
                                      held := #v[true, false, false, false] } }

theorem witness_LapseAndCurfewCloseWakeParkedLoads :
    lapsing.inReset = false ∧ lapsing.plant.sound ∧ lapsing.load? 1 = some (load 1 .press 0 .parked) ∧
    (config .press 0).fallbackWake = true ∧ lapsing.assent.state = .awaitAnswer 67 ∧
    lapsing.assent.params.answerOpen + lapsing.assent.params.answerClose + lapsing.assent.params.answerTimeout = 67 + 1 ∧
    lapsing.assent.fails ∧ (config .press 0).wakeAtClose = true ∧ (config .press 0).profile = some 0 ∧
    lapsing.calendar.held[0] = true ∧ (ran .secondsEvent lapsing).calendar.held[0] = false := by decide +kernel

/-- Each of the commands by which a monitor can lapse does so from some state. -/
theorem witness_LapseAndCurfewCloseWakeParkedLoads_lapses :
    (ran .quarterSecondEvent lapsing).assent.state = .lapsed ∧ (ran .answerWindowTimeout lapsing).assent.state = .lapsed ∧
    (ran .requestWindowTimeout (monitored (.awaitChallenge 319) 3 4660 false)).assent.state = .lapsed ∧
    (ran (.challenge 0) (monitored (.awaitAnswer 0) 3 4660 false)).assent.state = .lapsed ∧
    (ran (.answer 0 0 0) (monitored (.awaitChallenge 0) 3 4660 false)).assent.state = .lapsed := by decide +kernel

/-- Each of the requests by which a profile can close does so from some state. -/
theorem witness_LapseAndCurfewCloseWakeParkedLoads_closes :
    let listed := { lapsing with calendar := { lapsing.calendar with holidays := [⟨⟨2024, 3, 12⟩, .allOpen⟩] } }
    (ran (.setClock 0 ⟨2024, 3, 12⟩ 2 0) lapsing).calendar.held[0] = false ∧
    (ran (.setProfileDay 0 1 2 0) lapsing).calendar.held[0] = false ∧
    (ran (.setHoliday 0 ⟨2024, 3, 12⟩ 8) lapsing).calendar.held[0] = false ∧
    (ran (.dropHoliday 0 ⟨2024, 3, 12⟩) listed).calendar.held[0] = false ∧ lapsing.plant.numbered := by decide +kernel

theorem witness_ParkTimersExpire :
    (bench []).inReset = false ∧
    (bench [parking .press .declutching]).load? 1 = some (parking .press .declutching) ∧
    (bench [parking .press .coasting]).load? 1 = some (parking .press .coasting) ∧
    (bench [parking .compressor (.unloading .dwell)]).load? 1 = some (parking .compressor (.unloading .dwell)) ∧
    (parking .press .coasting).timer ≠ none := by decide +kernel

theorem witness_SettleTimerExpires :
    (bench [settling]).inReset = false ∧ (bench [settling]).plant.sound ∧ (bench [settling]).load? 1 = some settling ∧
    settling.state = .waking .settling ∧ settling.timer ≠ none ∧ ((bench [settling]).station 0).link = .live ∧
    ((bench [settling]).plant.feeder 0).queue = [] ∧
    ((bench [settling]).setStation 0 (fun st => { st with link := .lost })).plant.sound := by decide +kernel

theorem witness_RoundsStart :
    (bench []).ready ∧ (bench []).sweep.mode = .stopped ∧ (bench []).sweep.pendingLast = none ∧ pausing.ready ∧
    pausing.sweep.mode = .continuous ∧ pausing.sweep.line = .pausing ∧ pausing.sweep.stopRequested = false ∧
    1 = SweepMode.continuous.code ∧ 2 = SweepMode.single.code ∧
    (pausing.setSweep (fun w => { w with mode := .single })).sweep.mode = .single := by decide

/-- S1's visit is over, and S2 is to be visited in the same round. -/
def twoStations : State :=
  ((visiting .over []).onPlant (Plant.setStation 1 (fun _ => stationOne))).setSweep
    (fun w => { w with lastStation := 40, pause := 50 })

theorem witness_SlotsAndRoundsEnd :
    (visiting .over []).inReset = false ∧ twoStations.nextVisit 1 = some 1 ∧
    (∃ v, twoStations.sweep.line = .slot v ∧ v.phase = .over ∧ v.station.val + 1 = 1) ∧
    (∀ j : StationId, (0 : StationId) < j → (visiting .over []).isVisited j = false) ∧ 0 < twoStations.sweep.pause ∧
    (pausing.setSweep (fun w => { w with mode := .single })).sweep.line = .pausing ∧
    (bench []).sweep.line = .idle := by
  exact ⟨rfl, by decide +kernel, ⟨_, rfl, by decide, by decide⟩, by decide +kernel, by decide, rfl, rfl⟩

theorem witness_SlotsAndRoundsEnd_openVisit :
    ((visiting .receiving []).visit?).map Visit.phase = some .receiving ∧
    ((visiting .sending []).visit?).map Visit.phase = some .sending ∧ (visiting .over []).sweep.pause = 0 := by decide

theorem witness_MissesMoveTheLinkState :
    (visiting .listening []).inReset = false ∧ ((visiting .listening []).station 0).link ≠ .excluded ∧
    (∃ v, (visiting .listening []).visit? = some v ∧ v.phase = .listening ∧ parseReply v [] = none) ∧
    ((visiting .receiving []).visit?).map Visit.phase = some .receiving := by
  exact ⟨rfl, by decide, ⟨_, rfl, by decide, by decide +kernel⟩, by decide⟩

/-- S1 has missed two visits, and its next is under way; a load of it is queued, one WAKING and one IDLING. -/
def losing : State :=
  (visiting .listening [load 1 .press 0 .wakeQueued, { settling with num := 2, cfg := config .auxiliary 1 },
    { almostIdle with num := 3, cfg := config .press 2 }]).setStation 0
    (fun st => { st with link := .suspect, misses := 2 })

theorem witness_LossMovesTheLoads :
    losing.inReset = false ∧ (losing.visit?).map (fun v => (v.station, v.phase)) = some (0, .listening) ∧
    losing.plant.sound ∧ losing.plant.placed ∧ (losing.station 0).link = .suspect ∧ 2 ≤ (losing.station 0).misses := by
  decide +kernel

theorem witness_LossMovesTheLoads_otherMisses :
    parseReply { station := 0, kind := .routine, order := none, fitted := 4, notedMark := false, inquiryReplaced := false,
                 phase := .listening } [0x5A] = none ∧
    losing.alerts.enabled = false ∧ (load 1 .press 0 .wakeQueued).afterLoss.state = .offline := by decide +kernel

/-- S1, LIVE with a queued, a WAKING and an IDLING load, has been disabled. -/
def parting : State :=
  (bench [load 1 .press 0 .wakeQueued, { settling with num := 2, cfg := config .auxiliary 1 },
    { almostIdle with num := 3, cfg := config .press 2 }]).setStation 0 (fun st => { st with enabled := false })

theorem witness_LossMovesTheLoads_exclusion :
    parting.inReset = false ∧ parting.plant.sound ∧ parting.plant.placed ∧ parting.link.reply = none ∧
    parting.sweep.mode = .stopped ∧ parting.sweep.pendingLast = none ∧ (parting.station 0).link ≠ .excluded ∧
    (parting.station 0).enabled = false ∧ pausing.sweep.line = .pausing ∧ pausing.sweep.mode = .continuous ∧
    pausing.sweep.stopRequested = false ∧ pausing.plant.sound ∧ pausing.plant.placed ∧
    (pausing.station 1).link ≠ .excluded := by decide +kernel

theorem witness_ValidReplyMakesTheStationLive :
    (visiting .listening []).inReset = false ∧
    ∃ v, (visiting .listening []).sweep.line = .slot v ∧ v.phase = .listening ∧ ∃ r, parseReply v quietReply = some r :=
  ⟨rfl, _, rfl, by decide, Option.isSome_iff_exists.mp (by decide +kernel)⟩

/-- The reply to an HOURS visit of S1 with one channel fitted, with its restart flag set. -/
theorem witness_ValidReplyMakesTheStationLive_inquiry :
    (parseReply { station := 0, kind := .hours, order := none, fitted := 1, notedMark := false, inquiryReplaced := false,
                  phase := .listening } (fieldFrame [1, 17, 0, 0x01, 0x2C])).map
      (fun r => (r.restart, r.results)) = some (true, .hours [300]) := by decide +kernel

/-- A report of a running machine. -/
def runningReport : Report :=
  { run := .running, call := false, lockout := false, safeStop := true, speedLow := false, unloaded := false,
    sample := some 1300, strokes := some 0 }

theorem witness_RunningReportIsAssessed :
    (bench [load 1 .press 0 .active]).plant.sound ∧
    (bench [load 1 .press 0 .active]).load? 1 = some (load 1 .press 0 .active) ∧ (load 1 .press 0 .active).idle = false ∧
    (bench [almostIdle]).plant.sound ∧ almostIdle.state = .idling ∧ almostIdle.idle = true ∧
    runningReport.run ≠ .stopped ∧ runningReport.sample = some 1300 ∧ runningReport.strokes = some 0 := by decide +kernel

/-- A load of any kind in any state on a sound plant of its own. -/
theorem witness_RunningReportIsAssessed_states (state : LoadState) :
    (bench [load 1 .press 0 state]).plant.sound ∧
    (bench [load 1 .press 0 state]).load? 1 = some (load 1 .press 0 state) ∧ (load 1 .press 0 state).manual = false ∧
    { runningReport with strokes := some 1 }.strokes = some 1 ∧ { runningReport with run := .stopped }.run = .stopped := by
  cases state with
  | parking p => cases p with
    | unloading u => cases u <;> decide +kernel
    | _ => decide +kernel
  | waking w => cases w <;> decide +kernel
  | _ => decide +kernel

/-- A fan of zone 1 in STOPPED, with a load of the zone that awaits it. -/
theorem witness_RunningReportIsAssessed_fan :
    let s := bench [{ load 1 .fan 0 .stopped with cfg := { config .fan 0 with zone := 1 } },
      { load 2 .press 1 .wakeQueued with cfg := { config .press 1 with zone := 1 }, awaitingFan := true }]
    s.plant.sound ∧ (s.load? 1).map (fun l => (l.cfg.kind, l.cfg.zone, l.state)) = some (.fan, 1, .stopped) ∧
    (s.load? 2).map (fun l => (l.state, l.awaitingFan)) = some (.wakeQueued, true) := by decide +kernel

theorem witness_EchoesActOnTheirLoad :
    (bench []).plant.stations[0].slot = none ∧ busyPlant.plant.sound ∧
    (busyPlant.station 0).slot = some { channel := 0, kind := .declutch } ∧
    (busyPlant.plant.loadAt? 0 0).map Load.num = some 1 := by decide +kernel

/-- Loads on S1 with an order of channel 3, or another, in the slot. -/
def slotHolds (c : Channel) (kind : OrderKind) (loads : List Load) : State :=
  (bench loads).setStation 0 (fun st => { st with slot := some { channel := c, kind }, lastServed := c })

/-- A load in STOPPING whose MOTOR OFF is due. -/
def stopping (n : Nat) (c : Channel) : Load :=
  { load n .auxiliary c (.parking .stopping) with due := some .motorOff, timer := some { limit := 30, elapsed := 0 } }

/-- The order of channel 3, last served, is in the slot, and those of channels 0 and 1 wait in turn. -/
theorem witness_EchoesActOnTheirLoad_turns :
    let s := slotHolds 3 .motorOff [stopping 1 3, stopping 2 1, stopping 3 0]
    s.plant.sound ∧ (s.plant.loadAt? 0 3).map Load.num = some 1 ∧
    (s.plant.loadAt? 0 0).map Load.due = some (some .motorOff) ∧ (0 : Channel).val = (3 + 1 + 0) % 4 ∧
    (s.plant.loadAt? 0 1).map Load.due = some (some .motorOff) ∧ (1 : Channel).val = (3 + 1 + 1) % 4 ∧
    ((s.takeEcho 0 ⟨3, .motorOff, false⟩).station 0).slot = some { channel := 0, kind := .motorOff } := by decide +kernel

/-- No other order waits; and REFUSED brings a WAKING load's units back to a queue whose oldest load is of the station. -/
theorem witness_EchoesActOnTheirLoad_refused :
    let alone := slotHolds 3 .motorOff [stopping 1 3]
    let s := slotHolds 0 .motorOn
      [{ settling with state := .waking .ordered, due := some .motorOn }, load 2 .auxiliary 2 .wakeQueued]
    (alone.plant.sound ∧ alone.plant.loadAt? 0 0 = none ∧ alone.plant.loadAt? 0 1 = none ∧
      alone.plant.loadAt? 0 2 = none) ∧
    s.plant.sound ∧ (s.load? 1).map (fun l => (l.isWaking, l.cfg.feeder)) = some (true, 0) ∧
    (s.plant.feeder 0).spacingTimer = none ∧ 0 < (s.plant.feeder 0).spacing ∧ (s.plant.feeder 0).queue = [⟨2, 0⟩] ∧
    (s.load? 2).map (fun x => (x.cfg.station, x.cfg.demand)) = some (0, 6) ∧ (s.station 0).link = .live ∧
    6 ≤ (s.plant.feeder 0).free + 6 := by decide +kernel

theorem witness_EchoesActOnTheirLoad_reports (step : ParkStep) (wakeDue : Bool) :
    (bench [{ parking .compressor step with wakeDue }]).plant.sound ∧
    (bench [{ parking .compressor step with wakeDue }]).load? 1 = some { parking .compressor step with wakeDue } ∧
    (bench [settling]).plant.sound ∧ ((bench [settling]).plant.feeder 0).queue = [] ∧
    { runningReport with speedLow := true }.speedLow = true ∧ { runningReport with unloaded := true }.unloaded = true ∧
    runningReport.unloaded = false := by
  cases step with
  | unloading u => cases u <;> cases wakeDue <;> decide +kernel
  | _ => cases wakeDue <;> decide +kernel

theorem witness_EchoesActOnTheirLoad_edges :
    (bench [load 1 .press 0 .parked]).plant.sound ∧
    (bench [{ load 1 .press 0 .offline with parkOwned := true }]).plant.sound ∧
    { runningReport with call := true }.call = true ∧ runningReport.call = false ∧
    { runningReport with lockout := true }.lockout = true ∧ runningReport.lockout = false := by decide +kernel

/-- A PARK_PENDING load by request, with PERMIT and its machine's gate open. -/
def gateOpen (kind : LoadKind) : State :=
  { bench [{ load 1 kind 0 .parkPending with manual := true, latest := { safeStop := true, speedLow := false, unloaded := false } }] with
    assent := { Assent.reset with state := .awaitChallenge 0, trust := 11, permit := true } }

theorem witness_GateCheckEntersParking (kind : LoadKind) :
    ∃ l, (gateOpen kind).load? 1 = some l ∧ l.state = .parkPending ∧ (gateOpen kind).assent.permit = true ∧
      l.manual = true ∧ ((gateOpen kind).station l.cfg.station).link = .live ∧ l.latest.safeStop = true ∧
      l.cfg.airGroup = none ∧ l.cfg.zone = 0 ∧ l.hold = { byCall := false, byHost := false, byLockout := false } ∧
      (bench [l]).load? 1 = some l ∧ (bench [l]).assent.permit = false := by
  refine ⟨_, rfl, ?_⟩
  cases kind <;> decide +kernel

theorem witness_AdoptionFollowsItsTable :
    (bench [{ load 1 .press 0 .offline with parkOwned := true, wakeDue := true }]).plant.sound ∧
    ((bench [{ load 1 .press 0 .offline with parkOwned := true, wakeDue := true }]).load? 1).map Load.state =
      some .offline := by decide +kernel

theorem witness_AdoptionFollowsItsTable_restart :
    busyPlant.plant.sound ∧ busyPlant.plant.placed ∧ (busyPlant.station 0).restartNoted = false ∧
    (busyPlant.load? 1).map (fun l => (l.cfg.station, l.isParking)) = some (0, true) ∧
    (busyPlant.load? 3).map (fun l => (l.cfg.station, l.isWaking)) = some (0, true) ∧
    (bench [parking .press .coasting]).plant.sound ∧ (bench [parking .press .coasting]).plant.placed ∧
    (bench [parking .press .coasting]).plant.loads.all (fun l => !l.isWaking) = true ∧
    ((bench []).setStation 0 (fun st => { st with restartNoted := true })).plant.stations[0].restartNoted = true ∧
    (bench [{ load 1 .press 0 .offline with parkOwned := true }]).plant.sound ∧
    { runningReport with run := .stopped }.run = .stopped := by decide +kernel

theorem witness_SlotPhasesFollowTheLine :
    (visiting .sending []).inReset = false ∧ ((visiting .sending []).visit?).map Visit.phase = some .sending ∧
    ((visiting .listening []).visit?).map Visit.phase = some .listening ∧ (bench []).visit? = none := by decide

theorem witness_CharactersMoveTheDeframer :
    (deframing .hunting).inReset = false ∧ (deframing .hunting).link.deframer = .hunting ∧
    (deframing .expectLength).link.deframer = .expectLength ∧ 2 ≤ (2 : Byte).toNat ∧ (124 : Byte).toNat ≤ 124 ∧
    (1 : Byte).toNat < 2 ∧ 124 < (125 : Byte).toNat ∧
    (deframing (.body 2 [33, 9])).link.deframer = .body 2 [33, 9] ∧ [33, 9].length + 1 < (2 : Byte).toNat + 2 := by decide

/-- The frame of IDENTIFY, one character short, with the link port in a state. -/
def frameShort (check : List Byte) (buffer : List Frame) (reply : Option ReplyInProgress) : State :=
  { bench [] with link := { deframer := .body 2 (33 :: 9 :: [] ++ check), buffer, reply, errors := 0 } }

theorem witness_FrameCompleteJudgesTheFrame :
    ∃ first second : Byte, [first] ++ [second] = crcBytes ((2 : Byte) :: 33 :: 9 :: []) ∧
      [first] ++ [second + 1] ≠ crcBytes ((2 : Byte) :: 33 :: 9 :: []) ∧ ([] : List Byte).length + 2 = (2 : Byte).toNat ∧
      (frameShort [first] [] none).inReset = false ∧
      (frameShort [first] [] none).link.deframer = .body 2 (33 :: 9 :: [] ++ [first]) ∧
      (frameShort [first] [] none).link.buffer = [] ∧
      2 ≤ (frameShort [first] replying.link.buffer replying.link.reply).link.buffer.length ∧
      (frameShort [first] (replying.link.buffer.take 1) replying.link.reply).link.buffer.length < 2 ∧
      replying.link.reply ≠ none :=
  ⟨(crcBytes [2, 33, 9]).getD 0 0, (crcBytes [2, 33, 9]).getD 1 0, by decide +kernel⟩

theorem witness_WireRoundTrip :
    ({ kind := 33, tag := 9, payload := List.replicate 122 0 } : Frame).payload.length ≤ 122 ∧
    (bench []).inReset = false ∧ (bench []).link.deframer = .hunting ∧ (bench []).pins = (bench []).pinLevels := by
  decide +kernel

theorem witness_RequestRowsAreTheirFrames :
    (Instr.bindLoad 3 96 (fields 1 2)).wellFormed = true ∧
    requestFrame? (.bindLoad 3 96 (fields 1 2)) = some { kind := 5, tag := 3, payload := 96 :: (fields 1 2).bytes } ∧
    (Instr.unknownRequest 35 1 (List.replicate 122 0)).wellFormed = true ∧
    (Instr.unknownRequest 0 1 []).wellFormed = true := by decide +kernel

theorem witness_ReplySentTakesTheNext :
    replying.inReset = false ∧ (bench []).link.reply = none ∧
    replying.link.reply = some { request := { kind := 33, tag := 1, payload := [] }
                                 reply := { kind := 33, tag := 1, payload := [0] } } ∧
    Frame.isRestart { kind := 33, tag := 1, payload := [] } = false ∧
    replying.link.buffer = [{ kind := 33, tag := 1, payload := [] }, { kind := 28, tag := 2, payload := [0] }] ∧
    (ran (.softRestart 4) (bench [])).link.buffer = [{ kind := 34, tag := 4, payload := [] }] ∧
    (ran (.softRestart 4) (bench [])).link.reply ≠ none ∧
    Frame.isRestart { kind := 34, tag := 4, payload := [] } = true := by decide +kernel

theorem witness_RequestsAreCheckedInOrder :
    (bench []).ready ∧ (Instr.unknownRequest 35 0 []).wellFormed = true ∧ (Instr.unknownRequest 255 0 []).wellFormed = true ∧
    payloadLength? (25 : Byte).toNat = some 0 ∧ ([1] : List Byte).length ≠ 0 ∧ (bench []).load? 1 = none ∧
    (bench []).load? 96 = none := by decide +kernel

/-- A part with the reply to a SOFT RESTART in progress, for the clauses on the restart of O38, O45 and O53. -/
theorem witness_restarting : (ran (.softRestart 4) (bench [])).restarting := by decide +kernel

theorem witness_GroupsAndCurvesAreSet :
    (bench []).ready ∧ ¬(1 ≤ 0 ∧ 0 ≤ 4 ∧ 8 ≤ 8) ∧ ¬(1 ≤ 4 ∧ 4 ≤ 4 ∧ 9 ≤ 8) ∧ 1000 < ({ straightLine with k7 := 1001 }).knot 7 ∧
    ∀ j : Nat, 1 ≤ j → j ≤ 7 → ({ straightLine with k7 := 1000 }).knot j ≤ 1000 := by
  refine ⟨by decide, by decide, by decide, by decide, fun j h1 h2 => ?_⟩
  interval_cases j <;> decide

theorem witness_FeederIsSet :
    (bench [settling]).ready ∧ (∃ l ∈ (bench [settling]).plant.loads, l.cfg.feeder = 0 ∧ ∃ w, l.state = .waking w) ∧
    (∀ l ∈ (bench [almostIdle]).plant.loads, l.cfg.feeder = 0 → l.isWaking = false) ∧
    (∃ l ∈ (bench [almostIdle]).plant.loads, l.cfg.feeder = 0 ∧ 5 < l.cfg.demand) ∧
    (∀ l ∈ (bench [almostIdle]).plant.loads, l.cfg.feeder = 0 → l.cfg.demand ≤ 6) :=
  ⟨by decide, ⟨_, List.mem_cons_self, rfl, _, rfl⟩, by decide +kernel, by decide +kernel, by decide +kernel⟩

theorem witness_StationsAndInquiriesAreSet :
    (bench [load 1 .press 3 .active]).ready ∧
    (∃ l ∈ (bench [load 1 .press 3 .active]).plant.loads, l.cfg.station = 0 ∧ 3 ≤ l.cfg.channel.val) ∧
    (∀ l ∈ (bench [load 1 .press 3 .active]).plant.loads, l.cfg.station = 0 → l.cfg.channel.val < 4) := by
  decide +kernel

theorem witness_BindingIsCheckedAndBinds :
    (bench [settling]).ready ∧ (fields 3 0).config? = some (config .auxiliary 0) ∧
    ({ fields 3 0 with coastLimit := 120 } : BindFields).config? = none ∧
    (bench [settling]).load? 1 = some settling ∧ settling.state = .waking .settling ∧
    (bench [settling]).plant.loads.any (fun x => x.num != 96 && x.cfg.station == 0 && x.cfg.channel == 0) = true ∧
    (bench []).plant.sound ∧ (bench []).load? 96 = none ∧ (bench []).plant.loads = [] ∧
    (config .auxiliary 0).channel.val < ((bench []).station 0).fitted ∧
    (config .auxiliary 0).demand ≤ ((bench []).plant.feeder 0).capacity := by decide +kernel

/-- Fields at the lower and at the upper ends of their ranges. -/
theorem witness_BindingIsCheckedAndBinds_ranges :
    ({ station := 1, channel := 0, kind := 1, feeder := 1, demand := 1, zone := 0, airGroup := 0, curve := 1, restFloor := 0,
       noiseBand := 0, weight := 1, idleThreshold := 0, busyThreshold := 1, idleDwell := 60, profile := 0, wakeAtClose := 0,
       wakeRank := 1, fallback := 0, stepLimit := 10, coastLimit := 0, unloadDwell := 60, minimumOff := 0, settleLimit := 5,
       adoptParked := 0, events := 0 } : BindFields).config? ≠ none ∧
    ({ station := 40, channel := 3, kind := 0, feeder := 4, demand := 30, zone := 12, airGroup := 0, curve := 8,
       restFloor := 1000, noiseBand := 63, weight := 16, idleThreshold := 999, busyThreshold := 1000, idleDwell := 14400,
       profile := 4, wakeAtClose := 1, wakeRank := 255, fallback := 1, stepLimit := 600, coastLimit := 600, unloadDwell := 0,
       minimumOff := 0, settleLimit := 255, adoptParked := 1, events := 511 } : BindFields).config? ≠ none := by
  decide +kernel

theorem witness_RebindingAndUnbinding :
    (bench [almostIdle]).ready ∧ (bench [almostIdle]).plant.sound ∧ (bench [almostIdle]).load? 1 = some almostIdle ∧
    almostIdle.state = .idling ∧ (fields 0 0).config? = some (config .press 0) ∧
    (fields 0 1).config? = some (config .press 1) ∧
    (∀ x ∈ (bench [almostIdle]).plant.loads, x.num ≠ 1 → ¬(x.cfg.station = 0 ∧ x.cfg.channel = 1)) ∧
    (config .press 1).channel.val < ((bench [almostIdle]).station 0).fitted ∧
    (config .press 1).demand ≤ ((bench [almostIdle]).plant.feeder 0).capacity ∧ (bench [settling]).ready ∧
    (bench [settling]).plant.sound ∧ (bench [settling]).load? 1 = some settling := by decide +kernel

theorem witness_ProfileDayIsSet : (bench []).ready ∧ ¬(1 ≤ 4 ∧ 4 ≤ 4 ∧ 1 ≤ 8 ∧ 8 ≤ 7) ∧
    (ran (.setProfileDay 0 4 7 8) (bench [])).calendar.values = (bench []).calendar.held := by decide +kernel

/-- A list of sixteen holidays. -/
def fullList : State :=
  { bench [] with calendar := { (bench []).calendar with
      holidays := (List.range 16).map (fun d => { date := ⟨2024, 5, d + 1⟩, rule := .allClosed }) } }

theorem witness_HolidaysAreSetAndDropped :
    fullList.ready ∧ fullList.calendar.listSound ∧ 16 ≤ fullList.calendar.holidays.length ∧
    (∀ h ∈ fullList.calendar.holidays, h.date ≠ ⟨2024, 6, 1⟩) ∧ (⟨2024, 6, 1⟩ : Date).valid = true ∧
    (∃ h ∈ fullList.calendar.holidays, h.date = ⟨2024, 5, 16⟩) ∧ (⟨2024, 2, 30⟩ : Date).valid = false ∧
    DayRule.ofCode? 8 = some .allClosed ∧ withHolidays.calendar.listSound ∧ withHolidays.calendar.holidays.length < 16 ∧
    (⟨2024, 3, 12⟩ : Date).valid = true ∧ withHolidays.calendar.clock.map Clock.date = some ⟨2024, 3, 12⟩ := by
  decide +kernel

theorem witness_AssentParametersAreSet :
    (bench []).ready ∧ (bench []).assent.state = .dormant ∧ (monitored (.awaitAnswer 0) 6 4660 false).ready ∧
    (monitored (.awaitAnswer 0) 6 4660 false).assent.state = .awaitAnswer 0 ∧ assentFields.params?.isSome = true ∧
    ({ assentFields with highThreshold := 4 } : AssentFields).params? = none := by decide

theorem witness_AlertSettingsAreSet : (bench []).ready ∧ ¬(2 ≤ 1 ∧ 1 ≤ 8) ∧ 1 ≤ 8 ∧ 8 ≤ 8 := by decide

/-- A load event that is enabled, one that is not, and a waiting notice that one merges into. -/
theorem witness_AlertSettingsAreSet_notices :
    let on := { bench [{ load 1 .press 0 .active with cfg := { config .press 0 with events := 1 } }] with
      alerts := { Alerts.reset with enabled := true, stationSet := 15, deviceSet := 255 } }
    (on.load? 1).map (fun l => (l.cfg.events.getLsbD LoadEvent.parked.bit, l.cfg.events.getLsbD LoadEvent.woken.bit)) =
      some (true, false) ∧ on.alerts.enabled = true ∧ (bench []).alerts.enabled = false ∧
    noticed.alerts.queue = [] ++ { source := .device, kinds := 1, time := none, opened := 1, closed := 0 } ::
      [{ source := .load 3, kinds := 8, time := none, opened := 0, closed := 0 }] := by decide +kernel

theorem witness_SweepIsConfiguredAndStopped :
    (bench []).ready ∧ (bench []).sweep.mode = .stopped ∧ pausing.ready ∧ pausing.sweep.mode ≠ .stopped := by decide

theorem witness_ClockIsSet : (bench []).ready ∧ (⟨2024, 2, 29⟩ : Date).valid = true ∧ (⟨2025, 2, 29⟩ : Date).valid = false := by
  decide

theorem witness_HoldsAndParkingRequests (state : LoadState) :
    (bench [load 1 .press 0 state]).ready ∧ (bench [load 1 .press 0 state]).load? 1 = some (load 1 .press 0 state) ∧
    (bench [load 1 .press 0 .parkPending]).plant.sound :=
  ⟨⟨rfl, rfl⟩, rfl, by decide +kernel⟩

/-- A PARKED load of zone 1, whose only fan is FAULTED. -/
def bay : State :=
  bench [{ load 1 .press 0 .parked with cfg := { config .press 0 with zone := 1 } },
    { load 2 .fan 1 .faulted with cfg := { config .fan 1 with zone := 1 } },
    parking .press .coasting |> fun l => { l with num := 3, cfg := config .press 2 },
    { load 96 .auxiliary 3 .wakeQueued with awaitingFan := true }]

theorem witness_WakeNowActsByTheState :
    bay.ready ∧ bay.plant.sound ∧ (bay.load? 1).map (fun l => (l.state, l.cfg.zone)) = some (.parked, 1) ∧
    (bay.load? 2).map (fun l => (l.state, l.cfg.kind, l.cfg.zone)) = some (.faulted, .fan, 1) ∧
    (bay.load? 3).map Load.state = some (.parking .coasting) ∧ (bay.load? 96).map Load.state = some .wakeQueued ∧
    (∀ f ∈ bay.plant.loads, f.cfg.kind = .fan → f.cfg.zone = 1 →
      f.state ≠ .active ∧ f.state ≠ .idling ∧ f.state ≠ .parkPending) := by decide +kernel

/-- A PARKED load of zone 1 on F1, whose spacing timer runs, and the fans of the zone: two PARKED, the later-numbered one of
lower wake rank, one in PARKING, and one OFFLINE without park-owned. -/
def fanned : State :=
  (bench [{ load 1 .press 0 .parked with cfg := { config .press 0 with zone := 1 } },
    { load 2 .fan 1 .parked with cfg := { config .fan 1 with zone := 1, wakeRank := 20 } },
    { load 3 .fan 2 .parked with cfg := { config .fan 2 with zone := 1 } },
    { load 4 .fan 3 (.parking .stopping) with cfg := { config .fan 3 with zone := 1 } },
    { load 5 .fan 0 .offline with cfg := { config .fan 0 with zone := 1, station := 1 } }]).onPlant
    (Plant.setFeeder 0 (fun f => { f with spacingTimer := some { limit := 5, elapsed := 0 } }))

/-- The join of a load that awaits a fan wakes the fans of its zone, F1's queue taking them in ascending rank (R69, R76). -/
theorem witness_WakeNowActsByTheState_fans :
    fanned.ready ∧ fanned.plant.sound ∧ (fanned.plant.feeder 0).spacingTimer ≠ none ∧
    (fanned.load? 1).map (fun l => (l.state, l.cfg.zone)) = some (.parked, 1) ∧
    (∀ f ∈ fanned.plant.loads, f.cfg.kind = .fan → f.cfg.zone = 1 →
      f.state ≠ .active ∧ f.state ≠ .idling ∧ f.state ≠ .parkPending) ∧
    ((ran (.wakeNow 0 1 0) fanned).plant.feeder 0).queue = [⟨1, 0⟩, ⟨3, 0⟩, ⟨2, 0⟩] ∧
    ((ran (.wakeNow 0 1 0) fanned).load? 4).map Load.wakeDue = some true := by decide +kernel

theorem witness_WakesAndFaultsAreCancelled :
    bay.ready ∧ (bay.load? 96).map Load.state = some .wakeQueued ∧ (bay.load? 2).map Load.state = some .faulted := by
  decide +kernel

theorem witness_ChallengesAreJudged : (bench []).ready ∧ (monitored (.awaitChallenge 228) 8 25627 true).ready ∧
    (monitored .lapsed 0 25627 false).ready := by decide

theorem witness_AnswersAreJudged :
    (monitored (.awaitAnswer 7) 6 4660 false).ready ∧
    (monitored (.awaitAnswer 7) 6 4660 false).assent.state = .awaitAnswer 7 ∧
    (monitored (.awaitAnswer 48) 6 4660 false).assent.state = .awaitAnswer 48 ∧
    (monitored (.awaitChallenge 0) 6 4660 false).assent.state = .awaitChallenge 0 ∧ (bench []).assent.state = .dormant := by
  decide

/-- A full table: every one of the 96 loads is bound. -/
def fullTable : State :=
  bench ((List.range 96).map (fun k =>
    { load (k + 1) .auxiliary 0 .active with
      cfg := { config .auxiliary 0 with station := Fin.ofNat 40 (k / 4), channel := Fin.ofNat 4 k } }))

theorem witness_LoadsAreReadInPages :
    fullTable.ready ∧ 20 * 4 < fullTable.plant.loads.length ∧ fullTable.plant.numbered ∧
    (bench []).plant.loads.length ≤ 20 * 1 := by decide +kernel

theorem witness_ReadsAndIdentifyChangeNothing :
    fullTable.ready ∧ (fullTable.load? 96).isSome = true ∧ (bench []).ready := by decide +kernel

/-- Every one of the 96 loads is in the queue of F1, so page 5 has its 16 items. -/
theorem witness_ReadsAndIdentifyChangeNothing_pages :
    let full := bench (fullTable.plant.loads.map (fun l => { l with state := .wakeQueued }))
    full.ready ∧ 16 * 5 < (full.plant.feeder 0).queue.length ∧ ((bench []).plant.feeder 0).queue.length ≤ 16 * 1 := by
  decide +kernel

theorem witness_StatusAndNoticesAreRead :
    noticed.ready ∧ noticed.alerts.queue = [{ source := .device, kinds := 1, time := none, opened := 1, closed := 0 },
      { source := .load 3, kinds := 8, time := none, opened := 0, closed := 0 }] ∧ (bench []).alerts.queue = [] := by decide

theorem witness_SoftRestartOfThePlant : busyPlant.ready ∧ busyPlant.inReset = false := by decide

theorem witness_SoftRestartOfTheRest : pausing.inReset = false := rfl

theorem witness_LevelInterpolatesTheCurve : (∀ j : Nat, 1 ≤ j → j ≤ 7 → curveThree.knot j ≤ 1000) ∧ 4095 < 4096 := by
  refine ⟨fun j h1 h2 => ?_, by decide⟩
  interval_cases j <;> decide

theorem witness_CoringAndSmoothing : 1000 ≤ 1000 ∧ 16000 ≤ 16000 ∧ 1 ≤ 16 := by decide

end Sys2Proof.Tests
end

section
/-!
PROOFS. The arithmetic of a sample (R31 to R33): the level interpolates its curve, coring subtracts, smoothing moves A16
towards sixteen times the sample activity by a rounded sixteenth part.
-/

namespace Sys2Proof.Machine

/-- A whole number of parts, 0 to n, of a difference lies between 0 and n parts of it. -/
theorem parts_between {d c n : Int} (h0 : 0 ≤ c) (hn : c ≤ n) : min 0 (d * n) ≤ d * c ∧ d * c ≤ max 0 (d * n) := by
  rcases le_total 0 d with hd | hd
  · exact ⟨min_le_of_left_le (mul_nonneg hd h0), le_max_of_le_right (mul_le_mul_of_nonneg_left hn hd)⟩
  · exact ⟨min_le_of_right_le (mul_le_mul_of_nonpos_left hn hd),
      le_max_of_le_left (mul_nonpos_of_nonpos_of_nonneg hd h0)⟩

/-! ## The level (R31) -/

/-- K0 and K8 are fixed within 0 to 1000, so a curve with K1 to K7 in range has every knot in range. -/
theorem Knots.knot_le {k : Knots} (h : ∀ j : Nat, 1 ≤ j → j ≤ 7 → k.knot j ≤ 1000) (j : Nat) : k.knot j ≤ 1000 := by
  rcases Nat.eq_zero_or_pos j with rfl | hpos
  · exact Nat.zero_le _
  · rcases Nat.lt_or_ge 7 j with hj | hj
    · obtain ⟨i, rfl⟩ := Nat.exists_eq_add_of_le' hj
      exact le_rfl
    · exact h j hpos hj

/-- The P of R31: the rise of the span that holds the raw sample, times the place of the sample in the span. -/
def Knots.rise (k : Knots) (raw : Nat) : Int :=
  ((k.knot (raw / 512 + 1) : Int) - k.knot (raw / 512)) * (raw - 512 * (raw / 512) : Nat)

/-- Less than a whole span is climbed, and rounding does not pass its ends. -/
theorem Knots.rise_rounded_between (k : Knots) (raw : Nat) :
    min 0 ((k.knot (raw / 512 + 1) : Int) - k.knot (raw / 512)) ≤ (k.rise raw + 256) / 512 ∧
    (k.rise raw + 256) / 512 ≤ max 0 ((k.knot (raw / 512 + 1) : Int) - k.knot (raw / 512)) := by
  have hplace : ((raw - 512 * (raw / 512) : Nat) : Int) ≤ 511 := by omega
  have hrise := parts_between (d := (k.knot (raw / 512 + 1) : Int) - k.knot (raw / 512)) (Int.natCast_nonneg _) hplace
  rw [← Knots.rise] at hrise
  omega

/-- The level is the knot below plus the rounded rise: the sum is never negative, so none of it is cut off. -/
theorem level_eq (k : Knots) (raw : Nat) :
    (level k raw : Int) = k.knot (raw / 512) + (k.rise raw + 256) / 512 := by
  have hbetween := k.rise_rounded_between raw
  have hplace : ((raw - 512 * (raw / 512) : Nat) : Int) = raw - 512 * (raw / 512 : Nat) := by omega
  have hlevel : level k raw = ((k.knot (raw / 512) : Int) + (k.rise raw + 256) / 512).toNat := by
    rw [Knots.rise, hplace]; rfl
  rw [hlevel]
  omega

/-- At the lower end of a span nothing is climbed. -/
theorem Knots.rise_at_knot (k : Knots) {raw : Nat} (h : raw = 512 * (raw / 512)) : k.rise raw = 0 := by
  rw [Knots.rise, Nat.sub_eq_zero_of_le h.le]
  exact mul_zero _

/-- Settles O59: the level is K(s) plus the rounded rise, which stays inside the span. -/
theorem levelInterpolatesTheCurve : Obligations.LevelInterpolatesTheCurve := by
  intro k raw hk _
  change (level k raw : Int) = k.knot (raw / 512) + ⌊((k.rise raw + 256 : Int) : ℚ) / 512⌋ ∧ _
  have hfloor : ⌊((k.rise raw + 256 : Int) : ℚ) / 512⌋ = (k.rise raw + 256) / 512 :=
    Rat.floor_intCast_div_natCast _ 512
  have hlevel := level_eq k raw
  have hbetween := k.rise_rounded_between raw
  have hlow := Knots.knot_le hk (raw / 512)
  have hhigh := Knots.knot_le hk (raw / 512 + 1)
  refine ⟨by rw [hfloor, hlevel], by omega, by omega, by omega, ?_, ?_, fun hknot => ?_⟩
  · change _ ≤ k.rise raw + 256
    omega
  · change k.rise raw + 256 < _
    omega
  · have hzero := k.rise_at_knot hknot
    omega

/-! ## Coring (R32) -/

theorem sampleActivity_of_le {floor band lvl : Nat} (h : lvl ≤ floor + band) : sampleActivity floor band lvl = 0 :=
  Nat.sub_eq_zero_of_le h

theorem sampleActivity_eq (floor band lvl : Nat) : sampleActivity floor band lvl = lvl - floor - band :=
  Nat.sub_add_eq lvl floor band

theorem sampleActivity_le (floor band lvl : Nat) : sampleActivity floor band lvl ≤ lvl := Nat.sub_le _ _

/-! ## Smoothing (R33) -/

/-- The rounded sixteenth is a nearest whole number, and of two equally near ones the one farther from zero. -/
theorem roundSixteenth_nearest (x : Int) :
    2 * |16 * roundSixteenth x - x| ≤ 16 ∧ (2 * |16 * roundSixteenth x - x| = 16 → |x| < |16 * roundSixteenth x|) := by
  unfold roundSixteenth
  split <;> simp only [abs_eq_max_neg] <;> omega

/-- Of 0 to 16 sixteenths of a difference, the rounded value lies between 0 and the difference. -/
theorem roundSixteenth_between {d w : Int} (h0 : 0 ≤ w) (h16 : w ≤ 16) :
    min 0 d ≤ roundSixteenth (d * w) ∧ roundSixteenth (d * w) ≤ max 0 d := by
  have hparts := parts_between (d := d) h0 h16
  unfold roundSixteenth
  split <;> omega

theorem roundSixteenth_mul_sixteen (d : Int) : roundSixteenth (d * 16) = d := by
  unfold roundSixteenth
  split <;> omega

/-- The new A16 is A16 plus the rounded step: the sum is never negative, so none of it is cut off. -/
theorem smooth_eq (a16 a : Nat) {w : Nat} (h16 : w ≤ 16) :
    (smooth a16 a w : Int) = a16 + roundSixteenth ((16 * (a : Int) - a16) * w) := by
  have hbetween := roundSixteenth_between (d := 16 * (a : Int) - a16) (Int.natCast_nonneg w) (by omega)
  unfold smooth
  omega

/-- The new A16 lies between A16 and sixteen times the sample activity. -/
theorem smooth_between (a16 a : Nat) {w : Nat} (h16 : w ≤ 16) :
    min a16 (16 * a) ≤ smooth a16 a w ∧ smooth a16 a w ≤ max a16 (16 * a) := by
  have hbetween := roundSixteenth_between (d := 16 * (a : Int) - a16) (Int.natCast_nonneg w) (by omega)
  have hsmooth := smooth_eq a16 a h16
  omega

/-- At full weight the new A16 is sixteen times the sample activity. -/
theorem smooth_sixteen (a16 a : Nat) : smooth a16 a 16 = 16 * a := by
  have hsmooth := smooth_eq a16 a (w := 16) le_rfl
  have hround := roundSixteenth_mul_sixteen (16 * (a : Int) - a16)
  push_cast at hsmooth
  omega

/-- Settles O60: coring is a truncated subtraction, and the step of smoothing is a rounded sixteenth part. -/
theorem coringAndSmoothing : Obligations.CoringAndSmoothing := by
  refine ⟨fun floor band lvl hlvl => ?_, fun a16 a w ha16 ha _ hw16 => ?_, fun _ _ _ => rfl⟩
  · exact ⟨sampleActivity_of_le, fun _ => sampleActivity_eq floor band lvl,
      (sampleActivity_le floor band lvl).trans hlvl, fun h => sampleActivity_of_le (hlvl.trans h), rfl⟩
  · have hstep : (smooth a16 a w : Int) - a16 = roundSixteenth ((16 * (a : Int) - a16) * w) := by
      rw [smooth_eq a16 a hw16, add_sub_cancel_left]
    obtain ⟨hlow, hhigh⟩ := smooth_between a16 a hw16
    have hnearest := roundSixteenth_nearest ((16 * (a : Int) - a16) * w)
    rw [← hstep] at hnearest
    obtain ⟨hclose, htie⟩ := hnearest
    refine ⟨hclose, htie, hlow, hhigh, by omega, fun hw => ?_⟩
    rw [hw, smooth_sixteen]

end Sys2Proof.Machine
end

section
/-!
PROOFS. SET GROUP and SET CURVE (R28, R53): the operand checks, what an accepted request does to the plant, and what
power-on and a soft restart leave of the group minimums.
-/

namespace Sys2Proof.Machine

/-! ## Operand checks -/

theorem index?_eq_none {size n : Nat} (h : ¬(1 ≤ n ∧ n ≤ size)) : index? size n = none := dif_neg h

/-- A record's index is read from its number, which counts from 1. -/
@[simp] theorem index?_succ {size : Nat} (i : Fin size) : index? size (i.val + 1) = some i :=
  dif_pos ⟨Nat.le_add_left _ _, i.isLt⟩

theorem within_iff {lo hi n : Nat} : within lo hi n = true ↔ lo ≤ n ∧ n ≤ hi := by
  simp [within]

/-- The check of SET CURVE speaks of K1 to K7. -/
theorem Knots.inRange_iff (k : Knots) : k.inRange = true ↔ ∀ j : Nat, 1 ≤ j → j ≤ 7 → k.knot j ≤ 1000 := by
  simp only [Knots.inRange, Bool.and_eq_true, within_iff]
  constructor
  · intro hk j h1 h7
    interval_cases j <;> simp only [Knots.knot] <;> omega
  · intro hk
    have h1 := hk 1; have h2 := hk 2; have h3 := hk 3; have h4 := hk 4
    have h5 := hk 5; have h6 := hk 6; have h7 := hk 7
    simp only [Knots.knot] at h1 h2 h3 h4 h5 h6 h7
    omega

/-! ## The requests -/

/-- A request that only changes the plant and answers DONE leaves every other block. -/
theorem State.perform_plantChanged {s : State} (h : s.ready) (f : Frame) (effect : State → State × Answer)
    (change : Plant → Plant) (he : effect (s.holding f) = ((s.holding f).onPlant change).accept) :
    ∃ t, s.perform (State.request f effect) = .next t ∧ t.answers f.kind f.tag .done [] ∧
      t.blocks = { s.blocks with plant := change s.plant } := by
  obtain ⟨t, ht, hblocks, hanswers, -⟩ := s.perform_request h f effect
  rw [he] at hblocks hanswers
  exact ⟨t, ht, hanswers, hblocks⟩

theorem exec_setGroup (tag : Byte) (group minimum : Nat) (s : State) :
    exec (.setGroup tag group minimum) s = execSetGroup tag group minimum s := rfl

theorem exec_setCurve (tag : Byte) (curve : Nat) (knots : Knots) (s : State) :
    exec (.setCurve tag curve knots) s = execSetCurve tag curve knots s := rfl

theorem exec_softRestartTakesEffect (s : State) :
    exec .softRestartTakesEffect s = execSoftRestartTakesEffect s := rfl

theorem doSetGroup_refused {group minimum : Nat} (h : ¬(1 ≤ group ∧ group ≤ 4 ∧ minimum ≤ 8)) (s : State) :
    doSetGroup group minimum s = s.refuse .range := by
  by_cases hgroup : 1 ≤ group ∧ group ≤ 4
  · have hmin : ¬within 0 8 minimum = true := by rw [within_iff]; omega
    simp only [doSetGroup, if_neg hmin]
    split <;> rfl
  · simp only [doSetGroup, index?_eq_none hgroup]

theorem doSetGroup_accepted (g : GroupId) {minimum : Nat} (h : minimum ≤ 8) (s : State) :
    doSetGroup (g.val + 1) minimum s = (s.onPlant (fun p => { p with groups := p.groups.set g minimum })).accept := by
  simp only [doSetGroup, index?_succ, if_pos (within_iff.mpr ⟨Nat.zero_le _, h⟩)]

theorem doSetCurve_refused {curve : Nat} {knots : Knots}
    (h : ¬(1 ≤ curve ∧ curve ≤ 8) ∨ ∃ j : Nat, 1 ≤ j ∧ j ≤ 7 ∧ 1000 < knots.knot j) (s : State) :
    doSetCurve curve knots s = s.refuse .range := by
  rcases h with hcurve | ⟨j, h1, h7, hj⟩
  · simp only [doSetCurve, index?_eq_none hcurve]
  · have hknots : ¬knots.inRange = true := fun hk => absurd (knots.inRange_iff.mp hk j h1 h7) hj.not_ge
    simp only [doSetCurve, if_neg hknots]
    split <;> rfl

theorem doSetCurve_accepted (c : CurveId) {knots : Knots} (h : ∀ j : Nat, 1 ≤ j → j ≤ 7 → knots.knot j ≤ 1000)
    (s : State) :
    doSetCurve (c.val + 1) knots s = (s.onPlant (fun p => { p with curves := p.curves.set c knots })).accept := by
  simp only [doSetCurve, index?_succ, if_pos (knots.inRange_iff.mpr h)]

/-! ## Power-on and the soft restart -/

/-- A fold of operations that each keep the group minimums keeps them. -/
theorem Plant.foldl_groups {α : Type} {f : Plant → α → Plant} (h : ∀ p a, (f p a).groups = p.groups) (as : List α)
    (p : Plant) : (as.foldl f p).groups = p.groups := by
  induction as generalizing p with
  | nil => rfl
  | cons a as ih => exact (ih _).trans (h p a)

/-- The feeders, loads and stations restart; the group minimums stay (R53). -/
@[simp] theorem Plant.restart_groups (p : Plant) : p.restart.groups = p.groups := by
  rw [Plant.restart, Plant.foldl_groups (fun q i => q.setStation_groups i Station.restart)]
  exact Plant.foldl_groups (fun q i => q.setFeeder_groups i Feeder.restart) feederIds p

@[simp] theorem State.softRestart_plant (s : State) : s.softRestart.plant = s.plant.restart := by
  simp [State.softRestart]

/-- Settles O38, from what each of the two requests does when refused and when accepted. -/
theorem groupsAndCurvesAreSet : Obligations.GroupsAndCurvesAreSet := by
  intro s tag hs
  refine ⟨fun g m h => ?_, fun g m h => ?_, fun c k h => ?_, fun c k h => ?_, fun g => ?_, fun u hu => ?_⟩
  · rw [exec_setGroup]
    exact s.perform_refused hs _ _ .range (doSetGroup_refused h _)
  · rw [exec_setGroup]
    exact State.perform_plantChanged hs _ _ _ (doSetGroup_accepted g h _)
  · rw [exec_setCurve]
    exact s.perform_refused hs _ _ .range (doSetCurve_refused h _)
  · rw [exec_setCurve]
    exact State.perform_plantChanged hs _ _ _ (doSetCurve_accepted c h _)
  · simp [State.reset, Plant.reset]
  · refine ⟨_, by rw [exec_softRestartTakesEffect, execSoftRestartTakesEffect, State.perform_eq, hu.1], ?_⟩
    simp

end Sys2Proof.Machine
end

section
/-!
PROOFS. The examination of the start queue (R81): what one entry does to it, the shape of what it picks, and what a grant
attempt makes of the pick.
-/

namespace Sys2Proof.Machine

/-! ## One entry of the examination -/

/-- The examination lets this entry wait: it is not eligible, or it does not fit and may still be passed over. -/
abbrev QueueEntry.mayWait (eligible : QueueEntry → Bool) (demand : QueueEntry → Nat) (free : Nat) (e : QueueEntry) :
    Prop :=
  eligible e = true → free < demand e ∧ e.passed < 3

/-- The entry after a grant behind it: its pass-over count is raised while it is eligible. -/
def QueueEntry.passedOver (eligible : QueueEntry → Bool) (e : QueueEntry) : QueueEntry :=
  if eligible e then { e with passed := e.passed + 1 } else e

section Examination

variable {eligible : QueueEntry → Bool} {demand : QueueEntry → Nat} {free : Nat} {e x : QueueEntry}
  {queue rest : List QueueEntry}

theorem pickEntry_of_fits (he : eligible x = true) (hfit : demand x ≤ free) :
    pickEntry eligible demand free (x :: queue) = some (x, queue) := by
  rw [pickEntry, if_pos he, if_pos hfit]

theorem pickEntry_of_mayWait (h : x.mayWait eligible demand free) :
    pickEntry eligible demand free (x :: queue) =
      (pickEntry eligible demand free queue).map (fun r => (r.1, x.passedOver eligible :: r.2)) := by
  by_cases he : eligible x = true
  · obtain ⟨hfit, hpassed⟩ := h he
    rw [pickEntry, if_pos he, if_neg hfit.not_ge, if_pos hpassed, QueueEntry.passedOver, if_pos he]
  · rw [pickEntry, if_neg he, QueueEntry.passedOver, if_neg he]

/-- An eligible entry that does not fit, at a pass-over count of 3, ends the examination. -/
theorem pickEntry_of_ends (he : eligible x = true) (hfit : free < demand x) (hpassed : 3 ≤ x.passed) :
    pickEntry eligible demand free (x :: queue) = none := by
  rw [pickEntry, if_pos he, if_neg hfit.not_ge, if_neg hpassed.not_gt]

/-- The oldest entry is picked, or it waits and the pick is made behind it. -/
theorem pickEntry_cons_eq_some_iff :
    pickEntry eligible demand free (x :: queue) = some (e, rest) ↔
      (eligible x = true ∧ demand x ≤ free ∧ x = e ∧ queue = rest) ∨
      (x.mayWait eligible demand free ∧
        ∃ behind, pickEntry eligible demand free queue = some (e, behind) ∧ x.passedOver eligible :: behind = rest) := by
  by_cases hfits : eligible x = true ∧ demand x ≤ free
  · obtain ⟨he, hfit⟩ := hfits
    have hwaits : ¬x.mayWait eligible demand free := fun h => (h he).1.not_ge hfit
    simp only [pickEntry_of_fits he hfit, he, hfit, hwaits, true_and, false_and, or_false, Option.some.injEq,
      Prod.mk.injEq]
  · simp only [← and_assoc (a := eligible x = true), hfits, false_and, false_or]
    by_cases hwaits : x.mayWait eligible demand free
    · simp only [pickEntry_of_mayWait hwaits, Option.map_eq_some_iff, Prod.exists, Prod.mk.injEq]
      grind
    · obtain ⟨he, hends⟩ := Classical.not_imp.mp hwaits
      have hfit : free < demand x := not_le.mp fun hle => hfits ⟨he, hle⟩
      have hpassed : 3 ≤ x.passed := not_lt.mp fun hlt => hends ⟨hfit, hlt⟩
      simp only [pickEntry_of_ends he hfit hpassed, hwaits, false_and, reduceCtorEq]

/-- What is picked, and what it leaves: every entry before it waits, and those behind it are untouched. -/
theorem pickEntry_eq_some_iff :
    pickEntry eligible demand free queue = some (e, rest) ↔
      ∃ before after, queue = before ++ e :: after ∧ eligible e = true ∧ demand e ≤ free ∧
        (∀ x ∈ before, x.mayWait eligible demand free) ∧
        rest = before.map (QueueEntry.passedOver eligible) ++ after := by
  constructor
  · intro h
    induction queue generalizing rest with
    | nil => exact absurd h (by simp [pickEntry])
    | cons x queue ih =>
      rcases pickEntry_cons_eq_some_iff.mp h with ⟨he, hfit, rfl, rfl⟩ | ⟨hwaits, behind, hpick, rfl⟩
      · exact ⟨[], queue, rfl, he, hfit, by simp, rfl⟩
      · obtain ⟨before, after, rfl, he, hfit, hbefore, rfl⟩ := ih hpick
        exact ⟨x :: before, after, rfl, he, hfit, List.forall_mem_cons.mpr ⟨hwaits, hbefore⟩, rfl⟩
  · rintro ⟨before, after, rfl, he, hfit, hbefore, rfl⟩
    induction before with
    | nil => exact pickEntry_of_fits he hfit
    | cons x before ih =>
      obtain ⟨hwaits, hbefore⟩ := List.forall_mem_cons.mp hbefore
      exact pickEntry_cons_eq_some_iff.mpr (.inr ⟨hwaits, _, ih hbefore, rfl⟩)

end Examination

/-! ## The grant attempt -/

/-- Where the examination picks nothing, the attempt changes nothing. -/
theorem Plant.grantAttempt_of_pick_none (clock : Option Clock) (i : FeederId) (p : Plant)
    (h : pickEntry (p.eligible clock) p.demandOf (p.feeder i).free (p.feeder i).queue = none) :
    p.grantAttempt clock i = p := by
  unfold Plant.grantAttempt
  cases (p.feeder i).queue.length with
  | zero => rfl
  | succ fuel => simp only [Plant.grantLoop, h, ite_self]

/-- With a spacing, the attempt grants the picked entry and makes no other grant. -/
theorem Plant.grantAttempt_of_pick (clock : Option Clock) (i : FeederId) (p : Plant) {e : QueueEntry}
    {rest : List QueueEntry} (htimer : (p.feeder i).spacingTimer = none) (hspacing : (p.feeder i).spacing ≠ 0)
    (h : pickEntry (p.eligible clock) p.demandOf (p.feeder i).free (p.feeder i).queue = some (e, rest)) :
    p.grantAttempt clock i = p.grantTo i e.load rest := by
  obtain ⟨fuel, hfuel⟩ : ∃ fuel, (p.feeder i).queue.length = fuel + 1 := by
    obtain ⟨before, after, hqueue, -⟩ := pickEntry_eq_some_iff.mp h
    exact ⟨before.length + after.length, by simp [hqueue, Nat.add_assoc]⟩
  simp [Plant.grantAttempt, hfuel, Plant.grantLoop, htimer, h, hspacing]

/-- Settles O16: the attempt makes the grant of the examination's pick, and the pick has the shape of R81. -/
theorem grantExamination : Obligations.GrantExamination :=
  ⟨fun clock i p h => p.grantAttempt_spaced clock i (Option.isSome_iff_ne_none.mpr h),
    fun clock i p => p.grantAttempt_of_pick_none clock i,
    fun clock i p _ _ => p.grantAttempt_of_pick clock i,
    fun _ _ _ _ _ _ => pickEntry_eq_some_iff⟩

end Sys2Proof.Machine
end

section
/-!
PROOFS. SET FEEDER (R89): its three checks, and the replacement of a feeder's capacity and spacing.
-/

namespace Sys2Proof.Machine

theorem exec_setFeeder (tag : Byte) (feeder capacity spacing : Nat) (s : State) :
    exec (.setFeeder tag feeder capacity spacing) s = execSetFeeder tag feeder capacity spacing s := rfl

theorem Load.isWaking_iff {l : Load} : l.isWaking = true ↔ ∃ w, l.state = .waking w := by
  unfold Load.isWaking
  cases l.state <;> simp

/-- The checks of SET FEEDER, once its operands are in range. -/
theorem doSetFeeder_inRange (i : FeederId) {c p : Nat} (hc : c ≤ 60) (hp : p ≤ 120) (s : State) :
    doSetFeeder (i.val + 1) c p s =
      if s.plant.loads.any (fun l => l.cfg.feeder == i && l.isWaking) then s.refuse .busy
      else if s.plant.loads.any (fun l => l.cfg.feeder == i && decide (c < l.cfg.demand)) then s.refuse .conflict
      else (s.onPlant (Plant.setFeeder i (fun f => { f with capacity := c, free := c, spacing := p }))).accept := by
  have hrange : (within 0 60 c && within 0 120 p) = true := by simp [within, hc, hp]
  simp only [doSetFeeder, index?_succ, hrange, not_true_eq_false, if_false]

theorem Plant.anyWaking_iff {p : Plant} {i : FeederId} :
    p.loads.any (fun l => l.cfg.feeder == i && l.isWaking) = true ↔
      ∃ l ∈ p.loads, l.cfg.feeder = i ∧ ∃ w, l.state = .waking w := by
  simp only [List.any_eq_true, Bool.and_eq_true, beq_iff_eq, Load.isWaking_iff]

theorem Plant.anyDemandAbove_iff {p : Plant} {i : FeederId} {c : Nat} :
    p.loads.any (fun l => l.cfg.feeder == i && decide (c < l.cfg.demand)) = true ↔
      ∃ l ∈ p.loads, l.cfg.feeder = i ∧ c < l.cfg.demand := by
  simp only [List.any_eq_true, Bool.and_eq_true, beq_iff_eq, decide_eq_true_eq]

theorem doSetFeeder_refused {f c p : Nat} (h : ¬(1 ≤ f ∧ f ≤ 4 ∧ c ≤ 60 ∧ p ≤ 120)) (s : State) :
    doSetFeeder f c p s = s.refuse .range := by
  by_cases hf : 1 ≤ f ∧ f ≤ 4
  · have hrange : ¬(within 0 60 c && within 0 120 p) = true := by
      simp only [Bool.and_eq_true, within_iff]
      omega
    simp only [doSetFeeder, if_pos hrange]
    split <;> rfl
  · simp only [doSetFeeder, index?_eq_none hf]

/-- Settles O39: each stage of the check decides the answer, and past all three only the feeder record changes. -/
theorem feederIsSet : Obligations.FeederIsSet := by
  intro s tag hs
  refine ⟨fun f c p h => ?_, fun i c p hc hp => ⟨fun hwaking => ?_, fun hnone => ⟨fun hdemand => ?_, fun hfits => ?_⟩⟩⟩ <;>
    rw [exec_setFeeder]
  · exact s.perform_refused hs _ _ .range (doSetFeeder_refused h _)
  · exact s.perform_refused hs _ _ .busy
      ((doSetFeeder_inRange i hc hp _).trans (if_pos (Plant.anyWaking_iff.mpr hwaking)))
  all_goals
    have hidle := mt (Plant.anyWaking_iff (p := s.plant)).mp fun ⟨l, hl, hi, w, hw⟩ => hnone l hl hi w hw
    have hchecks := fun f => (doSetFeeder_inRange i hc hp (s.holding f)).trans (if_neg hidle)
  · exact s.perform_refused hs _ _ .conflict
      ((hchecks _).trans (if_pos (Plant.anyDemandAbove_iff.mpr hdemand)))
  · have hroom := mt (Plant.anyDemandAbove_iff (p := s.plant)).mp fun ⟨l, hl, hi, hd⟩ => hd.not_ge (hfits l hl hi)
    exact State.perform_plantChanged hs _ _ _ ((hchecks _).trans (if_neg hroom))

end Sys2Proof.Machine
end

section
/-!
PROOFS. CANCEL WAKE and CLEAR FAULT (R23, R74, R75, R161): what each does to the one load it names, and when the
beacon is released.
-/

namespace Sys2Proof.Machine

/-! ## Requests that name one load -/

theorem exec_cancelWake (tag : Byte) (n : Nat) (s : State) : exec (.cancelWake tag n) s = execCancelWake tag n s := rfl

theorem exec_clearFault (tag : Byte) (n : Nat) (s : State) : exec (.clearFault tag n) s = execClearFault tag n s := rfl

/-- A request that names a bound load comes to its own rule (R169). -/
theorem State.forLoad_bound {s : State} {n : Nat} {l : Load} (h1 : 1 ≤ n) (h96 : n ≤ 96) (hl : s.load? n = some l)
    (f : Load → State × Answer) : s.forLoad n f = f l := by
  simp only [State.forLoad, if_pos (within_iff.mpr ⟨h1, h96⟩ : within 1 Config.loadCount n = true), hl]

/-- Changing one bound load changes that load alone. -/
theorem Plant.setLoad_bound {p : Plant} {n : Nat} {l : Load} (h : p.load? n = some l) (f : Load → Load)
    (hf : ∀ l, (f l).num = l.num) :
    (p.setLoad n f).load? n = some (f l) ∧ p.sameButLoad n (p.setLoad n f) := by
  have hnum : ∀ l : Load, l.num = n → (f l).num = n := fun l hl => (hf l).trans hl
  exact ⟨by rw [Plant.load?_setLoad_self p n f hnum, h, Option.map_some],
    fun m hm => Plant.load?_setLoad_other p hm f hnum, rfl, rfl⟩

/-- Two changes of one load are one change. -/
theorem Plant.setLoad_setLoad (n : Nat) (f g : Load → Load) (hf : ∀ l, (f l).num = l.num) (p : Plant) :
    (p.setLoad n f).setLoad n g = p.setLoad n (fun l => g (f l)) := by
  simp only [Plant.setLoad, List.map_map]
  congr 1
  refine List.map_congr_left fun l _ => ?_
  by_cases h : l.num = n <;> simp [h, hf]

/-! ## CANCEL WAKE (R74, R75) -/

theorem Plant.leaveQueue_bound {p : Plant} {n : Nat} {l : Load} (h : p.load? n = some l) :
    p.leaveQueue n =
      (p.setFeeder l.cfg.feeder (fun f => { f with queue := f.queue.filter (fun e => e.load != n) })).setLoad n
        (fun l => { l with awaitingFan := false }) := by
  simp only [Plant.leaveQueue, h]

/-- The load of a cancelled wake. -/
def Load.wakeCancelled (l : Load) : Load := { l with state := .parked, wakeDue := false, awaitingFan := false }

/-- The plant after a cancelled wake: the load's entry is out of its feeder's queue, and the load is PARKED. -/
def Plant.cancelWake (n : Nat) (i : FeederId) (p : Plant) : Plant :=
  (p.setFeeder i (fun f => { f with queue := f.queue.filter (fun e => e.load != n) })).setLoad n Load.wakeCancelled

theorem Plant.cancelWake_bound {p : Plant} {n : Nat} {l : Load} (h : p.load? n = some l) (i : FeederId) :
    (p.cancelWake n i).load? n = some l.wakeCancelled ∧ p.sameButLoad n (p.cancelWake n i) :=
  Plant.setLoad_bound (p := p.setFeeder i _) h Load.wakeCancelled (fun _ => rfl)

theorem doCancelWake_accepted {s : State} {n : Nat} {l : Load} (h1 : 1 ≤ n) (h96 : n ≤ 96) (hl : s.load? n = some l)
    (hstate : l.state = .wakeQueued) : doCancelWake n s = (s.onPlant (Plant.cancelWake n l.cfg.feeder)).accept := by
  have hleft : (s.plant.leaveQueue n).setLoad n (fun l => { l with state := .parked, wakeDue := false }) =
      s.plant.cancelWake n l.cfg.feeder := by
    rw [Plant.leaveQueue_bound hl]
    exact Plant.setLoad_setLoad n (fun l => { l with awaitingFan := false }) _ (fun _ => rfl) _
  rw [doCancelWake, State.forLoad_bound h1 h96 hl, if_pos hstate]
  exact congrArg (fun q => State.accept { s with plant := q }) hleft

theorem doCancelWake_refused {s : State} {n : Nat} {l : Load} (h1 : 1 ≤ n) (h96 : n ≤ 96) (hl : s.load? n = some l)
    (hstate : l.state ≠ .wakeQueued) : doCancelWake n s = s.refuse .wrongState := by
  rw [doCancelWake, State.forLoad_bound h1 h96 hl, if_neg hstate]

/-! ## CLEAR FAULT (R23, R161) -/

/-- The load of a cleared fault. -/
def Load.faultCleared (l : Load) : Load := { l with state := .offline, dwell := 0, idle := false }

/-- No fault stands when no load is FAULTED, no station LOST and the monitor not LAPSED. -/
theorem State.noFaultStands_iff (s : State) :
    s.noFaultStands = true ↔
      (∀ x ∈ s.plant.loads, x.state ≠ .faulted) ∧ (∀ i, (s.station i).link ≠ .lost) ∧ s.assent.state ≠ .lapsed := by
  have hstations : (∀ st ∈ s.plant.stations.toList, st.link ≠ .lost) ↔ ∀ i, (s.station i).link ≠ .lost := by
    simp only [Vector.mem_toList_iff, Vector.mem_iff_getElem, State.station, Plant.station, Fin.forall_iff]
    exact ⟨fun h i hi => h _ ⟨i, hi, rfl⟩, fun h _ ⟨i, hi, e⟩ => e ▸ h i hi⟩
  simp only [State.noFaultStands, Bool.and_eq_true, Bool.not_eq_true', List.any_eq_false, beq_iff_eq, bne_iff_ne,
    ← ne_eq, hstations, and_assoc]

/-- The evaluation changes the beacon alone, and only releases it. -/
theorem State.evaluateBeacon_alerts (s : State) :
    s.evaluateBeacon.alerts = { s.alerts with beacon :=
      if (∀ x ∈ s.plant.loads, x.state ≠ .faulted) ∧ (∀ i, (s.station i).link ≠ .lost) ∧ s.assent.state ≠ .lapsed ∧
          s.alerts.statusRead = true then false else s.alerts.beacon } := by
  have hreleased : (s.noFaultStands && s.alerts.statusRead) = true ↔
      (∀ x ∈ s.plant.loads, x.state ≠ .faulted) ∧ (∀ i, (s.station i).link ≠ .lost) ∧ s.assent.state ≠ .lapsed ∧
        s.alerts.statusRead = true := by
    rw [Bool.and_eq_true, State.noFaultStands_iff, and_assoc, and_assoc]
  unfold State.evaluateBeacon
  split
  · next h => rw [if_pos (hreleased.mp h)]
  · next h => rw [if_neg (mt hreleased.mpr h)]

@[simp] theorem State.evaluateBeacon_blocks (s : State) :
    s.evaluateBeacon.blocks = { s.blocks with alerts := s.evaluateBeacon.alerts } := by
  simp [State.blocks]

theorem doClearFault_accepted {s : State} {n : Nat} {l : Load} (h1 : 1 ≤ n) (h96 : n ≤ 96) (hl : s.load? n = some l)
    (hstate : l.state = .faulted) :
    doClearFault n s = ((s.setLoad n Load.faultCleared).evaluateBeacon).accept := by
  rw [doClearFault, State.forLoad_bound h1 h96 hl, if_pos hstate]
  rfl

theorem doClearFault_refused {s : State} {n : Nat} {l : Load} (h1 : 1 ≤ n) (h96 : n ≤ 96) (hl : s.load? n = some l)
    (hstate : l.state ≠ .faulted) : doClearFault n s = s.refuse .wrongState := by
  rw [doClearFault, State.forLoad_bound h1 h96 hl, if_neg hstate]

/-! ## Both requests -/

/-- Settles O51: in its own state each request changes the load it names, and in every other state it is refused. -/
theorem wakesAndFaultsAreCancelled : Obligations.WakesAndFaultsAreCancelled := by
  intro s tag n l hs h1 h96 hl
  refine ⟨fun hstate => ?_, fun hstate => ?_, fun hstate => ?_, fun hstate => ?_⟩
  · obtain ⟨t, ht, hanswers, hblocks⟩ := State.perform_plantChanged hs { kind := 22, tag, payload := [b8 n] }
      (doCancelWake n) (Plant.cancelWake n l.cfg.feeder) (doCancelWake_accepted h1 h96 hl hstate)
    have hplant : t.plant = s.plant.cancelWake n l.cfg.feeder := congrArg Blocks.plant hblocks
    obtain ⟨hself, hother⟩ := Plant.cancelWake_bound hl l.cfg.feeder
    rw [← hplant] at hself hother
    exact ⟨t, ht, hanswers, hself, hother, by rw [hplant]; rfl, by rw [hplant]; rfl, hplant ▸ hblocks⟩
  · rw [exec_cancelWake]
    exact s.perform_refused hs _ _ .wrongState (doCancelWake_refused h1 h96 hl hstate)
  · obtain ⟨t, ht, hblocks, hanswers, -⟩ := s.perform_request hs { kind := 23, tag, payload := [b8 n] } (doClearFault n)
    rw [doClearFault_accepted (s := s.holding _) h1 h96 hl hstate] at hblocks hanswers
    have hplant : t.plant = s.plant.setLoad n Load.faultCleared :=
      (congrArg Blocks.plant hblocks).trans (State.evaluateBeacon_plant _)
    have halerts : t.alerts = ((s.holding _).setLoad n Load.faultCleared).evaluateBeacon.alerts :=
      congrArg Blocks.alerts hblocks
    obtain ⟨hself, hother⟩ := Plant.setLoad_bound hl Load.faultCleared (fun _ => rfl)
    rw [← hplant] at hself hother
    refine ⟨t, ht, hanswers, hself, hother, by rw [hplant]; rfl, by rw [hplant]; rfl, ?_, ?_⟩
    · rw [hplant, halerts]
      exact hblocks.trans (State.evaluateBeacon_blocks _)
    · rw [hplant, halerts]
      exact State.evaluateBeacon_alerts _
  · rw [exec_clearFault]
    exact s.perform_refused hs _ _ .wrongState (doClearFault_refused h1 h96 hl hstate)

end Sys2Proof.Machine
end

section
/-!
PROOFS. SET HOLIDAY and DROP HOLIDAY (R96, R97): the order of the valid dates, the place of a new entry in a list in
date order, the frame of an evaluation, and what each request does when refused and when accepted.
-/

namespace Sys2Proof.Machine

/-! ## The order of the valid dates (R93, R96) -/

theorem Date.valid_iff {d : Date} :
    d.valid = true ↔ (2000 ≤ d.year ∧ d.year ≤ 2099) ∧ (1 ≤ d.month ∧ d.month ≤ 12) ∧
      1 ≤ d.day ∧ d.day ≤ daysInMonth d.year d.month := by
  simp only [Date.valid, Bool.and_eq_true, within_iff, and_assoc]

/-- A month is over before a later one of its year begins. -/
theorem daysBefore_add_daysInMonth_le (year : Nat) {m n : Nat} (hm : 1 ≤ m) (hlt : m < n) :
    daysBefore year m + daysInMonth year m ≤ daysBefore year n := by
  induction n, hlt using Nat.le_induction with
  | base => simp [daysBefore, Nat.ne_of_gt hm]
  | succ n _ ih => exact ih.trans (Nat.le_add_right _ _)

/-- The twelve months of a year of the range have its 365 days, or 366 in every fourth year. -/
theorem daysBefore_thirteen (year : Nat) : daysBefore year 13 = if year % 4 = 0 then 366 else 365 := by
  by_cases h : year % 4 = 0 <;> simp [daysBefore, daysInMonth, h]

theorem Date.dayNumber_lt_of_year_lt {a b : Date} (ha : a.valid = true) (hb : b.valid = true)
    (h : a.year < b.year) : a.dayNumber < b.dayNumber := by
  obtain ⟨hyear, ⟨hfirst, hlast⟩, hday⟩ := Date.valid_iff.mp ha
  have hyear' := (Date.valid_iff.mp hb).1
  have hmonth := daysBefore_add_daysInMonth_le a.year hfirst (Nat.lt_succ_of_le hlast)
  rw [daysBefore_thirteen] at hmonth
  unfold Date.dayNumber
  split at hmonth <;> omega

theorem Date.dayNumber_lt_of_month_lt {a b : Date} (ha : a.valid = true) (hyear : a.year = b.year)
    (h : a.month < b.month) : a.dayNumber < b.dayNumber := by
  obtain ⟨-, ⟨hfirst, -⟩, hday⟩ := Date.valid_iff.mp ha
  have hmonth := daysBefore_add_daysInMonth_le a.year hfirst h
  unfold Date.dayNumber
  rw [hyear] at hday hmonth ⊢
  omega

/-- Of two valid dates with one day number neither is in an earlier year, month or day. -/
theorem Date.dayNumber_injOn {a b : Date} (ha : a.valid = true) (hb : b.valid = true)
    (h : a.dayNumber = b.dayNumber) : a = b := by
  have hyear : a.year = b.year := le_antisymm
    (not_lt.mp fun hlt => (Date.dayNumber_lt_of_year_lt hb ha hlt).ne h.symm)
    (not_lt.mp fun hlt => (Date.dayNumber_lt_of_year_lt ha hb hlt).ne h)
  have hmonth : a.month = b.month := le_antisymm
    (not_lt.mp fun hlt => (Date.dayNumber_lt_of_month_lt hb hyear.symm hlt).ne h.symm)
    (not_lt.mp fun hlt => (Date.dayNumber_lt_of_month_lt ha hyear hlt).ne h)
  obtain ⟨-, -, hday⟩ := Date.valid_iff.mp ha
  obtain ⟨-, -, hday'⟩ := Date.valid_iff.mp hb
  obtain ⟨year, month, day⟩ := a
  obtain ⟨year', month', day'⟩ := b
  obtain rfl : year = year' := hyear
  obtain rfl : month = month' := hmonth
  simp only [Date.dayNumber] at h hday hday'
  obtain rfl : day = day' := by omega
  rfl

theorem Date.before_iff {a b : Date} : a.before b = true ↔ a.dayNumber < b.dayNumber := decide_eq_true_iff

theorem Date.before_asymm {a b : Date} (h : a.before b = true) : b.before a = false :=
  decide_eq_false (Date.before_iff.mp h).asymm

@[simp] theorem Date.before_irrefl (d : Date) : d.before d = false := decide_eq_false (lt_irrefl _)

/-- Of two different valid dates one is before the other. -/
theorem Date.before_of_ne {a b : Date} (ha : a.valid = true) (hb : b.valid = true) (hne : a ≠ b)
    (h : ¬b.before a = true) : a.before b = true :=
  Date.before_iff.mpr
    (lt_of_le_of_ne (not_lt.mp fun hlt => h (Date.before_iff.mpr hlt)) (mt (Date.dayNumber_injOn ha hb) hne))

/-! ## The list in date order (R96) -/

/-- A list of later entries has none earlier. -/
theorem filter_of_later {d : Date} {hs : List Holiday} (h : ∀ x ∈ hs, d.before x.date = true) :
    hs.filter (fun x => x.date.before d) = [] ∧ hs.filter (fun x => d.before x.date) = hs :=
  ⟨List.filter_eq_nil_iff.mpr fun x hx => by rw [Date.before_asymm (h x hx)]; exact Bool.false_ne_true,
    List.filter_eq_self.mpr h⟩

/-- In a list of valid dates in ascending order the entry stands between the earlier and the later dates, in the place
of one of its own date. -/
theorem insertHoliday_eq {e : Holiday} (he : e.date.valid = true) {hs : List Holiday}
    (hsorted : hs.Pairwise (fun a b => a.date.before b.date = true)) (hvalid : ∀ x ∈ hs, x.date.valid = true) :
    insertHoliday e hs =
      hs.filter (fun x => x.date.before e.date) ++ e :: hs.filter (fun x => e.date.before x.date) := by
  induction hs with
  | nil => rfl
  | cons x rest ih =>
    obtain ⟨hfirst, hrest⟩ := List.pairwise_cons.mp hsorted
    obtain ⟨hx, hvalid⟩ := List.forall_mem_cons.mp hvalid
    by_cases hsame : x.date = e.date
    · obtain ⟨hearlier, hlater⟩ := filter_of_later (hsame ▸ hfirst)
      simp [insertHoliday, hsame, hearlier, hlater]
    · by_cases hbefore : e.date.before x.date = true
      · have hall : ∀ y ∈ x :: rest, e.date.before y.date = true :=
          List.forall_mem_cons.mpr ⟨hbefore, fun y hy =>
            Date.before_iff.mpr ((Date.before_iff.mp hbefore).trans (Date.before_iff.mp (hfirst y hy)))⟩
        obtain ⟨hearlier, hlater⟩ := filter_of_later hall
        rw [insertHoliday, if_neg hsame, if_pos hbefore, hearlier, hlater, List.nil_append]
      · have hafter := Date.before_of_ne hx he hsame hbefore
        simp [insertHoliday, hsame, hbefore, hafter, ih hrest hvalid]

theorem anyDated_iff {d : Date} {hs : List Holiday} :
    hs.any (fun h => h.date == d) = true ↔ ∃ h ∈ hs, h.date = d := by
  simp only [List.any_eq_true, beq_iff_eq]

/-! ## An evaluation (R100 to R102) -/

/-- From one state to the other only notices were queued. -/
structure State.OnlyNotices (s t : State) : Prop where
  blocks : t.blocks = { s.blocks with alerts := t.alerts }
  alerts : s.alerts.sameButQueue t.alerts

theorem State.OnlyNotices.rfl {s : State} : s.OnlyNotices s := ⟨Eq.refl _, Eq.refl _⟩

theorem State.OnlyNotices.trans {s t u : State} (h : s.OnlyNotices t) (k : t.OnlyNotices u) : s.OnlyNotices u :=
  ⟨by rw [k.blocks, h.blocks], by rw [Alerts.sameButQueue, k.alerts, h.alerts]⟩

theorem State.OnlyNotices.calendar {s t : State} (h : s.OnlyNotices t) : t.calendar = s.calendar :=
  congrArg Blocks.calendar h.blocks

theorem State.raiseDeviceWith_onlyNotices (s : State) (opened closed : BitVec 4) (e : DeviceEvent) :
    s.OnlyNotices (s.raiseDeviceWith opened closed e) :=
  ⟨by simp [State.blocks], s.raiseDeviceWith_alerts opened closed e⟩

theorem State.raiseChange_onlyNotices (before : Vector Bool 4) (p : ProfileId) (s : State) :
    s.OnlyNotices (s.raiseChange before p) := by
  unfold State.raiseChange
  split
  · exact .rfl
  · split
    · exact s.raiseDeviceWith_onlyNotices _ _ _
    · exact s.raiseDeviceWith_onlyNotices _ _ _

theorem State.raiseChanges_onlyNotices (before : Vector Bool 4) (ps : List ProfileId) (s : State) :
    s.OnlyNotices (ps.foldl (fun t p => t.raiseChange before p) s) := by
  induction ps generalizing s with
  | nil => exact .rfl
  | cons p ps ih => exact (s.raiseChange_onlyNotices before p).trans (ih _)

/-- Taking the profile states queues notices and nothing more. -/
theorem State.takeProfiles_onlyNotices (s : State) :
    (s.setCalendar (fun c => { c with held := c.values })).OnlyNotices s.takeProfiles :=
  State.raiseChanges_onlyNotices s.calendar.held profileIds _

/-- An evaluation holds the present values of the profiles. -/
theorem State.evaluate_calendar (s : State) :
    s.evaluate.calendar = { s.calendar with held := s.calendar.values } :=
  s.takeProfiles_onlyNotices.calendar

/-- An evaluation changes the notices of the alert block alone. -/
theorem State.evaluate_alerts (s : State) : s.alerts.sameButQueue s.evaluate.alerts :=
  s.takeProfiles_onlyNotices.alerts

/-- An evaluation leaves every block but plant, calendar and alert. -/
theorem State.evaluate_blocks (s : State) :
    s.evaluate.blocks =
      { s.blocks with plant := s.evaluate.plant, calendar := s.evaluate.calendar, alerts := s.evaluate.alerts } := by
  change { s.takeProfiles.blocks with plant := s.evaluate.plant } = _
  rw [s.takeProfiles_onlyNotices.blocks, s.evaluate_calendar]
  rfl

/-! ## An accepted change of the list (R96, R97) -/

/-- What an accepted request of a date makes of the blocks: the list is the given one, and the profile states are
evaluated when the date is the clock's. -/
abbrev Blocks.holidaysChanged (b : Blocks) (d : Date) (hs : List Holiday) (b' : Blocks) : Prop :=
  b'.calendar.holidays = hs ∧
  b'.calendar = { b.calendar with holidays := b'.calendar.holidays, held := b'.calendar.held } ∧
  b' = { b with plant := b'.plant, calendar := b'.calendar, alerts := b'.alerts } ∧
  (if b.calendar.clock.map Clock.date = some d then
    b'.calendar.held = b'.calendar.values ∧ b.alerts.sameButQueue b'.alerts
  else b'.calendar.held = b.calendar.held ∧ b'.plant = b.plant ∧ b'.alerts = b.alerts)

theorem State.isToday_iff {s : State} {d : Date} :
    s.isToday d = true ↔ s.calendar.clock.map Clock.date = some d := by
  cases h : s.calendar.clock <;> simp [State.isToday, h]

theorem State.changeHolidays_blocks (d : Date) (f : List Holiday → List Holiday) (s : State) :
    s.blocks.holidaysChanged d (f s.calendar.holidays) (s.changeHolidays d f).blocks := by
  by_cases htoday : s.isToday d = true
  · have hdate : s.blocks.calendar.clock.map Clock.date = some d := State.isToday_iff.mp htoday
    rw [State.changeHolidays, if_pos htoday, Blocks.holidaysChanged, if_pos hdate]
    simp only [State.blocks_calendar, State.evaluate_calendar]
    refine ⟨rfl, rfl, ?_, rfl, State.evaluate_alerts _⟩
    exact (State.evaluate_blocks _).trans (by rw [State.evaluate_calendar]; rfl)
  · have hdate : ¬s.blocks.calendar.clock.map Clock.date = some d := mt State.isToday_iff.mpr htoday
    rw [State.changeHolidays, if_neg htoday, Blocks.holidaysChanged, if_neg hdate]
    exact ⟨rfl, rfl, rfl, rfl, rfl, rfl⟩

/-- A request that changes the list answers DONE and leaves what `Blocks.holidaysChanged` says. -/
theorem State.perform_holidaysChanged {s : State} (h : s.ready) (f : Frame) (effect : State → State × Answer)
    (d : Date) (change : List Holiday → List Holiday)
    (he : effect (s.holding f) = ((s.holding f).changeHolidays d change).accept) :
    ∃ t, s.perform (State.request f effect) = .next t ∧ t.answers f.kind f.tag .done [] ∧
      s.blocks.holidaysChanged d (change s.calendar.holidays) t.blocks := by
  obtain ⟨t, ht, hblocks, hanswers, -⟩ := s.perform_request h f effect
  rw [he] at hblocks hanswers
  exact ⟨t, ht, hanswers, hblocks ▸ (s.holding f).changeHolidays_blocks d change⟩

/-! ## The requests -/

theorem exec_setHoliday (tag : Byte) (d : Date) (rule : Nat) (s : State) :
    exec (.setHoliday tag d rule) s = execSetHoliday tag d rule s := rfl

theorem exec_dropHoliday (tag : Byte) (d : Date) (s : State) :
    exec (.dropHoliday tag d) s = execDropHoliday tag d s := rfl

theorem DayRule.ofCode?_eq_none {n : Nat} (h : 8 < n) : DayRule.ofCode? n = none := by
  rw [DayRule.ofCode?, if_neg (by omega), dif_neg (by omega), if_neg (by omega)]

theorem doSetHoliday_noRule {d : Date} {rule : Nat} (h : DayRule.ofCode? rule = none) (s : State) :
    doSetHoliday d rule s = s.refuse .range := by
  simp only [doSetHoliday, h]

theorem doSetHoliday_noDate {d : Date} (h : d.valid = false) (rule : Nat) (s : State) :
    doSetHoliday d rule s = s.refuse .range := by
  have hdate : ¬d.valid = true := by simp [h]
  simp only [doSetHoliday, if_pos hdate]
  split <;> rfl

/-- Past the range check the list decides: a new date finds no room, or the entry is put in its place. -/
theorem doSetHoliday_inRange {d : Date} {rule : Nat} {r : DayRule} (hd : d.valid = true)
    (hr : DayRule.ofCode? rule = some r) (s : State) :
    doSetHoliday d rule s =
      if (¬∃ h ∈ s.calendar.holidays, h.date = d) ∧ 16 ≤ s.calendar.holidays.length then s.refuse .conflict
      else (s.changeHolidays d (insertHoliday { date := d, rule := r })).accept := by
  have hcheck : (!s.calendar.holidays.any (fun h => h.date == d) &&
      decide (Config.holidayCapacity ≤ s.calendar.holidays.length)) = true ↔
      (¬∃ h ∈ s.calendar.holidays, h.date = d) ∧ 16 ≤ s.calendar.holidays.length := by
    rw [Bool.and_eq_true, Bool.not_eq_true', decide_eq_true_iff, ← anyDated_iff, Bool.not_eq_true,
      Config.holidayCapacity]
  simp only [doSetHoliday, hr, hd, not_true_eq_false, if_false, hcheck]

theorem doDropHoliday_noDate {d : Date} (h : d.valid = false) (s : State) :
    doDropHoliday d s = s.refuse .range := by
  have hdate : ¬d.valid = true := by simp [h]
  rw [doDropHoliday, if_pos hdate]

theorem doDropHoliday_valid {d : Date} (hd : d.valid = true) (s : State) :
    doDropHoliday d s =
      if ∃ h ∈ s.calendar.holidays, h.date = d then
        (s.changeHolidays d (List.filter (fun h => h.date != d))).accept
      else s.refuse .notFound := by
  simp only [doDropHoliday, hd, not_true_eq_false, if_false, anyDated_iff]

/-- Settles O44: the checks decide the answer, and an accepted request changes the list, in date order by
`insertHoliday_eq`, and evaluates for today's date. -/
theorem holidaysAreSetAndDropped : Obligations.HolidaysAreSetAndDropped := by
  intro s tag d hs ⟨hsorted, _, hvalid⟩
  refine ⟨fun hd => ⟨fun rule => ?_, ?_⟩, fun rule hrule => ?_, fun hd =>
    ⟨fun rule r hr => ⟨fun hnew hfull => ?_, fun hroom => ?_⟩, fun hnew => ?_, fun hold => ?_⟩⟩
  · rw [exec_setHoliday]
    exact s.perform_refused hs _ _ .range (doSetHoliday_noDate hd rule _)
  · rw [exec_dropHoliday]
    exact s.perform_refused hs _ _ .range (doDropHoliday_noDate hd _)
  · rw [exec_setHoliday]
    exact s.perform_refused hs _ _ .range (doSetHoliday_noRule (DayRule.ofCode?_eq_none hrule) _)
  · have habsent : ¬∃ h ∈ s.calendar.holidays, h.date = d := fun ⟨h, hmem, hdate⟩ => hnew h hmem hdate
    rw [exec_setHoliday]
    exact s.perform_refused hs _ _ .conflict ((doSetHoliday_inRange hd hr _).trans (if_pos ⟨habsent, hfull⟩))
  · have hfits : ¬((¬∃ h ∈ s.calendar.holidays, h.date = d) ∧ 16 ≤ s.calendar.holidays.length) :=
      fun ⟨habsent, hfull⟩ => hroom.elim habsent hfull.not_gt
    rw [exec_setHoliday, ← insertHoliday_eq (e := { date := d, rule := r }) hd hsorted hvalid]
    exact State.perform_holidaysChanged hs _ _ d _ ((doSetHoliday_inRange hd hr _).trans (if_neg hfits))
  · have habsent : ¬∃ h ∈ s.calendar.holidays, h.date = d := fun ⟨h, hmem, hdate⟩ => hnew h hmem hdate
    rw [exec_dropHoliday]
    exact s.perform_refused hs _ _ .notFound ((doDropHoliday_valid hd _).trans (if_neg habsent))
  · rw [exec_dropHoliday]
    exact State.perform_holidaysChanged hs _ _ d _ ((doDropHoliday_valid hd _).trans (if_pos hold))

end Sys2Proof.Machine
end

section
/-!
PROOFS. SET ASSENT (R140): the range check over the thirteen parameters, the LOCKED states, and what power-on and a soft
restart leave of the parameters.
-/

namespace Sys2Proof.Machine

theorem exec_setAssent (tag : Byte) (f : AssentFields) (s : State) :
    exec (.setAssent tag f) s = execSetAssent tag f s := rfl

/-! ## The range check -/

theorem bool?_of_le {n : Nat} (h : n ≤ 1) : bool? n = some (n == 1) := by
  interval_cases n <;> rfl

theorem bool?_of_lt {n : Nat} (h : 1 < n) : bool? n = none := by
  obtain ⟨k, rfl⟩ := Nat.exists_eq_add_of_le' h
  rfl

/-- Every parameter is within its range, the high threshold counted from above the low one (the table of R140). -/
abbrev AssentFields.inRange (f : AssentFields) : Prop :=
  f.answerOpen ≤ 255 ∧ 1 ≤ f.answerClose ∧ f.answerClose ≤ 63 ∧ f.answerTimeout ≤ 63 ∧ f.requestOpen ≤ 255 ∧
  1 ≤ f.requestClose ∧ f.requestClose ≤ 63 ∧ f.requestTimeout ≤ 63 ∧ f.requestCheck ≤ 1 ∧ f.timeoutAction ≤ 1 ∧
  1 ≤ f.startCount ∧ f.startCount ≤ 15 ∧ 1 ≤ f.goodStep ∧ f.goodStep ≤ 4 ∧ 1 ≤ f.badStep ∧ f.badStep ≤ 7 ∧
  1 ≤ f.lowThreshold ∧ f.lowThreshold ≤ 14 ∧ f.lowThreshold + 1 ≤ f.highThreshold ∧ f.highThreshold ≤ 15

/-- The parameters that fields within their ranges stand for; timeout action 0 is LAPSE (R176). -/
def AssentFields.toParams (f : AssentFields) : AssentParams :=
  { answerOpen := f.answerOpen, answerClose := f.answerClose, answerTimeout := f.answerTimeout,
    requestOpen := f.requestOpen, requestClose := f.requestClose, requestTimeout := f.requestTimeout,
    requestCheck := f.requestCheck == 1, timeoutLapse := f.timeoutAction == 0, startCount := f.startCount,
    goodStep := f.goodStep, badStep := f.badStep, lowThreshold := f.lowThreshold, highThreshold := f.highThreshold }

theorem AssentFields.params?_of_inRange {f : AssentFields} (h : f.inRange) : f.params? = some f.toParams := by
  obtain ⟨_, _, _, _, _, _, _, _, hcheck, haction, _⟩ := id h
  have hlapse : (!(f.timeoutAction == 1)) = (f.timeoutAction == 0) := by
    interval_cases f.timeoutAction <;> rfl
  simp only [AssentFields.params?, bool?_of_le hcheck, bool?_of_le haction, hlapse, Option.bind_eq_bind,
    Option.bind_some, Bool.and_eq_true, within_iff]
  exact if_pos (by omega)

theorem AssentFields.params?_of_outOfRange {f : AssentFields} (h : ¬f.inRange) : f.params? = none := by
  rcases Nat.lt_or_ge 1 f.requestCheck with hcheck | hcheck
  · simp only [AssentFields.params?, bool?_of_lt hcheck, Option.bind_eq_bind, Option.bind_none]
  · rcases Nat.lt_or_ge 1 f.timeoutAction with haction | haction
    · simp only [AssentFields.params?, bool?_of_lt haction, bool?_of_le hcheck, Option.bind_eq_bind, Option.bind_none,
        Option.bind_some]
    · simp only [AssentFields.params?, bool?_of_le hcheck, bool?_of_le haction, Option.bind_eq_bind, Option.bind_some,
        Bool.and_eq_true, within_iff]
      exact if_neg (by omega)

/-! ## The request -/

theorem AssentState.runs_iff {a : AssentState} :
    a.runs = true ↔ ∃ e, a = .awaitAnswer e ∨ a = .awaitChallenge e := by
  cases a <;> simp [AssentState.runs]

theorem doSetAssent_outOfRange {f : AssentFields} (h : ¬f.inRange) (s : State) :
    doSetAssent f s = s.refuse .range := by
  simp only [doSetAssent, AssentFields.params?_of_outOfRange h]

theorem doSetAssent_inRange {f : AssentFields} (h : f.inRange) (s : State) :
    doSetAssent f s =
      if s.assent.state.runs then s.refuse .locked
      else (s.setAssent (fun a => { a with params := f.toParams })).accept := by
  simp only [doSetAssent, AssentFields.params?_of_inRange h]
  rfl

/-! ## The soft restart -/

@[simp] theorem State.softRestart_assent (s : State) : s.softRestart.assent = s.assent.restart := by
  simp [State.softRestart]

/-- The restart whose reply is in progress takes effect and restarts the assent record (R154, R174). -/
theorem exec_softRestartTakesEffect_assent {u : State} (hu : u.restarting) :
    ∃ t, exec .softRestartTakesEffect u = .next t ∧ t.assent = u.assent.restart := by
  refine ⟨_, by rw [exec_softRestartTakesEffect, execSoftRestartTakesEffect, State.perform_eq, hu.1], ?_⟩
  simp

/-- Settles O45: the range check and the state of the monitor decide the answer; the restart keeps the parameters. -/
theorem assentParametersAreSet : Obligations.AssentParametersAreSet := by
  intro s tag f hs
  refine ⟨⟨fun hout => ?_, fun hin hruns => ?_, fun hin hrests => ?_⟩, rfl, fun u hu => ?_⟩
  · rw [exec_setAssent]
    exact s.perform_refused hs _ _ .range (doSetAssent_outOfRange hout _)
  · rw [exec_setAssent]
    exact s.perform_refused hs _ _ .locked
      ((doSetAssent_inRange hin _).trans (if_pos (AssentState.runs_iff.mpr hruns)))
  · have hrest : ¬s.assent.state.runs = true := by
      rcases hrests with h | h <;> rw [h] <;> exact Bool.false_ne_true
    obtain ⟨t, ht, hblocks, hanswers, -⟩ := s.perform_request hs { kind := 10, tag, payload := f.bytes } (doSetAssent f)
    rw [(doSetAssent_inRange hin (s.holding _)).trans (if_neg hrest)] at hblocks hanswers
    exact ⟨t, ht, hanswers, hblocks⟩
  · obtain ⟨t, ht, hassent⟩ := exec_softRestartTakesEffect_assent hu
    exact ⟨t, ht, by rw [hassent]; rfl⟩

end Sys2Proof.Machine
end

section
/-!
PROOFS. The steps of the assent monitor (R150, R151): what a good step, a bad step and a lapse make of the blocks. A
step alone changes the assent record and the notices; a lapse also counts a fault event and wakes loads.
-/

namespace Sys2Proof.Machine

theorem AssentState.awaitAnswer_ne_lapsed {e : Nat} : AssentState.awaitAnswer e ≠ .lapsed := nofun

theorem AssentState.awaitChallenge_ne_lapsed {e : Nat} : AssentState.awaitChallenge e ≠ .lapsed := nofun

/-! ## Steps without a lapse (R150) -/

/-- From the one to the other the assent record became `a`, and besides only notices were queued. -/
structure Blocks.Stepped (a : Assent) (b b' : Blocks) : Prop where
  blocks : b' = { b with assent := a, alerts := b'.alerts }
  alerts : b.alerts.sameButQueue b'.alerts

theorem Blocks.Stepped.assent {a : Assent} {b b' : Blocks} (h : b.Stepped a b') : b'.assent = a := by
  rw [h.blocks]

theorem Blocks.Stepped.trans {a a' : Assent} {b c d : Blocks} (h : b.Stepped a c) (k : c.Stepped a' d) :
    b.Stepped a' d :=
  ⟨by rw [k.blocks, h.blocks], by rw [Alerts.sameButQueue, k.alerts, h.alerts]⟩

theorem State.OnlyNotices.stepped {s t : State} (h : s.OnlyNotices t) : s.blocks.Stepped s.assent t.blocks :=
  ⟨h.blocks, h.alerts⟩

theorem State.setAssent_stepped (f : Assent → Assent) (s : State) :
    s.blocks.Stepped (f s.assent) (s.setAssent f).blocks := ⟨rfl, rfl⟩

/-- Changing the record and then raising a device event is a step. -/
theorem State.setAssent_raiseDevice_stepped (f : Assent → Assent) (e : DeviceEvent) (s : State) :
    s.blocks.Stepped (f s.assent) ((s.setAssent f).raiseDevice e).blocks :=
  (s.setAssent_stepped f).trans ((s.setAssent f).raiseDeviceWith_onlyNotices 0 0 e).stepped

/-- Judging PERMIT sets it to what the thresholds make of it at the present count (R150). -/
theorem State.judgePermit_stepped (s : State) :
    s.blocks.Stepped { s.assent with permit := s.assent.permitAt s.assent.trust } s.judgePermit.blocks := by
  unfold State.judgePermit
  split_ifs with hset hclear
  · obtain ⟨hoff, hhigh⟩ := hset
    have hpermit : s.assent.permitAt s.assent.trust = true := by simp [Assent.permitAt, hoff, hhigh]
    rw [hpermit]
    exact s.setAssent_raiseDevice_stepped (fun a => { a with permit := true }) _
  · obtain ⟨hon, hlow⟩ := hclear
    have hpermit : s.assent.permitAt s.assent.trust = false := by simp [Assent.permitAt, hon, hlow]
    rw [hpermit]
    exact s.setAssent_raiseDevice_stepped (fun a => { a with permit := false }) _
  · have hpermit : s.assent.permitAt s.assent.trust = s.assent.permit := by
      cases hp : s.assent.permit with
      | false => simpa [Assent.permitAt, hp] using hset
      | true => simpa [Assent.permitAt, hp] using hclear
    rw [hpermit]
    exact ⟨rfl, rfl⟩

/-- The record with a new trust count, and PERMIT judged at it (R150). -/
def Assent.withTrust (trust : Nat) (a : Assent) : Assent := { a with trust, permit := a.permitAt trust }

/-- Changing the trust count and then judging PERMIT gives the record that has the count. -/
theorem State.setTrust_judgePermit_stepped (trust : Nat) (s : State) :
    s.blocks.Stepped (s.assent.withTrust trust) (s.setAssent (fun a => { a with trust })).judgePermit.blocks :=
  (s.setAssent_stepped _).trans (s.setAssent (fun a => { a with trust })).judgePermit_stepped

theorem State.goodStep_stepped (s : State) :
    s.blocks.Stepped (s.assent.withTrust (min 15 (s.assent.trust + s.assent.params.goodStep))) s.goodStep.blocks :=
  s.setTrust_judgePermit_stepped _

theorem State.badStep_stepped (s : State) :
    s.blocks.Stepped (s.assent.withTrust (s.assent.trust - s.assent.params.badStep)) s.badStep.blocks :=
  s.setTrust_judgePermit_stepped _

/-! ## The lapse (R151, R152) -/

theorem State.clearPermit_stepped (s : State) :
    s.blocks.Stepped { s.assent with permit := false } s.clearPermit.blocks := by
  unfold State.clearPermit
  split_ifs with hpermit
  · exact s.setAssent_raiseDevice_stepped (fun a => { a with permit := false }) _
  · rw [← Bool.eq_false_of_not_eq_true hpermit]
    exact ⟨rfl, rfl⟩

/-- The record of a lapse in which PERMIT and the trust count are clear already (R151). -/
def Assent.lapsing (byCount : Bool) (a : Assent) : Assent :=
  { a with state := .lapsed, flags := { a.flags with lapsedByCount := a.flags.lapsedByCount || byCount },
           lapses := min 15 (a.lapses + 1) }

/-- The part in a lapse, before the fault event is counted and loads are woken. -/
def State.lapseBegun (byCount : Bool) (s : State) : State :=
  ((s.setAssent (fun a => { a with trust := 0 })).clearPermit.setAssent (Assent.lapsing byCount)).raiseDevice
    .assentLapsed

theorem State.lapse_eq (byCount : Bool) (s : State) :
    s.lapse byCount = (s.lapseBegun byCount).countFault.fallbackWakes := rfl

theorem State.lapseBegun_stepped (byCount : Bool) (s : State) :
    s.blocks.Stepped (s.assent.afterLapse byCount) (s.lapseBegun byCount).blocks := by
  have hcleared := (s.setAssent_stepped (fun a => { a with trust := 0 })).trans (State.clearPermit_stepped _)
  have hlapsed := hcleared.trans (State.setAssent_raiseDevice_stepped (Assent.lapsing byCount) .assentLapsed _)
  rw [← State.blocks_assent, hcleared.assent] at hlapsed
  exact hlapsed

/-- The assent record became `a`. If it lapsed, a fault event was counted and the plant may have changed; if not, only
notices were queued besides. -/
structure Blocks.Moved (a : Assent) (b b' : Blocks) : Prop where
  blocks : b' = { b with plant := b'.plant, assent := a, alerts := b'.alerts }
  lapsed : a.state = .lapsed → b.alerts.faultCounted b'.alerts
  running : a.state ≠ .lapsed → b'.plant = b.plant ∧ b.alerts.sameButQueue b'.alerts

theorem Blocks.Moved.assent {a : Assent} {b b' : Blocks} (h : b.Moved a b') : b'.assent = a := by
  rw [h.blocks]

/-- What comes after a step moves the blocks from those before the step. -/
theorem Blocks.Stepped.moved {a a' : Assent} {b c d : Blocks} (h : b.Stepped a c) (k : c.Moved a' d) :
    b.Moved a' d := by
  obtain ⟨hblocks, halerts⟩ := h
  obtain ⟨kblocks, klapsed, krunning⟩ := k
  refine ⟨by rw [kblocks, hblocks], fun hl => ?_, fun hr => ?_⟩
  · have hcounted := klapsed hl
    rw [halerts] at hcounted
    exact hcounted
  · obtain ⟨kplant, kalerts⟩ := krunning hr
    exact ⟨by rw [kplant, hblocks], by rw [Alerts.sameButQueue, kalerts, halerts]⟩

/-- A step that leaves the monitor running moves the blocks. -/
theorem Blocks.Stepped.toMoved {a : Assent} {b b' : Blocks} (h : b.Stepped a b') (ha : a.state ≠ .lapsed) :
    b.Moved a b' := by
  have hplant : b'.plant = b.plant := by rw [h.blocks]
  exact ⟨by rw [hplant]; exact h.blocks, fun hl => absurd hl ha, fun _ => ⟨hplant, h.alerts⟩⟩

theorem State.lapse_moved (byCount : Bool) (s : State) :
    s.blocks.Moved (s.assent.afterLapse byCount) (s.lapse byCount).blocks := by
  have hbegun := s.lapseBegun_stepped byCount
  rw [State.lapse_eq]
  refine hbegun.moved ⟨?_, fun _ => ?_, fun hr => absurd rfl hr⟩
  · rw [← hbegun.assent]; rfl
  · exact Alerts.faultCounted_countFault (s.lapseBegun byCount).alerts

/-! ## A good step and a bad step, and the state they leave (R144 to R149) -/

theorem State.goodStep_setAssent_moved (g : Assent → Assent) (s : State)
    (hg : (g (s.assent.withTrust (min 15 (s.assent.trust + s.assent.params.goodStep)))).state ≠ .lapsed) :
    s.blocks.Moved (g (s.assent.withTrust (min 15 (s.assent.trust + s.assent.params.goodStep))))
      (s.goodStep.setAssent g).blocks := by
  have hgood := s.goodStep_stepped
  have hstep := hgood.trans (s.goodStep.setAssent_stepped g)
  rw [← State.blocks_assent, hgood.assent] at hstep
  exact hstep.toMoved hg

theorem Assent.afterBad_eq (next : AssentState) (a : Assent) :
    a.afterBad next =
      if a.trust - a.params.badStep = 0 then a.afterLapse true
      else { a.withTrust (a.trust - a.params.badStep) with state := next } := rfl

@[simp] theorem Assent.afterBad_token (next : AssentState) (a : Assent) : (a.afterBad next).token = a.token := by
  rw [Assent.afterBad_eq]
  split_ifs <;> rfl

/-- A bad step lapses the monitor at a count of 0, and otherwise leaves it in the state given. -/
theorem State.badStepThen_moved {next : AssentState} (hnext : next ≠ .lapsed) (s : State) :
    s.blocks.Moved (s.assent.afterBad next) (s.badStepThen next).blocks := by
  have hbad := s.badStep_stepped
  have hassent : s.badStep.assent = s.assent.withTrust (s.assent.trust - s.assent.params.badStep) := hbad.assent
  have htrust : s.badStep.assent.trust = s.assent.trust - s.assent.params.badStep := by rw [hassent]; rfl
  rw [State.badStepThen, Assent.afterBad_eq, htrust]
  split_ifs with hzero
  · have hlapse := hbad.moved (s.badStep.lapse_moved true)
    rw [hassent] at hlapse
    exact hlapse
  · have hstep := hbad.trans (s.badStep.setAssent_stepped (fun a => { a with state := next }))
    rw [hassent] at hstep
    exact hstep.toMoved hnext

/-- A status flag is set, and then a bad step is taken. -/
theorem State.flagged_badStepThen_moved {next : AssentState} (hnext : next ≠ .lapsed)
    (f : AssentFlags → AssentFlags) (s : State) :
    s.blocks.Moved (({ s.assent with flags := f s.assent.flags } : Assent).afterBad next)
      ((s.setAssent (fun a => { a with flags := f a.flags })).badStepThen next).blocks :=
  (s.setAssent_stepped (fun a => { a with flags := f a.flags })).moved
    (State.badStepThen_moved hnext (s.setAssent (fun a => { a with flags := f a.flags })))

/-! ## Windows (R141) -/

theorem windowPart_early {o c e : Nat} (h : e < o) : windowPart o c e = .early := if_pos h

theorem windowPart_inWindow {o c e : Nat} (h : ¬e < o) (h' : e < o + c) : windowPart o c e = .inWindow := by
  rw [windowPart, if_neg h, if_pos h']

theorem windowPart_late {o c e : Nat} (h : ¬e < o) (h' : ¬e < o + c) : windowPart o c e = .late := by
  rw [windowPart, if_neg h, if_neg h']

/-! ## The replies of the monitor (R153) -/

/-- A reply of the monitor carries its state, and its trust count with PERMIT in bit 7. -/
theorem Assent.answer_data (a : Assent) (code : ReplyCode) (item : Option (List Byte)) :
    (a.answer code item).data = [b8 a.state.code, b8 (a.trust + 128 * a.permit.toNat)] ++ optItem item := by
  cases h : a.permit <;> simp [Assent.answer, bitValue, h]

/-- A request that changes the part and answers with the record it leaves: what its row comes to on a ready part. -/
theorem State.perform_monitorReply {s : State} (hs : s.ready) (f : Frame) (effect : State → State × Answer)
    (change : State → State) (code : ReplyCode) (item : Assent → Option (List Byte))
    (he : effect (s.holding f) =
      (change (s.holding f), (change (s.holding f)).assent.answer code (item (change (s.holding f)).assent))) :
    ∃ t, s.perform (State.request f effect) = .next t ∧ t.blocks = (change (s.holding f)).blocks ∧
      t.answers f.kind f.tag code
        ([b8 t.assent.state.code, b8 (t.assent.trust + 128 * t.assent.permit.toNat)] ++ optItem (item t.assent)) := by
  obtain ⟨t, ht, hblocks, hanswers, -⟩ := s.perform_request hs f effect
  rw [he] at hblocks hanswers
  have hleft : (change (s.holding f)).assent = t.assent := (congrArg Blocks.assent hblocks).symm
  rw [Assent.answer_data, hleft] at hanswers
  exact ⟨t, ht, hblocks, hanswers⟩

end Sys2Proof.Machine
end

section
/-!
PROOFS. CHALLENGE (R143 to R145): the record it leaves in each state of the monitor, and what of the other blocks it
changes.
-/

namespace Sys2Proof.Machine

theorem exec_challenge (tag : Byte) (s : State) : exec (.challenge tag) s = execChallenge tag s := rfl

/-- The record of a monitor that has just been started (R143). -/
def Assent.started (a : Assent) : Assent := { a.withTrust a.params.startCount with state := .awaitAnswer 0 }

/-- The record after a CHALLENGE judged against the request window (R144). -/
def Assent.afterRequest (e : Nat) (a : Assent) : Assent :=
  if a.params.requestCheck = false then { a with state := .awaitAnswer 0 }
  else if e < a.params.requestOpen then
    { a with flags := { a.flags with earlyRequest := true } }.afterBad (.awaitAnswer 0)
  else if e < a.params.requestOpen + a.params.requestClose then a.afterGood (.awaitAnswer 0)
  else { a with flags := { a.flags with lateRequest := true } }.afterBad (.awaitAnswer 0)

/-- The record after a CHALLENGE (R143 to R145). -/
def Assent.afterChallenge (a : Assent) : Assent :=
  match a.state with
  | .dormant => a.started
  | .lapsed => a.started
  | .awaitAnswer _ => a.afterBad (.awaitAnswer 0)
  | .awaitChallenge e => a.afterRequest e

theorem Assent.afterChallenge_token (a : Assent) : a.afterChallenge.token = a.token := by
  unfold Assent.afterChallenge
  split
  · rfl
  · rfl
  · exact a.afterBad_token _
  · unfold Assent.afterRequest
    split_ifs <;> simp [Assent.afterGood]

/-- What a CHALLENGE leaves of the blocks: as `Blocks.Moved`, but on a start from LAPSED the beacon may be released. -/
structure Blocks.Challenged (a : Assent) (b b' : Blocks) : Prop where
  blocks : b' = { b with plant := b'.plant, assent := a, alerts := b'.alerts }
  lapsed : a.state = .lapsed → b.alerts.faultCounted b'.alerts
  running : a.state ≠ .lapsed → b'.plant = b.plant ∧
    b'.alerts = { b.alerts with queue := b'.alerts.queue, beacon := b'.alerts.beacon } ∧
    (b.assent.state ≠ .lapsed → b'.alerts.beacon = b.alerts.beacon)

theorem Blocks.Challenged.assent {a : Assent} {b b' : Blocks} (h : b.Challenged a b') : b'.assent = a := by
  rw [h.blocks]

theorem Blocks.Moved.challenged {a : Assent} {b b' : Blocks} (h : b.Moved a b') : b.Challenged a b' := by
  refine ⟨h.blocks, h.lapsed, fun hr => ?_⟩
  obtain ⟨hplant, halerts⟩ := h.running hr
  exact ⟨hplant, by rw [halerts], fun _ => by rw [halerts]⟩

/-- The record of a start whose PERMIT is still to be judged (R143). -/
def Assent.starting (a : Assent) : Assent := { a with trust := a.params.startCount, state := .awaitAnswer 0 }

theorem State.startMonitor_eq (s : State) :
    s.startMonitor =
      if s.assent.state = .lapsed then (s.setAssent Assent.starting).judgePermit.evaluateBeacon
      else (s.setAssent Assent.starting).judgePermit := rfl

/-- A start queues notices and, from LAPSED, evaluates the beacon's release (R143, R161). -/
theorem State.startMonitor_challenged (s : State) :
    s.blocks.Challenged s.assent.started s.startMonitor.blocks := by
  have hstart : s.blocks.Stepped s.assent.started (s.setAssent Assent.starting).judgePermit.blocks :=
    (s.setAssent_stepped Assent.starting).trans (s.setAssent Assent.starting).judgePermit_stepped
  have hstarted := (hstart.toMoved nofun).challenged
  rw [State.startMonitor_eq]
  split_ifs with hlapsed
  · rw [State.evaluateBeacon_blocks, State.evaluateBeacon_alerts]
    obtain ⟨hblocks, -, hrunning⟩ := hstarted
    obtain ⟨hplant, halerts, -⟩ := hrunning nofun
    refine ⟨?_, nofun, fun _ => ⟨hplant, ?_, fun hnot => absurd hlapsed hnot⟩⟩
    · rw [hblocks]
    · rw [← State.blocks_alerts, halerts]
  · exact hstarted

theorem State.judgeRequest_moved (e : Nat) (s : State) :
    s.blocks.Moved (s.assent.afterRequest e) (s.judgeRequest e).blocks := by
  unfold State.judgeRequest Assent.afterRequest
  by_cases hcheck : s.assent.params.requestCheck = true
  · rw [if_pos hcheck, if_neg (by simp [hcheck])]
    split_ifs with hearly hinside
    · rw [windowPart_early hearly]
      exact s.flagged_badStepThen_moved AssentState.awaitAnswer_ne_lapsed (fun f => { f with earlyRequest := true })
    · rw [windowPart_inWindow hearly hinside]
      exact s.goodStep_setAssent_moved (fun a => { a with state := .awaitAnswer 0 }) nofun
    · rw [windowPart_late hearly hinside]
      exact s.flagged_badStepThen_moved AssentState.awaitAnswer_ne_lapsed (fun f => { f with lateRequest := true })
  · rw [if_neg hcheck, if_pos (Bool.eq_false_of_not_eq_true hcheck)]
    exact (s.setAssent_stepped (fun a => { a with state := .awaitAnswer 0 })).toMoved nofun

/-- A CHALLENGE leaves the record of `Assent.afterChallenge`, in each state of the monitor (R143 to R145). -/
theorem State.challenged_blocks (s : State) :
    s.blocks.Challenged s.assent.afterChallenge s.challenged.blocks := by
  unfold State.challenged Assent.afterChallenge
  cases s.assent.state with
  | dormant => exact s.startMonitor_challenged
  | lapsed => exact s.startMonitor_challenged
  | awaitAnswer e => exact (State.badStepThen_moved AssentState.awaitAnswer_ne_lapsed s).challenged
  | awaitChallenge e => exact (s.judgeRequest_moved e).challenged

/-- The reply to a CHALLENGE carries the token of a record that it leaves in AWAIT_ANSWER, and no other (R144, R145). -/
theorem Assent.optItem_tokenItem (a : Assent) :
    optItem a.tokenItem = match a.state with
      | .awaitAnswer _ => 1 :: b16 a.token
      | _ => [0] := by
  unfold Assent.tokenItem
  cases a.state <;> rfl

/-- Settles O52: what each state of the monitor makes of a CHALLENGE, and the reply with the record left. -/
theorem challengesAreJudged : Obligations.ChallengesAreJudged := by
  intro s tag hs
  rw [exec_challenge]
  obtain ⟨t, ht, hblocks, hanswers⟩ := State.perform_monitorReply hs { kind := 25, tag, payload := [] } doChallenge
    State.challenged .done Assent.tokenItem rfl
  have hchallenged : s.blocks.Challenged s.assent.afterChallenge t.blocks := hblocks ▸ (s.holding _).challenged_blocks
  have hassent : t.assent = s.assent.afterChallenge := hchallenged.assent
  have htoken : t.assent.token = s.assent.token := by rw [hassent, Assent.afterChallenge_token]
  rw [Assent.optItem_tokenItem, htoken] at hanswers
  obtain ⟨hframe, hlapsed, hrunning⟩ := hchallenged
  rw [← hassent] at hframe hlapsed hrunning
  exact ⟨t, ht, hanswers, hassent, hframe, hlapsed, hrunning⟩

end Sys2Proof.Machine
end

section
/-!
PROOFS. ANSWER (R146, R147): the judgement, the record it leaves, and the reply in each state of the monitor.
-/

namespace Sys2Proof.Machine

/-- The frame of an ANSWER (R177). -/
def answerFrame (tag : Byte) (echo value : Nat) : Frame := { kind := 26, tag, payload := b16 echo ++ b16 value }

theorem exec_answer (tag : Byte) (echo value : Nat) (s : State) :
    exec (.answer tag echo value) s =
      s.perform (State.request (answerFrame tag echo value) (doAnswer echo value)) := rfl

/-! ## The judgement (R142, R146) -/

theorem Assent.judge_early {a : Assent} {e : Nat} (h : e < a.params.answerOpen) (echo value : Nat) :
    a.judge e echo value = .early := by
  rw [Assent.judge, windowPart_early h]

theorem Assent.judge_late {a : Assent} {e : Nat} (h : ¬e < a.params.answerOpen)
    (h' : a.params.answerOpen + a.params.answerClose ≤ e) (echo value : Nat) : a.judge e echo value = .late := by
  rw [Assent.judge, windowPart_late h h'.not_gt]

/-- In the window the pair decides. -/
theorem Assent.judge_inside {a : Assent} {e : Nat} (h : ¬e < a.params.answerOpen)
    (h' : ¬a.params.answerOpen + a.params.answerClose ≤ e) (echo value : Nat) :
    a.judge e echo value = if echo = a.token ∧ value = 65535 - a.token then .inWindow else .wrong := by
  rw [Assent.judge, windowPart_inWindow h (not_le.mp h')]

/-- The record after an answer of this judgement (R142, R146). -/
def Assent.afterJudged (a : Assent) : Judgement → Assent
  | .early => { a with flags := { a.flags with earlyAnswer := true } }.afterBad (.awaitChallenge 0)
  | .late => { a with flags := { a.flags with lateAnswer := true } }.afterBad (.awaitChallenge 0)
  | .wrong => { a with flags := { a.flags with wrongAnswer := true } }.afterBad (.awaitChallenge 0)
  | .inWindow => { a.afterGood (.awaitChallenge 0) with token := nextToken a.token }

theorem State.answered_moved (j : Judgement) (s : State) :
    s.blocks.Moved (s.assent.afterJudged j) (s.answered j).blocks := by
  cases j with
  | early =>
    exact s.flagged_badStepThen_moved AssentState.awaitChallenge_ne_lapsed (fun f => { f with earlyAnswer := true })
  | late =>
    exact s.flagged_badStepThen_moved AssentState.awaitChallenge_ne_lapsed (fun f => { f with lateAnswer := true })
  | wrong =>
    exact s.flagged_badStepThen_moved AssentState.awaitChallenge_ne_lapsed (fun f => { f with wrongAnswer := true })
  | inWindow =>
    exact s.goodStep_setAssent_moved (fun a => { a with token := nextToken a.token, state := .awaitChallenge 0 }) nofun

/-! ## The request in each state of the monitor -/

theorem doAnswer_awaitAnswer {s : State} {e : Nat} (h : s.assent.state = .awaitAnswer e) (echo value : Nat) :
    doAnswer echo value s =
      (s.answered (s.assent.judge e echo value),
        (s.answered (s.assent.judge e echo value)).assent.answer .done
          (some [b8 (s.assent.judge e echo value).code])) := by
  simp only [doAnswer, h]

theorem doAnswer_awaitChallenge {s : State} {e : Nat} (h : s.assent.state = .awaitChallenge e) (echo value : Nat) :
    doAnswer echo value s =
      (s.badStepThen (.awaitChallenge e), (s.badStepThen (.awaitChallenge e)).assent.answer .ignored none) := by
  simp only [doAnswer, h]

/-- A monitor that does not run answers NOT_STARTED (R147). -/
theorem doAnswer_resting {s : State} (h : s.assent.state = .dormant ∨ s.assent.state = .lapsed) (echo value : Nat) :
    doAnswer echo value s = (s, s.assent.answer .notStarted none) := by
  rcases h with h | h <;> simp only [doAnswer, h]

/-- An ANSWER taken in AWAIT_ANSWER is judged; the record left and the reply follow the judgement (R146). -/
theorem exec_answer_awaitAnswer {s : State} (hs : s.ready) {e : Nat} (h : s.assent.state = .awaitAnswer e)
    (tag : Byte) (echo value : Nat) :
    ∃ t, exec (.answer tag echo value) s = .next t ∧
      s.blocks.Moved (s.assent.afterJudged (s.assent.judge e echo value)) t.blocks ∧
      t.assent = s.assent.afterJudged (s.assent.judge e echo value) ∧
      t.answers 26 tag .done [b8 t.assent.state.code, b8 (t.assent.trust + 128 * t.assent.permit.toNat), 1,
        b8 (s.assent.judge e echo value).code] := by
  rw [exec_answer]
  obtain ⟨t, ht, hblocks, hanswers⟩ := State.perform_monitorReply hs (answerFrame tag echo value) _
    (State.answered (s.assent.judge e echo value)) .done (fun _ => some [b8 (s.assent.judge e echo value).code])
    (doAnswer_awaitAnswer (s := s.holding _) h echo value)
  have hmoved : s.blocks.Moved (s.assent.afterJudged (s.assent.judge e echo value)) t.blocks :=
    hblocks ▸ (s.holding _).answered_moved _
  exact ⟨t, ht, hmoved, hmoved.assent, hanswers⟩

/-- Settles O53: the judgement and the state of the monitor decide the reply and the record left. -/
theorem answersAreJudged : Obligations.AnswersAreJudged := by
  intro s tag echo value hs
  refine ⟨fun e hstate => ?_, fun e hstate => ?_, fun hrests => ?_, rfl, fun u hu => ?_⟩
  · obtain ⟨t, ht, ⟨hframe, hlapsed, hrunning⟩, hassent, hanswers⟩ := exec_answer_awaitAnswer hs hstate tag echo value
    rw [← hassent] at hframe hlapsed hrunning
    refine ⟨t, ht, hframe, hlapsed, hrunning, ?_⟩
    split_ifs with hearly hlate hpair
    · rw [Assent.judge_early hearly] at hassent hanswers
      exact ⟨hanswers, hassent⟩
    · rw [Assent.judge_late hearly hlate] at hassent hanswers
      exact ⟨hanswers, hassent⟩
    · rw [Assent.judge_inside hearly hlate, if_pos hpair] at hassent hanswers
      exact ⟨hanswers, hassent⟩
    · rw [Assent.judge_inside hearly hlate, if_neg hpair] at hassent hanswers
      exact ⟨hanswers, hassent⟩
  · rw [exec_answer]
    obtain ⟨t, ht, hblocks, hanswers⟩ := State.perform_monitorReply hs (answerFrame tag echo value) _
      (State.badStepThen (.awaitChallenge e)) .ignored (fun _ => none)
      (doAnswer_awaitChallenge (s := s.holding _) hstate echo value)
    have hmoved : s.blocks.Moved (s.assent.afterBad (.awaitChallenge e)) t.blocks :=
      hblocks ▸ State.badStepThen_moved AssentState.awaitChallenge_ne_lapsed (s.holding _)
    have hassent : t.assent = s.assent.afterBad (.awaitChallenge e) := hmoved.assent
    obtain ⟨hframe, hlapsed, hrunning⟩ := hmoved
    rw [← hassent] at hframe hlapsed hrunning
    exact ⟨t, ht, hanswers, hassent, hframe, hlapsed, hrunning⟩
  · rw [exec_answer]
    obtain ⟨t, ht, hblocks, hanswers⟩ := State.perform_monitorReply hs (answerFrame tag echo value) _
      id .notStarted (fun _ => none) (doAnswer_resting (s := s.holding _) hrests echo value)
    have hassent : t.assent = s.assent := congrArg Blocks.assent hblocks
    rw [hassent] at hanswers
    exact ⟨t, ht, hblocks, hanswers⟩
  · obtain ⟨t, ht, hassent⟩ := exec_softRestartTakesEffect_assent hu
    exact ⟨t, ht, by rw [hassent]; rfl⟩

end Sys2Proof.Machine
end

section
/-!
PROOFS. SET ALERT (R162) and the queueing of events (R156, R157): the range check, what the new settings make of the
alert block and the ALERT line, and what raising an event makes of the queue.
-/

namespace Sys2Proof.Machine

theorem exec_setAlert (tag : Byte) (mode tolerance enable stationSet deviceSet : Nat) (s : State) :
    exec (.setAlert tag mode tolerance enable stationSet deviceSet) s =
      execSetAlert tag mode tolerance enable stationSet deviceSet s := rfl

/-! ## The ALERT line (R159) -/

theorem Alerts.asserted_iff (a : Alerts) :
    a.asserted = true ↔ (a.mode = .notice ∧ a.queue ≠ []) ∨ (a.mode = .beacon ∧ a.beacon = true) := by
  unfold Alerts.asserted
  cases a.mode <;> simp

/-- Out of reset the ALERT pin follows the alert block. -/
theorem State.pinLevels_alertLow {s : State} (h : s.inReset = false) : s.pinLevels.alertLow = s.alerts.asserted := by
  simp [State.pinLevels, h]

/-! ## The request (R162) -/

theorem AlertMode.ofCode?_of_lt {n : Nat} (h : 1 < n) : AlertMode.ofCode? n = none := by
  obtain ⟨k, rfl⟩ := Nat.exists_eq_add_of_le' h
  rfl

@[simp] theorem AlertMode.ofCode?_code (m : AlertMode) : AlertMode.ofCode? m.code = some m := by
  cases m <;> rfl

@[simp] theorem bool?_toNat (b : Bool) : bool? b.toNat = some b := by
  cases b <;> rfl

theorem doSetAlert_refused {mode tolerance enable stationSet deviceSet : Nat}
    (h : ¬(mode ≤ 1 ∧ 1 ≤ tolerance ∧ tolerance ≤ 8 ∧ enable ≤ 1 ∧ stationSet ≤ 15 ∧ deviceSet ≤ 255)) (s : State) :
    doSetAlert mode tolerance enable stationSet deviceSet s = s.refuse .range := by
  unfold doSetAlert
  split
  · next m e hmode henable =>
    have hmode' : mode ≤ 1 := by
      by_contra hlt
      simp [AlertMode.ofCode?_of_lt (not_le.mp hlt)] at hmode
    have henable' : enable ≤ 1 := by
      by_contra hlt
      simp [bool?_of_lt (not_le.mp hlt)] at henable
    refine if_neg ?_
    simp only [Bool.and_eq_true, within_iff]
    omega
  · rfl

theorem doSetAlert_accepted (m : AlertMode) {tolerance : Nat} (e : Bool) (ss : BitVec 4) (ds : BitVec 8)
    (h1 : 1 ≤ tolerance) (h8 : tolerance ≤ 8) (s : State) :
    doSetAlert m.code tolerance e.toNat ss.toNat ds.toNat s =
      ({ s with alerts := s.alerts.configure m tolerance e ss ds } : State).evaluateBeacon.accept := by
  have hss := ss.isLt
  have hds := ds.isLt
  have hrange : (within 1 8 tolerance && within 0 15 ss.toNat && within 0 255 ds.toNat) = true := by
    simp only [Bool.and_eq_true, within_iff]
    omega
  simp only [doSetAlert, AlertMode.ofCode?_code, bool?_toNat, if_pos hrange, BitVec.ofNat_toNat, BitVec.setWidth_eq]

/-- An accepted SET ALERT: its reply, the alert block it leaves, and the ALERT line (R159, R162). -/
theorem exec_setAlert_accepted {s : State} (hs : s.ready) (tag : Byte) (m : AlertMode) {tolerance : Nat} (e : Bool)
    (ss : BitVec 4) (ds : BitVec 8) (h1 : 1 ≤ tolerance) (h8 : tolerance ≤ 8) :
    ∃ t, exec (.setAlert tag m.code tolerance e.toNat ss.toNat ds.toNat) s = .next t ∧ t.answers 11 tag .done [] ∧
      t.blocks = { s.blocks with
        alerts := ({ s with alerts := s.alerts.configure m tolerance e ss ds } : State).evaluateBeacon.alerts } ∧
      t.pins.alertLow = t.alerts.asserted := by
  rw [exec_setAlert]
  obtain ⟨t, ht, hblocks, hanswers, hpins⟩ := s.perform_request hs
    { kind := 11, tag, payload := [b8 m.code, b8 tolerance, b8 e.toNat, b8 ss.toNat, b8 ds.toNat] }
    (doSetAlert m.code tolerance e.toNat ss.toNat ds.toNat)
  rw [doSetAlert_accepted m e ss ds h1 h8] at hblocks hanswers
  have hleft := hblocks.trans (State.evaluateBeacon_blocks _)
  have hreset : t.inReset = false := (congrArg Blocks.inReset hleft).trans hs.1
  refine ⟨t, ht, hanswers, ?_, by rw [hpins, State.pinLevels_alertLow hreset]⟩
  rw [hleft, State.evaluateBeacon_alerts, State.evaluateBeacon_alerts]
  rfl

/-! ## Queueing an event (R156, R157) -/

theorem queuedInto_mergeNotice (event : Notice) (q : List Notice) : queuedInto event q (mergeNotice event q) := by
  refine ⟨fun earlier x later hq hx hearlier => ?_, mergeNotice_new event q⟩
  rw [hq]
  exact mergeNotice_old event x earlier later hx hearlier

theorem State.offer_enabled {s : State} (henabled : s.alerts.enabled = true) (event : Notice) :
    s.offer true event = { s with alerts := { s.alerts with queue := mergeNotice event s.alerts.queue } } := by
  rw [State.offer, henabled]
  rfl

theorem State.offer_disabled {s : State} {on : Bool} (h : s.alerts.enabled = false ∨ on = false) (event : Notice) :
    s.offer on event = s := by
  rcases h with h | h <;> simp [State.offer, h]

/-- An offered event is queued where both its own and the global enable are on, and otherwise changes nothing. -/
theorem State.offer_queues (s : State) (on : Bool) (event : Notice) :
    (s.alerts.enabled = true → on = true →
      s.offer on event = { s with alerts := { s.alerts with queue := (s.offer on event).alerts.queue } } ∧
      queuedInto event s.alerts.queue (s.offer on event).alerts.queue) ∧
    (s.alerts.enabled = false ∨ on = false → s.offer on event = s) := by
  refine ⟨fun henabled hon => ?_, fun h => State.offer_disabled h event⟩
  rw [hon, State.offer_enabled henabled]
  exact ⟨rfl, queuedInto_mergeNotice event s.alerts.queue⟩

theorem State.raiseLoad_bound {s : State} {n : Nat} {l : Load} (hl : s.load? n = some l) (e : LoadEvent) :
    s.raiseLoad n e =
      s.offer (l.cfg.events.getLsbD e.bit)
        { source := .load n, kinds := kindBit e.bit, time := s.now, opened := 0, closed := 0 } := by
  simp only [State.raiseLoad, hl]

/-- Settles O46: the request is refused or replaces the settings, and every raised event is one offered to the queue. -/
theorem alertSettingsAreSet : Obligations.AlertSettingsAreSet := by
  refine ⟨fun s tag hs => ⟨fun m tol e ss ds h => ?_, fun m tol e ss ds h1 h8 => ?_⟩,
    fun s => ⟨fun n e l hl => ?_, fun i e => ?_, fun opened closed e => ?_⟩⟩
  · rw [exec_setAlert]
    exact s.perform_refused hs _ _ .range (doSetAlert_refused h _)
  · obtain ⟨t, ht, hanswers, hblocks, halert⟩ := exec_setAlert_accepted hs tag m e ss ds h1 h8
    rw [State.evaluateBeacon_alerts] at hblocks
    have hmode : t.alerts.mode = m := congrArg (fun b => b.alerts.mode) hblocks
    have hqueue : t.alerts.queue = s.alerts.queue := congrArg (fun b => b.alerts.queue) hblocks
    refine ⟨t, ht, hanswers, hblocks, ?_⟩
    rw [halert, Alerts.asserted_iff, hmode, hqueue]
  · rw [State.raiseLoad_bound hl]
    exact s.offer_queues _ _
  · exact s.offer_queues _ _
  · exact s.offer_queues _ _

end Sys2Proof.Machine
end

section
/-!
PROOFS. READ STATUS and FETCH NOTICE (R158, R172, R177): the 31 bytes of the status, cut at the clock, and what each of
the two requests leaves of the part.
-/

namespace Sys2Proof.Machine

theorem exec_readStatus (tag : Byte) (s : State) : exec (.readStatus tag) s = execReadStatus tag s := rfl

theorem exec_fetchNotice (tag : Byte) (s : State) : exec (.fetchNotice tag) s = execFetchNotice tag s := rfl

/-! ## Flags in a byte (R176) -/

theorem bitValue_eq (b : Bool) (i : Nat) : bitValue b i = 2 ^ i * b.toNat := by
  cases b <;> simp [bitValue]

/-! ## The bytes of the status (R177) -/

theorem clockBytes_length (clock : Option Clock) : (clockBytes clock).length = 8 := by
  cases clock <;> rfl

/-- The clock's date, day of week and seconds, all 0 while it is UNSET. -/
theorem clockBytes_eq (clock : Option Clock) :
    clockBytes clock = match clock with
      | none => [0, 0, 0, 0, 0, 0, 0, 0]
      | some k => b16 k.date.year ++ [b8 k.date.month, b8 k.date.day, b8 k.dayOfWeek] ++ b24 k.seconds := by
  cases clock <;> rfl

/-- The number of the station being visited, and 0 where none is. -/
theorem Sweep.currentStation_code (w : Sweep) :
    b8 (index0Code w.currentStation) = match w.line with
      | .slot v => b8 (v.station.val + 1)
      | _ => 0 := by
  unfold Sweep.currentStation
  cases w.line <;> rfl

/-- The alert byte: mode, line and beacon from bit 0. -/
theorem Alerts.statusByte (a : Alerts) :
    b8 (bitValue (a.mode == .beacon) 0 + bitValue a.asserted 1 + bitValue a.beacon 2) = match a.mode with
      | .notice => b8 (2 * (!a.queue.isEmpty).toNat + 4 * a.beacon.toNat)
      | .beacon => b8 (1 + 2 * a.beacon.toNat + 4 * a.beacon.toNat) := by
  simp only [bitValue_eq, Alerts.asserted]
  cases a.mode <;> simp [beq_eq_decide]

/-- The 13 bytes of the status before the clock, the reply code among them. -/
def State.statusHead (s : State) : List Byte :=
  [b8 0, b8 s.sweep.mode.code, b8 (index0Code s.sweep.currentStation), b8 (s.sweep.pendingLast.getD 0),
   b8 (s.sweep.stopRequested.toNat + 2 * s.sweep.rate.code), b8 s.sweep.pause,
   b8 (s.sweep.digest.flags.newCall.toNat + 2 * s.sweep.digest.flags.newLoss.toNat +
     4 * s.sweep.digest.flags.anyMiss.toNat)] ++
  b24 s.sweep.digest.activity ++ [b8 s.sweep.digest.parked] ++ b16 s.sweep.digest.round

/-- The 10 bytes of the status behind the clock. -/
def State.statusTail (s : State) : List Byte :=
  [b8 (s.calendar.held[0].toNat + 2 * s.calendar.held[1].toNat + 4 * s.calendar.held[2].toNat +
     8 * s.calendar.held[3].toNat),
   b8 s.assent.state.code, b8 (s.assent.trust + 128 * s.assent.permit.toNat),
   b8 (s.assent.flags.earlyAnswer.toNat + 2 * s.assent.flags.lateAnswer.toNat +
     4 * s.assent.flags.wrongAnswer.toNat + 8 * s.assent.flags.earlyRequest.toNat +
     16 * s.assent.flags.lateRequest.toNat + 32 * s.assent.flags.answerTimeout.toNat +
     64 * s.assent.flags.requestTimeout.toNat + 128 * s.assent.flags.lapsedByCount.toNat),
   b8 s.assent.lapses, b8 s.alerts.queue.length,
   b8 (bitValue (s.alerts.mode == .beacon) 0 + bitValue s.alerts.asserted 1 + bitValue s.alerts.beacon 2)] ++
  b16 s.link.errors ++ [b8 s.alerts.faultCount]

/-- The payload of READ STATUS is the head, the clock and the tail. -/
theorem State.status_eq (s : State) :
    b8 0 :: s.statusBytes = s.statusHead ++ clockBytes s.calendar.clock ++ s.statusTail := by
  have hflag (b : Bool) : bitValue b 0 = b.toNat := by rw [bitValue_eq, pow_zero, one_mul]
  simp only [State.statusBytes, State.statusHead, State.statusTail, RoundFlags.code, AssentFlags.code, heldCode, hflag]
  simp [bitValue_eq]

theorem State.statusBytes_length (s : State) : s.statusBytes.length = 30 := by
  have hpayload := congrArg List.length s.status_eq
  rw [List.length_append, List.length_append, clockBytes_length] at hpayload
  exact Nat.succ.inj hpayload

/-- A field before the clock is read from the head. -/
theorem State.status_beforeClock (s : State) {offset count : Nat} (h : offset + count ≤ 13) :
    ((b8 0 :: s.statusBytes).drop offset).take count = (s.statusHead.drop offset).take count := by
  have hlength : s.statusHead.length = 13 := rfl
  rw [s.status_eq, List.append_assoc, List.drop_append_of_le_length (by omega),
    List.take_append_of_le_length (by rw [List.length_drop]; omega)]

theorem State.status_clock (s : State) :
    ((b8 0 :: s.statusBytes).drop 13).take 8 = clockBytes s.calendar.clock := by
  have hlength : s.statusHead.length = 13 := rfl
  rw [s.status_eq, List.append_assoc, List.drop_left' hlength, List.take_left' (clockBytes_length _)]

/-- A field behind the clock is read from the tail. -/
theorem State.status_behindClock (s : State) (offset count : Nat) :
    ((b8 0 :: s.statusBytes).drop (21 + offset)).take count = (s.statusTail.drop offset).take count := by
  have hlength : (s.statusHead ++ clockBytes s.calendar.clock).length = 21 := by
    rw [List.length_append, clockBytes_length]
    rfl
  rw [s.status_eq, ← List.drop_drop, List.drop_left' hlength]

/-! ## What READ STATUS clears (R161, R172) -/

/-- Reading the status clears what it reads; the mark being set, the beacon is released if no fault stands. -/
theorem State.statusTaken_blocks (s : State) :
    s.statusTaken.blocks = { s.blocks with
      assent := { s.assent with flags := .empty }
      errors := 0
      alerts := { s.alerts with
        faultCount := 0, statusRead := true,
        beacon :=
          if (∀ l ∈ s.plant.loads, l.state ≠ .faulted) ∧ (∀ i, (s.station i).link ≠ .lost) ∧
            s.assent.state ≠ .lapsed then false else s.alerts.beacon } } := by
  rw [State.statusTaken, State.evaluateBeacon_blocks, State.evaluateBeacon_alerts]
  simp only [and_true]
  rfl

/-! ## FETCH NOTICE (R158) -/

theorem doFetchNotice_empty {s : State} (h : s.alerts.queue = []) : doFetchNotice s = s.refuse .empty := by
  simp only [doFetchNotice, h]

theorem doFetchNotice_oldest {s : State} {x : Notice} {rest : List Notice} (h : s.alerts.queue = x :: rest) :
    doFetchNotice s =
      ({ s with alerts := { s.alerts with queue := rest } }, { code := .done, data := x.bytes rest.length }) := by
  simp only [doFetchNotice, h]

/-- Settles O56: the status is cut at the clock to read its fields; a fetch goes by whether the queue is empty. -/
theorem statusAndNoticesAreRead : Obligations.StatusAndNoticesAreRead := by
  intro s tag hs
  refine ⟨?_, fun x rest hqueue => ?_, fun hqueue => ?_⟩
  · rw [exec_readStatus]
    obtain ⟨t, ht, hblocks, hanswers, -⟩ := s.perform_request hs { kind := 31, tag, payload := [] } doReadStatus
    refine ⟨t, s.statusBytes, ht, hanswers, s.statusBytes_length, ?_,
      hblocks.trans (s.holding _).statusTaken_blocks⟩
    have before {offset count : Nat} (h : offset + count ≤ 13) := s.status_beforeClock h
    have behind := s.status_behindClock
    have hstation := congrArg (fun byte => [byte]) s.sweep.currentStation_code
    have halert := congrArg (fun byte => [byte]) s.alerts.statusByte
    exact ⟨before (by decide), (before (by decide)).trans hstation, before (by decide), before (by decide),
      before (by decide), before (by decide), before (by decide), before (by decide), before (by decide),
      s.status_clock.trans (clockBytes_eq _), behind 0 1, behind 1 1, behind 2 1, behind 3 1, (behind 6 1).trans halert,
      behind 4 1, behind 5 1, behind 7 2, behind 9 1⟩
  · rw [exec_fetchNotice]
    obtain ⟨t, ht, hblocks, hanswers, hpins⟩ := s.perform_request hs { kind := 32, tag, payload := [] } doFetchNotice
    rw [doFetchNotice_oldest (s := s.holding _) hqueue] at hblocks hanswers
    have hreset : t.inReset = false := (congrArg Blocks.inReset hblocks).trans hs.1
    have halerts : t.alerts = { s.alerts with queue := rest } := congrArg Blocks.alerts hblocks
    refine ⟨t, ht, hblocks, fun hmode hrest => ?_, hanswers⟩
    rw [hpins, State.pinLevels_alertLow hreset, halerts, ← Bool.not_eq_true, Alerts.asserted_iff]
    simp [hmode, hrest]
  · rw [exec_fetchNotice]
    exact s.perform_refused hs _ _ .empty (doFetchNotice_empty hqueue)

end Sys2Proof.Machine
end

section
/-!
PROOFS. READ LOADS (R171, R177): what a page of a list holds, the bytes of a load summary, and the reply of a page that
the list has and of one that it has not.
-/

namespace Sys2Proof.Machine

/-- A request that only reports leaves every block and answers DONE with its data. -/
theorem State.perform_report {s : State} (h : s.ready) (f : Frame) (effect : State → State × Answer) (data : List Byte)
    (he : effect (s.holding f) = (s.holding f).report data) :
    ∃ t, s.perform (State.request f effect) = .next t ∧ t.blocks = s.blocks ∧ t.answers f.kind f.tag .done data := by
  obtain ⟨t, ht, hblocks, hanswers, -⟩ := s.perform_request h f effect
  rw [he] at hblocks hanswers
  exact ⟨t, ht, hblocks, hanswers⟩

theorem exec_readLoads (tag : Byte) (page : Nat) (s : State) :
    exec (.readLoads tag page) s = execReadLoads tag page s := rfl

/-! ## Pages of a list (R90, R171) -/

/-- Page 0 exists for every list, a later page where it holds an item. -/
theorem pageOf_exists {α : Type} {size page : Nat} {items : List α} (h : page = 0 ∨ size * page < items.length) :
    pageOf size page items =
      some ((items.drop (size * page)).take size, decide (size * page + size < items.length)) := by
  have hpage : page * size < items.length ∨ page = 0 := by rwa [Nat.mul_comm, or_comm]
  rw [pageOf, if_pos hpage, Nat.mul_comm page, Nat.mul_comm (page + 1), Nat.mul_succ]

theorem pageOf_missing {α : Type} {size page : Nat} {items : List α} (h0 : page ≠ 0)
    (h : items.length ≤ size * page) : pageOf size page items = none := by
  have hpage : ¬(page * size < items.length ∨ page = 0) := by
    rw [Nat.mul_comm]
    exact not_or_intro (Nat.not_lt.mpr h) h0
  exact if_neg hpage

theorem pageByte_eq (page : Nat) (more : Bool) : pageByte page more = b8 (page + 128 * more.toNat) := by
  rw [pageByte, bitValue_eq]
  rfl

/-! ## Load summaries (R177) -/

/-- The six bytes of a summary: number, state, reported activity, hold set and flags. -/
theorem Load.summary_eq (l : Load) :
    l.summary =
      [b8 l.num, b8 l.state.code, b8 ((l.a16 + 8) / 16 / 256), b8 ((l.a16 + 8) / 16),
       b8 (l.hold.byCall.toNat + 2 * l.hold.byHost.toNat + 4 * l.hold.byLockout.toNat),
       b8 (l.idle.toNat + 2 * l.manual.toNat + 4 * l.wakeDue.toNat + 8 * l.parkOwned.toNat +
         16 * l.awaitingFan.toNat)] := by
  simp [Load.summary, b16, Load.reported, HoldSet.code, Load.summaryFlags, bitValue_eq]

@[simp] theorem Load.summary_length (l : Load) : l.summary.length = 6 := rfl

theorem summaries_length (loads : List Load) : (loads.flatMap Load.summary).length = 6 * loads.length := by
  simp [List.length_flatMap, Nat.mul_comm]

/-! ## READ LOADS (R171) -/

/-- Both refusals are RANGE: an index that no table can have, and a later page that this table has not (R171). -/
theorem doReadLoads_refused {page : Nat} {s : State}
    (h : 4 < page ∨ (page ≠ 0 ∧ s.plant.loads.length ≤ 20 * page)) : doReadLoads page s = s.refuse .range := by
  by_cases hpage : within 0 4 page = true
  · obtain hbeyond | ⟨h0, hempty⟩ := h
    · exact absurd (within_iff.mp hpage).2 (Nat.not_le.mpr hbeyond)
    · simp [doReadLoads, pageOf_missing h0 hempty]
  · simp [doReadLoads, hpage]

theorem doReadLoads_page {page : Nat} {s : State} (h4 : page ≤ 4) (h : page = 0 ∨ 20 * page < s.plant.loads.length) :
    doReadLoads page s =
      s.report (pageByte page (decide (20 * page + 20 < s.plant.loads.length)) ::
        ((s.plant.loads.drop (20 * page)).take 20).flatMap Load.summary) := by
  have hpage : within 0 4 page = true := within_iff.mpr ⟨page.zero_le, h4⟩
  simp [doReadLoads, hpage, pageOf_exists h]

/-- Settles O54: a page is refused or is one that the list has; its length counts six bytes for each load on it. -/
theorem loadsAreReadInPages : Obligations.LoadsAreReadInPages := by
  intro s tag k hs
  refine ⟨fun hrefused => ?_, fun h4 hpage => ?_⟩
  · rw [exec_readLoads]
    exact s.perform_refused hs _ _ .range (doReadLoads_refused hrefused)
  · rw [exec_readLoads]
    obtain ⟨t, ht, hblocks, hanswers⟩ := State.perform_report hs _ _ _ (doReadLoads_page (s := s.holding _) h4 hpage)
    refine ⟨t, _, ht, hblocks, hanswers, ?_, ?_, fun hnumbered => hnumbered.1⟩
    · rw [pageByte_eq, funext Load.summary_eq]
      rfl
    · rw [List.length_cons, summaries_length, List.length_take, List.length_drop, State.holding_plant]
      omega

end Sys2Proof.Machine
end

section
/-!
PROOFS. Places and due orders (R6, R7, R112) alone are no invariant: they say nothing of the start queues. A WAKING load
whose number also stands in its feeder's queue is granted again by the very units it returns (R85, R88), and is then made
ACTIVE with the MOTOR ON of that grant still due.
-/

namespace Sys2Proof.Machine

/-- The configuration of an auxiliary on channel 0 of S1, on F1, with a demand of 1. -/
def staleConfig : LoadConfig :=
  { station := 0, channel := 0, kind := .auxiliary, feeder := 0, demand := 1, zone := 0, airGroup := none, curve := 0,
    restFloor := 0, noiseBand := 0, weight := 1, idleThreshold := 0, busyThreshold := 1, idleDwell := 60,
    profile := none, wakeAtClose := false, wakeRank := 1, fallbackWake := false, stepLimit := 10, coastLimit := 0,
    unloadDwell := 0, minimumOff := 0, settleLimit := 5, adoptParked := false, events := 0 }

/-- The load is WAKING in step SETTLING, with no order due. -/
def staleLoad : Load :=
  { Load.bound 1 staleConfig { byCall := false, byHost := false, byLockout := false } with state := .waking .settling }

/-- The plant of that load on a LIVE station, with a stale entry of the load in its feeder's queue. -/
def stalePlant : Plant :=
  { Plant.reset with
    loads := [staleLoad]
    stations := Plant.reset.stations.set 0 { Station.reset with enabled := true, link := .live }
    feeders := Plant.reset.feeders.set 0 { Feeder.reset with capacity := 1, free := 1, queue := [{ load := 1, passed := 0 }] } }

/-- A routine reply of S1: one channel, reported RUNNING without a sample. -/
def runningReply : List Byte := [0x5A, 0x06, 0x01, 0x01, 0x02, 0xFF, 0xFF, 0x00, 0x9E, 0xEE]

/-- A routine visit of S1 whose listening window is open. -/
def listeningVisit : Visit :=
  { station := 0, kind := .routine, order := none, fitted := 1, notedMark := false, inquiryReplaced := false,
    phase := .listening }

/-- The part in that visit, with the reply at the front of the queue. -/
def staleState : State :=
  { State.reset with
    plant := stalePlant, sweep := { Sweep.reset with mode := .continuous, line := .slot listeningVisit }
    pending := [.fieldReplyReceived runningReply] }

/-- Places and orders of the stale plant are sound; its start queues are not. -/
theorem stalePlant_ordersSound : staleState.plant.ordersSound := by decide

/-- The load comes out ACTIVE with MOTOR ON due. -/
theorem step_staleState :
    ∃ t, step staleState = .next t ∧ t.plant.loads.map (fun l => (l.state, l.due)) = [(.active, some .motorOn)] :=
  ⟨_, rfl, by decide +kernel⟩

/-- Refutes O7: without sound start queues an ACTIVE load can be left with an order due. -/
theorem not_stepKeepsPlacesAndOrders : ¬ Obligations.StepKeepsPlacesAndOrders := by
  intro h
  obtain ⟨t, ht, hloads⟩ := step_staleState
  obtain ⟨-, -, -, hfits⟩ := h staleState t stalePlant_ordersSound ht
  obtain ⟨l, hl, hstate⟩ := List.map_eq_singleton_iff.mp hloads
  have hbad := hfits l (by rw [hl]; exact List.mem_singleton_self l)
  obtain ⟨hactive, hdue⟩ := Prod.mk.inj hstate
  simp [Load.dueFits, hactive, hdue] at hbad

end Sys2Proof.Machine
end

section
/-!
PROOFS. The step, power-on and reset, and the pins (R129, R159, R164, R175): the queue's front command, the values that
the three reset rows leave, and the levels that every command settles.
-/

namespace Sys2Proof.Machine

/-- Settles O1: the step is defined by the front of the queue. -/
theorem stepTakesFrontCommand : Obligations.StepTakesFrontCommand := by
  intro c rest s
  constructor <;> intro h <;> simp only [step, h]

/-! ## Commands in and out of reset (R175) -/

/-- Out of reset a command makes its effect, and the pins settle. -/
theorem State.perform_out {s : State} (h : s.inReset = false) (f : State → State) :
    s.perform f = .next (f s).settlePins := by
  rw [State.perform_eq, h]
  rfl

/-- In reset a command only settles the pins, whatever its effect is. -/
theorem State.perform_in {s : State} (h : s.inReset = true) (f : State → State) :
    s.perform f = .next { s with pins := .reset } := by
  rw [State.perform_eq, if_pos h, State.settlePins, State.pinLevels, if_pos h]

/-- A command is one of the three of R175, or performs an effect. -/
theorem exec_cases (c : Instr) :
    (c = .powerOn ∨ c = .resetPinLow ∨ c = .leaveReset) ∨ ∃ f : State → State, ∀ s, exec c s = s.perform f := by
  cases c with
  | powerOn => exact .inl (.inl rfl)
  | resetPinLow => exact .inl (.inr (.inl rfl))
  | leaveReset => exact .inl (.inr (.inr rfl))
  | _ => exact .inr ⟨_, fun _ => rfl⟩

theorem exec_powerOn (s : State) : exec .powerOn s = .next (s.cleared true) := rfl

theorem exec_resetPinLow (s : State) : exec .resetPinLow s = .next (s.cleared true) := rfl

theorem exec_leaveReset (s : State) : exec .leaveReset s = .next (s.cleared false) := rfl

/-! ## Reset values -/

theorem State.cleared_eq (inReset : Bool) (s : State) :
    s.cleared inReset = { State.reset with inReset, draws := s.draws, pending := s.pending } := by
  cases inReset <;> rfl

theorem Plant.reset_feeder (i : FeederId) : Plant.reset.feeder i = Feeder.reset := by
  simp [Plant.feeder, Plant.reset]

theorem Plant.reset_station (i : StationId) : Plant.reset.station i = Station.reset := by
  simp [Plant.station, Plant.reset]

/-- Settles O5: the three rows of R175 leave the reset values, and in reset no other command has an effect. -/
theorem resetRows : Obligations.ResetRows := by
  intro s
  refine ⟨?_, ?_, ?_, rfl, rfl, Plant.reset_feeder, fun i => ?_, rfl, fun i => ?_, rfl, rfl, fun p d => ?_, rfl, rfl, rfl,
    rfl, rfl, rfl, rfl, rfl, rfl, fun h c hpower hlow hleave => ?_⟩
  · rw [exec_powerOn, State.cleared_eq]
  · rw [exec_resetPinLow, State.cleared_eq]
  · rw [exec_leaveReset, State.cleared_eq]
    rfl
  · exact (Plant.reset_station i).trans rfl
  · simp [State.reset, Plant.reset, straightLine]
  · simp [State.reset, Calendar.reset]
  · rcases exec_cases c with hreset | ⟨f, hf⟩
    · rcases hreset with rfl | rfl | rfl <;> contradiction
    · rw [hf, State.perform_in h]
      rfl

theorem Plant.reset_loads : Plant.reset.loads = [] := rfl

theorem Plant.reset_numbered : Plant.reset.numbered := by
  rw [Plant.numbered, Plant.reset_loads]
  exact ⟨.nil, List.forall_mem_nil _⟩

/-- No load is bound, so no queue holds an entry and no units are granted. -/
theorem Plant.reset_sound : Plant.reset.sound := by
  refine ⟨Plant.reset_numbered, ⟨fun i => ?_, fun i e he => ?_, by rw [Plant.reset_loads]; exact List.forall_mem_nil _⟩, fun i => ?_⟩
  · rw [Plant.reset_feeder]
    exact .nil
  · rw [Plant.reset_feeder] at he
    exact absurd he List.not_mem_nil
  · rw [Plant.reset_feeder]
    rfl

theorem Plant.reset_ordersSound : Plant.reset.ordersSound := by
  refine ⟨Plant.reset_numbered, .nil, fun i => ?_, by rw [Plant.reset_loads]; exact List.forall_mem_nil _⟩
  have hslot : (Plant.reset.station i).slot = none := by rw [Plant.reset_station]; rfl
  simp only [Plant.slotSound, hslot]
  rfl

/-- The defaults of R140 keep the ranges that the monitor rests on. -/
theorem Assent.reset_sound : Assent.reset.sound := by
  refine ⟨⟨?_, ?_, ?_, ?_, ?_, ?_, ?_⟩, ?_, ?_, ?_, rfl, fun _ => ⟨rfl, rfl⟩, nofun⟩ <;>
    simp [Assent.reset, AssentParams.reset]

theorem Alerts.reset_queueSound : Alerts.reset.queueSound := ⟨.nil, nofun⟩

theorem Calendar.reset_sound : Calendar.reset.sound := ⟨⟨.nil, Nat.zero_le _, nofun⟩, rfl, rfl⟩

theorem Link.reset_sound : Link.reset.sound := ⟨Nat.zero_le _, rfl, Nat.zero_le _⟩

theorem Sweep.reset_sound : Sweep.reset.sound :=
  ⟨rfl, rfl, by decide, fun _ => ⟨rfl, rfl, rfl⟩, fun _ => rfl, fun _ => rfl⟩

theorem Plant.reset_linkSound (i : StationId) : (Plant.reset.station i).linkSound = true := by
  rw [Plant.reset_station]
  rfl

/-- Settles O4: each block's invariant is judged on the block's reset values. -/
theorem resetIsSound : Obligations.ResetIsSound := by
  unfold Obligations.ResetIsSound
  simp only [State.reset]
  exact ⟨Plant.reset_sound, Plant.reset_ordersSound, Assent.reset_sound, Alerts.reset_queueSound, Calendar.reset_sound,
    Link.reset_sound, Sweep.reset_sound, Plant.reset_linkSound⟩

/-! ## The pins -/

/-- Every command leaves the pins at the levels that the state gives them. -/
theorem exec_pins {c : Instr} {s t : State} (h : exec c s = .next t) : t.pins = t.pinLevels := by
  rcases exec_cases c with hreset | ⟨f, hf⟩
  · rcases hreset with rfl | rfl | rfl <;> (cases h; rfl)
  · rw [hf, State.perform_eq] at h
    cases h
    rfl

theorem LinePhase.sending_iff (x : LinePhase) : x.sending = true ↔ ∃ v, x = .slot v ∧ v.phase = .sending := by
  cases x <;> simp [LinePhase.sending]

/-- Settles O3: what the levels are, read off their definition. -/
theorem pinsFollowTheState : Obligations.PinsFollowTheState := by
  intro c s t h
  rw [exec_pins h]
  refine ⟨fun hin => by simp [State.pinLevels, hin, Pins.reset], fun hout => ?_⟩
  rw [State.pinLevels_alertLow hout, Alerts.asserted_iff]
  simp only [State.pinLevels, hout, Bool.false_eq_true, if_false]
  refine ⟨trivial, t.sweep.line.sending_iff, ?_, ?_⟩
  · cases t.sweep.line.sending <;> simp
  · cases t.link.reply <;> simp

/-! ## One load, one visit, one character -/

/-- A command that performs an effect leaves the blocks and the link as the effect does. -/
theorem State.perform_out_exists {s : State} (h : s.inReset = false) (f : State → State) :
    ∃ t, s.perform f = .next t ∧ t.blocks = (f s).blocks ∧ t.link = (f s).link ∧ t.pins = (f s).pinLevels :=
  ⟨_, State.perform_out h f, rfl, rfl, rfl⟩

end Sys2Proof.Machine
end

section
/-!
PROOFS. What load control leaves alone: the operations on loads and their stations change the plant and the alert block
only, of the plant neither the link state and the configuration of a station nor a feeder's capacity and spacing, and of
the alert block they only add notices, count faults and release the beacon.
-/

namespace Sys2Proof.Machine

/-! ## The alert block (R156, R160, R161) -/

/-- Notices were added, faults counted, or the beacon released: the settings stay, a kind that a notice shows stays shown,
and a sound queue stays sound. -/
structure Alerts.Evolves (a b : Alerts) : Prop where
  enabled : b.enabled = a.enabled
  stationSet : b.stationSet = a.stationSet
  deviceSet : b.deviceSet = a.deviceSet
  shows : ∀ {source : Source} {bit : Nat}, a.shows source bit → b.shows source bit
  queueSound : a.queueSound → b.queueSound

theorem Alerts.Evolves.rfl {a : Alerts} : a.Evolves a := ⟨Eq.refl _, Eq.refl _, Eq.refl _, id, id⟩

theorem Alerts.Evolves.trans {a b c : Alerts} (h : a.Evolves b) (k : b.Evolves c) : a.Evolves c :=
  ⟨k.enabled.trans h.enabled, k.stationSet.trans h.stationSet, k.deviceSet.trans h.deviceSet,
    fun hs => k.shows (h.shows hs), fun hs => k.queueSound (h.queueSound hs)⟩

theorem kindBit_ne_zero {i : Nat} (h : i < 16) : kindBit i ≠ 0 := by
  interval_cases i <;> decide

theorem kindBit_getLsbD {i : Nat} (h : i < 16) : (kindBit i).getLsbD i = true := by
  interval_cases i <;> decide

theorem mergeNotice_kinds {e : Notice} (he : e.kinds ≠ 0) {q : List Notice} (h : ∀ x ∈ q, x.kinds ≠ 0) :
    ∀ x ∈ mergeNotice e q, x.kinds ≠ 0 := by
  induction q with
  | nil => exact fun x hx => List.mem_singleton.mp hx ▸ he
  | cons y rest ih =>
    obtain ⟨hy, hrest⟩ := List.forall_mem_cons.mp h
    rw [mergeNotice]
    split_ifs
    · exact List.forall_mem_cons.mpr ⟨fun hzero => hy (BitVec.or_eq_zero_iff.mp hzero).1, hrest⟩
    · exact List.forall_mem_cons.mpr ⟨hy, ih hrest⟩

/-- A merged event keeps at most one notice for each source, and each with a kind. -/
theorem mergeNotice_queueSound {e : Notice} (he : e.kinds ≠ 0) {a : Alerts} (h : a.queueSound) :
    ({ a with queue := mergeNotice e a.queue } : Alerts).queueSound := by
  obtain ⟨hnodup, hkinds⟩ := h
  refine ⟨?_, ?_⟩
  · rw [mergeNotice_sources]
    split_ifs with hmem
    · exact hnodup
    · exact List.nodup_append.mpr ⟨hnodup, List.nodup_singleton _,
        fun x hx y hy hxy => hmem (by rw [List.mem_singleton.mp hy] at hxy; exact hxy ▸ hx)⟩
  · exact mergeNotice_kinds he hkinds

/-- A merged event hides no kind that a notice shows. -/
theorem mergeNotice_mem_of_mem {e x : Notice} {q : List Notice} (hx : x ∈ q) :
    ∃ y ∈ mergeNotice e q, y.source = x.source ∧ ∀ bit, x.kinds.getLsbD bit = true → y.kinds.getLsbD bit = true := by
  induction q with
  | nil => exact absurd hx List.not_mem_nil
  | cons z rest ih =>
    rw [mergeNotice]
    rcases List.mem_cons.mp hx with rfl | hx
    · split_ifs
      · exact ⟨_, List.mem_cons_self, rfl, fun bit hbit => by rw [BitVec.getLsbD_or, hbit, Bool.true_or]⟩
      · exact ⟨_, List.mem_cons_self, rfl, fun _ => id⟩
    · split_ifs
      · exact ⟨x, List.mem_cons_of_mem _ hx, rfl, fun _ => id⟩
      · obtain ⟨y, hy, hsource⟩ := ih hx
        exact ⟨y, List.mem_cons_of_mem _ hy, hsource⟩

/-- The merged event itself is shown. -/
theorem mergeNotice_mem (e : Notice) (q : List Notice) :
    ∃ y ∈ mergeNotice e q, y.source = e.source ∧ ∀ bit, e.kinds.getLsbD bit = true → y.kinds.getLsbD bit = true := by
  induction q with
  | nil => exact ⟨e, List.mem_singleton_self e, rfl, fun _ => id⟩
  | cons z rest ih =>
    rw [mergeNotice]
    split_ifs with hz
    · exact ⟨_, List.mem_cons_self, hz, fun bit hbit => by rw [BitVec.getLsbD_or, hbit, Bool.or_true]⟩
    · obtain ⟨y, hy, hsource⟩ := ih
      exact ⟨y, List.mem_cons_of_mem _ hy, hsource⟩

theorem State.offer_evolves {e : Notice} (he : e.kinds ≠ 0) (on : Bool) (s : State) :
    s.alerts.Evolves (s.offer on e).alerts := by
  unfold State.offer
  split_ifs
  · refine ⟨rfl, rfl, rfl, fun ⟨x, hx, hsource, hbit⟩ => ?_, mergeNotice_queueSound he⟩
    obtain ⟨y, hy, hsame, hkept⟩ := mergeNotice_mem_of_mem (e := e) hx
    exact ⟨y, hy, hsame.trans hsource, hkept _ hbit⟩
  · exact .rfl

/-- An event that is offered where its enable and the global one are on is shown. -/
theorem State.offer_shows {e : Notice} {on : Bool} {s : State} (hs : s.alerts.enabled = true) (hon : on = true)
    {bit : Nat} (hbit : e.kinds.getLsbD bit = true) : (s.offer on e).alerts.shows e.source bit := by
  rw [hon, State.offer_enabled hs]
  obtain ⟨y, hy, hsource, hkept⟩ := mergeNotice_mem e s.alerts.queue
  exact ⟨y, hy, hsource, hkept _ hbit⟩

theorem LoadEvent.bit_lt (e : LoadEvent) : e.bit < 16 := by cases e <;> decide

theorem StationEvent.bit_lt (e : StationEvent) : e.bit < 16 := by cases e <;> decide

theorem DeviceEvent.bit_lt (e : DeviceEvent) : e.bit < 16 := by cases e <;> decide

theorem State.raiseLoad_evolves (n : Nat) (e : LoadEvent) (s : State) :
    s.alerts.Evolves (s.raiseLoad n e).alerts := by
  unfold State.raiseLoad
  split
  · exact .rfl
  · exact s.offer_evolves (kindBit_ne_zero e.bit_lt) _

theorem State.raiseStation_evolves (i : StationId) (e : StationEvent) (s : State) :
    s.alerts.Evolves (s.raiseStation i e).alerts := s.offer_evolves (kindBit_ne_zero e.bit_lt) _

theorem State.raiseDeviceWith_evolves (opened closed : BitVec 4) (e : DeviceEvent) (s : State) :
    s.alerts.Evolves (s.raiseDeviceWith opened closed e).alerts := s.offer_evolves (kindBit_ne_zero e.bit_lt) _

/-- A load event that both enables let through is shown. -/
theorem State.raiseLoad_shows {s : State} {n : Nat} {l : Load} {e : LoadEvent} (hl : s.load? n = some l)
    (hs : s.alerts.enabled = true) (he : l.cfg.events.getLsbD e.bit = true) :
    (s.raiseLoad n e).alerts.shows (.load n) e.bit := by
  rw [State.raiseLoad_bound hl]
  exact State.offer_shows hs he (kindBit_getLsbD e.bit_lt)

theorem State.raiseStation_shows {s : State} {i : StationId} {e : StationEvent} (hs : s.alerts.enabled = true)
    (he : s.alerts.stationSet.getLsbD e.bit = true) : (s.raiseStation i e).alerts.shows (.station i) e.bit :=
  State.offer_shows hs he (kindBit_getLsbD e.bit_lt)

theorem Alerts.countFault_evolves (a : Alerts) : a.Evolves a.countFault := ⟨rfl, rfl, rfl, id, id⟩

theorem State.evaluateBeacon_evolves (s : State) : s.alerts.Evolves s.evaluateBeacon.alerts := by
  rw [State.evaluateBeacon_alerts]
  exact ⟨rfl, rfl, rfl, id, id⟩

/-! ## The frame of load control -/

/-- Of the plant, link state and configuration of the stations, capacity and spacing of the feeders, the group minimums
and the curves are as before. -/
structure Plant.Frame (p q : Plant) : Prop where
  stations : ∀ i, (q.station i).core = (p.station i).core
  feeders : ∀ i, (q.feeder i).core = (p.feeder i).core
  groups : q.groups = p.groups
  curves : q.curves = p.curves

theorem Plant.Frame.rfl {p : Plant} : p.Frame p := ⟨fun _ => Eq.refl _, fun _ => Eq.refl _, Eq.refl _, Eq.refl _⟩

theorem Plant.Frame.trans {p q r : Plant} (h : p.Frame q) (k : q.Frame r) : p.Frame r :=
  ⟨fun i => (k.stations i).trans (h.stations i), fun i => (k.feeders i).trans (h.feeders i), k.groups.trans h.groups,
    k.curves.trans h.curves⟩

theorem Plant.SameFrame.frame {p q : Plant} (h : p.SameFrame q) : p.Frame q :=
  ⟨h.stations, h.feeders, h.groups, h.curves⟩

/-- The state after load control: only the plant, within its frame, and the alert block have changed. -/
structure State.Works (s t : State) : Prop where
  beyond : s.sameBeyondPlant t
  alerts : s.alerts.Evolves t.alerts
  plant : s.plant.Frame t.plant

theorem State.Works.rfl {s : State} : s.Works s :=
  ⟨⟨Eq.refl _, Eq.refl _, Eq.refl _, Eq.refl _, Eq.refl _, Eq.refl _, Eq.refl _⟩, .rfl, .rfl⟩

theorem State.sameBeyondPlant_trans {s t u : State} (h : s.sameBeyondPlant t) (k : t.sameBeyondPlant u) :
    s.sameBeyondPlant u := by
  obtain ⟨h1, h2, h3, h4, h5, h6, h7⟩ := h
  obtain ⟨k1, k2, k3, k4, k5, k6, k7⟩ := k
  exact ⟨k1.trans h1, k2.trans h2, k3.trans h3, k4.trans h4, k5.trans h5, k6.trans h6, k7.trans h7⟩

theorem State.Works.trans {s t u : State} (h : s.Works t) (k : t.Works u) : s.Works u :=
  ⟨State.sameBeyondPlant_trans h.beyond k.beyond, h.alerts.trans k.alerts, h.plant.trans k.plant⟩

/-- A fold of operations that each are load control is. -/
theorem State.Works.foldl {α : Type} {f : State → α → State} (h : ∀ s a, State.Works s (f s a)) (as : List α)
    (s : State) : s.Works (as.foldl f s) := by
  induction as generalizing s with
  | nil => exact .rfl
  | cons a as ih => exact (h s a).trans (ih _)

/-- A change of the plant within its frame. -/
theorem State.works_onPlant {s : State} {f : Plant → Plant} (h : s.plant.Frame (f s.plant)) : s.Works (s.onPlant f) :=
  ⟨⟨rfl, rfl, rfl, rfl, rfl, rfl, rfl⟩, .rfl, h⟩

theorem State.works_onPlantNow {s : State} {f : Option Clock → Plant → Plant}
    (h : s.plant.Frame (f s.calendar.clock s.plant)) : s.Works (s.onPlantNow f) :=
  ⟨⟨rfl, rfl, rfl, rfl, rfl, rfl, rfl⟩, .rfl, h⟩

theorem Plant.frame_loads (p : Plant) (ls : List Load) : p.Frame { p with loads := ls } :=
  ⟨fun _ => rfl, fun _ => rfl, rfl, rfl⟩

theorem State.works_setLoad (n : Nat) (f : Load → Load) (s : State) : s.Works (s.setLoad n f) :=
  State.works_onPlant (Plant.frame_loads _ _)

theorem State.works_raiseLoad (n : Nat) (e : LoadEvent) (s : State) : s.Works (s.raiseLoad n e) := by
  refine ⟨by simp [State.sameBeyondPlant], s.raiseLoad_evolves n e, ?_⟩
  rw [State.raiseLoad_plant]
  exact .rfl

theorem State.works_raiseStation (i : StationId) (e : StationEvent) (s : State) : s.Works (s.raiseStation i e) := by
  refine ⟨by simp [State.sameBeyondPlant], s.raiseStation_evolves i e, ?_⟩
  rw [State.raiseStation_plant]
  exact .rfl

theorem State.works_raiseDeviceWith (opened closed : BitVec 4) (e : DeviceEvent) (s : State) :
    s.Works (s.raiseDeviceWith opened closed e) := by
  refine ⟨by simp [State.sameBeyondPlant], s.raiseDeviceWith_evolves opened closed e, ?_⟩
  rw [State.raiseDeviceWith_plant]
  exact .rfl

theorem State.works_countFault (s : State) : s.Works s.countFault :=
  ⟨⟨rfl, rfl, rfl, rfl, rfl, rfl, rfl⟩, Alerts.countFault_evolves _, .rfl⟩

theorem State.works_evaluateBeacon (s : State) : s.Works s.evaluateBeacon := by
  refine ⟨by simp [State.sameBeyondPlant], s.evaluateBeacon_evolves, ?_⟩
  rw [State.evaluateBeacon_plant]
  exact .rfl

/-! ## Load control, function by function -/

theorem State.works_withdraw (n : Nat) (s : State) : s.Works (s.withdraw n) :=
  State.works_onPlant (Plant.sameFrame_withdraw n _).frame

theorem State.works_makeDue (n : Nat) (k : OrderKind) (s : State) : s.Works (s.makeDue n k) :=
  State.works_onPlant (Plant.sameFrame_makeDue n k _).frame

theorem State.works_returnUnits (l : Load) (s : State) : s.Works (s.returnUnits l) :=
  State.works_onPlantNow (Plant.sameFrame_returnUnits _ _ _ _).frame

theorem State.works_wake (n : Nat) (s : State) : s.Works (s.wake n) :=
  State.works_onPlantNow (Plant.sameFrame_wake _ n _).frame

theorem State.works_wakeAll (ns : List Nat) (s : State) : s.Works (s.wakeAll ns) :=
  State.works_onPlantNow (Plant.sameFrame_wakeAll _ ns _).frame

theorem State.works_leaveQueue (n : Nat) (s : State) : s.Works (s.onPlant (Plant.leaveQueue n)) :=
  State.works_onPlant (Plant.sameFrame_leaveQueue n _).frame

theorem Plant.frame_enterActive (clock : Option Clock) (n : Nat) (p : Plant) : p.Frame (p.enterActive clock n) := by
  have hset := Plant.frame_loads p (p.setLoad n (fun l => { l with state := .active, dwell := 0, idle := false })).loads
  unfold Plant.enterActive
  split
  · exact hset
  · split_ifs
    · exact hset.trans ((Plant.sameFrame_clearAwaiting _ _).trans (Plant.sameFrame_grantAll _ _)).frame
    · exact hset

theorem State.works_enterActive (n : Nat) (s : State) : s.Works (s.enterActive n) :=
  State.works_onPlantNow (Plant.frame_enterActive _ n _)

/-- A load is changed, its due order withdrawn, and an event raised. -/
theorem State.works_ended (n : Nat) (f : Load → Load) (e : LoadEvent) (s : State) :
    s.Works (((s.setLoad n f).withdraw n).raiseLoad n e) :=
  ((s.works_setLoad n f).trans (State.works_withdraw n _)).trans (State.works_raiseLoad n e _)

theorem State.works_enterFaulted (n : Nat) (s : State) : s.Works (s.enterFaulted n) := by
  unfold State.enterFaulted
  split
  · exact .rfl
  · dsimp only
    split
    · exact ((s.works_ended n _ .faulted).trans (State.works_countFault _)).trans (State.works_returnUnits _ _)
    · exact (s.works_ended n _ .faulted).trans (State.works_countFault _)

theorem State.works_enterParked (n : Nat) (s : State) : s.Works (s.enterParked n) := by
  unfold State.enterParked
  split
  · exact .rfl
  · dsimp only
    split
    · exact (s.works_ended n _ .parked).trans (State.works_wake n _)
    · exact s.works_ended n _ .parked

theorem State.works_beginStep (n : Nat) (step : ParkStep) (s : State) : s.Works (s.beginStep n step) := by
  unfold State.beginStep
  split
  · exact s.works_setLoad n _
  · exact (s.works_setLoad n _).trans (State.works_makeDue n _ _)

theorem State.works_gateCheck (n : Nat) (s : State) : s.Works (s.gateCheck n) := by
  unfold State.gateCheck
  split
  · exact .rfl
  · split_ifs
    · exact s.works_beginStep n _
    · exact .rfl

theorem State.works_gateChecks (i : StationId) (s : State) : s.Works (s.gateChecks i) :=
  .foldl (fun s n => s.works_gateCheck n) _ _

theorem State.works_abandonReload (n : Nat) (s : State) : s.Works (s.abandonReload n) :=
  (((s.works_setLoad n _).trans (State.works_withdraw n _)).trans (State.works_enterActive n _)).trans
    (State.works_raiseLoad n .parkAborted _)

theorem State.works_parkingReport (n : Nat) (step : ParkStep) (r : Report) (s : State) :
    s.Works (s.parkingReport n step r) := by
  unfold State.parkingReport
  split
  · split
    · exact .rfl
    · split_ifs
      · exact s.works_beginStep n _
      · exact .rfl
    · exact .rfl
    · split_ifs
      · exact s.works_beginStep n _
      · exact .rfl
    · split_ifs
      · exact .rfl
      · exact s.works_abandonReload n
    · exact .rfl
  · exact s.works_enterParked n

theorem State.works_parkTaken (n : Nat) (step : ParkStep) (k : OrderKind) (s : State) :
    s.Works (s.parkTaken n step k) := by
  unfold State.parkTaken
  split
  · exact s.works_beginStep n _
  · exact s.works_setLoad n _
  · exact .rfl

theorem State.works_wakingReport (n : Nat) (l : Load) (r : Report) (s : State) : s.Works (s.wakingReport n l r) := by
  unfold State.wakingReport
  split_ifs
  · exact ((((s.works_setLoad n _).trans (State.works_withdraw n _)).trans (State.works_returnUnits l _)).trans
      (State.works_enterActive n _)).trans (State.works_raiseLoad n .woken _)
  · exact .rfl

theorem State.works_passEcho (n : Nat) (k : OrderKind) (refused : Bool) (s : State) :
    s.Works (s.passEcho n k refused) := by
  unfold State.passEcho
  split
  · exact .rfl
  · split
    · split_ifs
      · exact s.works_enterFaulted n
      · exact s.works_parkTaken n _ k
    · split_ifs
      · exact s.works_enterFaulted n
      · exact s.works_setLoad n _
      · exact .rfl
    · exact .rfl

theorem State.works_settleExpired (n : Nat) (s : State) : s.Works (s.settleExpired n) := by
  unfold State.settleExpired
  split
  · exact .rfl
  · split_ifs
    · exact s.works_enterFaulted n
    · exact (((s.works_setLoad n _).trans (State.works_withdraw n _)).trans (State.works_returnUnits _ _)).trans
        (State.works_raiseLoad n .offline _)

theorem State.works_adoptParked (n : Nat) (how : Adoption) (l : Load) (s : State) :
    s.Works (s.adoptParked n how l) := by
  unfold State.adoptParked
  have hparked := s.works_setLoad n (fun l =>
    { l with state := .parked, parkOwned := true, cfg := { l.cfg with adoptParked := l.cfg.adoptParked && l.parkOwned } })
  have hordered := hparked.trans (State.works_makeDue n .motorOff _)
  dsimp only
  split_ifs
  · exact hparked.trans (State.works_wake n _)
  · exact hordered.trans (State.works_wake n _)
  · exact hparked
  · exact hordered

theorem State.works_adopt (n : Nat) (how : Adoption) (r : Report) (s : State) : s.Works (s.adopt n how r) := by
  unfold State.adopt
  split
  · exact .rfl
  · split_ifs
    · exact ((s.works_setLoad n _).trans (State.works_enterActive n _)).trans (State.works_raiseLoad n .localStart _)
    · exact (s.works_setLoad n _).trans (State.works_enterActive n _)
    · exact s.works_adoptParked n how _
    · exact s.works_setLoad n _

theorem State.works_stoppedAtMachine (n : Nat) (s : State) : s.Works (s.stoppedAtMachine n) :=
  (s.works_setLoad n _).trans (State.works_raiseLoad n .stoppedExt _)

theorem State.works_localStart (n : Nat) (s : State) : s.Works (s.localStart n) :=
  (((s.works_setLoad n _).trans (State.works_withdraw n _)).trans (State.works_enterActive n _)).trans
    (State.works_raiseLoad n .localStart _)

theorem State.works_queuedLocalStart (n : Nat) (s : State) : s.Works (s.queuedLocalStart n) :=
  ((((s.works_leaveQueue n).trans (State.works_setLoad n _ _)).trans (State.works_withdraw n _)).trans
    (State.works_enterActive n _)).trans (State.works_raiseLoad n .localStart _)

theorem State.works_applyRunState (n : Nat) (how : Adoption) (r : Report) (s : State) :
    s.Works (s.applyRunState n how r) := by
  unfold State.applyRunState
  split
  · exact .rfl
  · split
    case h_1 => exact s.works_adopt n how r
    case h_8 => exact s.works_parkingReport n _ r
    case h_9 => exact s.works_wakingReport n _ r
    case h_10 => exact .rfl
    all_goals split_ifs
    case pos => exact .rfl
    case neg => exact s.works_stoppedAtMachine n
    case pos => exact .rfl
    case neg => exact s.works_stoppedAtMachine n
    case pos => exact .rfl
    case neg => exact s.works_stoppedAtMachine n
    case pos => exact s.works_enterActive n
    case neg => exact .rfl
    case pos => exact s.works_localStart n
    case neg => exact .rfl
    case pos => exact s.works_queuedLocalStart n
    case neg => exact .rfl

theorem State.works_lockoutAdded (n : Nat) (r : Report) (s : State) : s.Works (s.lockoutAdded n r) := by
  unfold State.lockoutAdded
  split
  · exact .rfl
  · have hcleared := (s.works_withdraw n).trans
      (State.works_setLoad n (fun l => { l with timer := none, manual := false, wakeDue := false }) _)
    dsimp only
    split_ifs
    · exact (hcleared.trans (State.works_enterActive n _)).trans (State.works_raiseLoad n .parkAborted _)
    · exact (hcleared.trans (State.works_setLoad n _ _)).trans (State.works_raiseLoad n .parkAborted _)
    · exact s.works_withdraw n

/-- The state in which LOCAL and LOCKOUT follow a report's flags (R19). -/
def State.heldBy (n : Nat) (r : Report) (s : State) : State :=
  s.setLoad n (fun l => { l with hold := { l.hold with byCall := r.call, byLockout := r.lockout } })

/-- The effect of a call edge (R19). -/
def State.callEdge (n : Nat) (lastCall : Bool) (r : Report) (s : State) : State :=
  if r.call && !lastCall then (s.raiseLoad n .callOn).wake n
  else if !r.call && lastCall then s.raiseLoad n .callOff
  else s

/-- The effect of a lockout edge (R19, R21). -/
def State.lockoutEdge (n : Nat) (lastLockout : Bool) (r : Report) (s : State) : State :=
  if r.lockout && !lastLockout then s.lockoutAdded n r
  else if !r.lockout && lastLockout then
    match s.load? n with
    | none => s
    | some l => s.onPlantNow (fun c => Plant.grantAttempt c l.cfg.feeder)
  else s

theorem State.applyHolds_eq (n : Nat) (lastCall lastLockout : Bool) (r : Report) (s : State) :
    s.applyHolds n lastCall lastLockout r =
      ((s.heldBy n r).callEdge n lastCall r).lockoutEdge n lastLockout r := rfl

theorem State.works_callEdge (n : Nat) (lastCall : Bool) (r : Report) (s : State) :
    s.Works (s.callEdge n lastCall r) := by
  unfold State.callEdge
  split_ifs
  · exact (s.works_raiseLoad n .callOn).trans (State.works_wake n _)
  · exact s.works_raiseLoad n .callOff
  · exact .rfl

theorem State.works_lockoutEdge (n : Nat) (lastLockout : Bool) (r : Report) (s : State) :
    s.Works (s.lockoutEdge n lastLockout r) := by
  unfold State.lockoutEdge
  split_ifs
  · exact s.works_lockoutAdded n r
  · split
    · exact .rfl
    · exact State.works_onPlantNow (Plant.sameFrame_grantAttempt _ _ _).frame
  · exact .rfl

theorem State.works_applyHolds (n : Nat) (lastCall lastLockout : Bool) (r : Report) (s : State) :
    s.Works (s.applyHolds n lastCall lastLockout r) :=
  ((s.works_setLoad n _).trans (State.works_callEdge n lastCall r _)).trans (State.works_lockoutEdge n lastLockout r _)

theorem Plant.frame_moveByIdle (clock : Option Clock) (n : Nat) (p : Plant) : p.Frame (p.moveByIdle clock n) := by
  unfold Plant.moveByIdle
  split
  · exact .rfl
  · split
    · exact .rfl
    · split
      · split <;> exact p.frame_loads _
      · split
        · exact p.frame_enterActive clock n
        · split
          · exact p.frame_loads _
          · exact p.frame_enterActive clock n
        · exact p.frame_loads _

theorem Plant.frame_takeSample (clock : Option Clock) (n raw : Nat) (p : Plant) : p.Frame (p.takeSample clock n raw) := by
  unfold Plant.takeSample
  split
  · exact .rfl
  · dsimp only
    split_ifs
    · exact (p.frame_loads _).trans (Plant.frame_moveByIdle clock n _)
    · exact p.frame_loads _

theorem Plant.frame_takeStrokes (clock : Option Clock) (n strokes : Nat) (p : Plant) :
    p.Frame (p.takeStrokes clock n strokes) := by
  unfold Plant.takeStrokes
  split
  · exact .rfl
  · split_ifs
    · exact p.frame_loads _
    · exact (p.frame_loads _).trans (Plant.frame_enterActive clock n _)
    · exact .rfl

theorem Plant.frame_assess (clock : Option Clock) (n : Nat) (r : Report) (p : Plant) : p.Frame (p.assess clock n r) := by
  refine .trans ?_ (Plant.frame_loads _ _)
  cases r.sample with
  | none =>
    cases r.strokes with
    | none => exact .rfl
    | some k => exact p.frame_takeStrokes clock n k
  | some raw =>
    cases r.strokes with
    | none => exact p.frame_takeSample clock n raw
    | some k => exact (p.frame_takeSample clock n raw).trans (Plant.frame_takeStrokes clock n k _)

theorem State.works_takeReport (n : Nat) (how : Adoption) (lastCall lastLockout : Bool) (r : Report) (s : State) :
    s.Works (s.takeReport n how lastCall lastLockout r) :=
  ((s.works_applyHolds n lastCall lastLockout r).trans (State.works_applyRunState n how r _)).trans
    (State.works_onPlantNow (Plant.frame_assess _ n r _))

theorem State.works_loseStation (n : Nat) (s : State) : s.Works (s.loseStation n) := by
  unfold State.loseStation
  split
  · exact .rfl
  · split
    case h_1 | h_2 | h_3 => exact .rfl
    case h_4 =>
      exact ((s.works_leaveQueue n).trans (State.works_setLoad n _ _)).trans (State.works_raiseLoad n .offline _)
    all_goals exact (s.works_setLoad n _).trans (State.works_raiseLoad n .offline _)

/-! ## Changes of a station's slot -/

theorem State.works_setSlot (i : StationId) (f : Station → Station) (hf : ∀ st, (f st).core = st.core) (s : State) :
    s.Works (s.setStation i f) :=
  State.works_onPlant (Plant.sameFrame_setStation i f hf).frame

theorem State.works_takeEcho (i : StationId) (e : Echo) (s : State) : s.Works (s.takeEcho i e) := by
  have hemptied := s.works_setSlot i (fun st => { st with slot := none }) (fun _ => rfl)
  have hrefill (t : State) : t.Works (t.onPlant (Plant.refillSlot i)) :=
    State.works_onPlant (Plant.sameFrame_refillSlot i _).frame
  unfold State.takeEcho
  split
  · exact .rfl
  · split_ifs
    · dsimp only
      split
      · exact hemptied.trans (hrefill _)
      · exact ((hemptied.trans (State.works_setLoad _ _ _)).trans (State.works_passEcho _ _ _ _)).trans (hrefill _)
    · exact .rfl

theorem State.works_endSequence (l : Load) (s : State) : s.Works (s.endSequence l) := by
  unfold State.endSequence
  split
  · exact (s.works_setLoad _ _).trans (State.works_raiseLoad _ .parkAborted _)
  · exact (s.works_setLoad _ _).trans (State.works_returnUnits l _)
  · exact .rfl

end Sys2Proof.Machine
end

section
/-!
PROOFS. Sound start queues and units (R1, R72, R88): what they say in terms of the load of a number, and what a change of
one load needs to keep them. Then the loads and feeders that orders and grants leave (R6, R82).
-/

namespace Sys2Proof.Machine

/-! ## Numbered loads (R1) -/

theorem Plant.mem_of_load? {p : Plant} {n : Nat} {l : Load} (h : p.load? n = some l) : l ∈ p.loads :=
  List.mem_of_find?_eq_some h

theorem Plant.load?_eq_none {p : Plant} {n : Nat} : p.load? n = none ↔ ∀ l ∈ p.loads, l.num ≠ n := by
  simp [Plant.load?, List.find?_eq_none]

/-- The loads before and behind the one of a number have other numbers. -/
theorem Plant.loads_split {p : Plant} (hp : p.numbered) {n : Nat} {l : Load} (hl : p.load? n = some l) :
    ∃ a b, p.loads = a ++ l :: b ∧ (∀ x ∈ a, x.num ≠ n) ∧ ∀ x ∈ b, x.num ≠ n := by
  obtain ⟨hnum, a, b, hsplit, ha⟩ := List.find?_eq_some_iff_append.mp hl
  have hnum : l.num = n := by simpa using hnum
  refine ⟨a, b, hsplit, fun x hx => by simpa using ha x hx, fun x hx => ?_⟩
  have hpairs := hp.1
  rw [hsplit, List.pairwise_append, List.pairwise_cons] at hpairs
  have := hpairs.2.1.1 x hx
  omega

/-- A bound load is the one of its number. -/
theorem Plant.load?_of_mem {p : Plant} (hp : p.numbered) {l : Load} (hl : l ∈ p.loads) : p.load? l.num = some l := by
  cases h : p.load? l.num with
  | none => exact absurd rfl (Plant.load?_eq_none.mp h l hl)
  | some x =>
    obtain ⟨a, b, hsplit, ha, hb⟩ := Plant.loads_split hp h
    rw [hsplit, List.mem_append, List.mem_cons] at hl
    rcases hl with hl | rfl | hl
    · exact absurd rfl (ha l hl)
    · rfl
    · exact absurd rfl (hb l hl)

/-- Whether the loads are numbered depends on their numbers alone. -/
theorem Plant.numbered_congr {p q : Plant} (h : q.loads.map Load.num = p.loads.map Load.num) (hp : p.numbered) :
    q.numbered := by
  have hnums (r : Plant) : r.numbered ↔
      (r.loads.map Load.num).Pairwise (· < ·) ∧ ∀ k ∈ r.loads.map Load.num, 1 ≤ k ∧ k ≤ 96 := by
    simp [Plant.numbered, List.pairwise_map]
  rw [hnums, h]
  exact (hnums p).mp hp

theorem Plant.setLoad_nums (n : Nat) (f : Load → Load) (p : Plant) (hf : ∀ l, (f l).num = l.num := by intro; rfl) :
    (p.setLoad n f).loads.map Load.num = p.loads.map Load.num := by
  rw [Plant.setLoad, List.map_map]
  refine List.map_congr_left fun l _ => ?_
  dsimp only [Function.comp_apply]
  split <;> simp [hf]

/-- The loads after a change of the load of one number. -/
theorem Plant.setLoad_split {p : Plant} {n : Nat} {l : Load} {a b : List Load} (hsplit : p.loads = a ++ l :: b)
    (hl : l.num = n) (ha : ∀ x ∈ a, x.num ≠ n) (hb : ∀ x ∈ b, x.num ≠ n) (f : Load → Load) :
    (p.setLoad n f).loads = a ++ f l :: b := by
  have hsame (c : List Load) (hc : ∀ x ∈ c, x.num ≠ n) : c.map (fun x => if x.num = n then f x else x) = c :=
    (List.map_congr_left fun x hx => by simp [hc x hx]).trans (List.map_id c)
  simp [Plant.setLoad, hsplit, hl, hsame a ha, hsame b hb]

/-- What is done with the one load of a number decides a change of it. -/
theorem Plant.setLoad_congr {p : Plant} (hp : p.numbered) {n : Nat} {f g : Load → Load}
    (h : ∀ l, p.load? n = some l → f l = g l) : p.setLoad n f = p.setLoad n g := by
  refine congrArg (fun ls => ({ p with loads := ls } : Plant)) (List.map_congr_left fun l hl => ?_)
  by_cases hn : l.num = n
  · simp only [hn, beq_self_eq_true, if_true]
    exact h l (hn ▸ Plant.load?_of_mem hp hl)
  · simp [hn]

theorem Plant.setLoad_id (n : Nat) (p : Plant) : p.setLoad n id = p := by
  simp [Plant.setLoad]

/-- A change that leaves the one load of a number leaves the plant. -/
theorem Plant.setLoad_eq_self {p : Plant} (hp : p.numbered) {n : Nat} {f : Load → Load}
    (h : ∀ l, p.load? n = some l → f l = l) : p.setLoad n f = p :=
  (Plant.setLoad_congr hp (g := id) h).trans (p.setLoad_id n)

/-! ## Sound start queues and units (R72, R88) -/

/-- The loads in a feeder's start queue, oldest first. -/
def Plant.queueOf (p : Plant) (i : FeederId) : List Nat := (p.feeder i).queue.map QueueEntry.load

/-- The load waits in the start queue of this feeder. -/
abbrev Load.waitsAt (i : FeederId) (l : Load) : Prop := l.state = .wakeQueued ∧ l.cfg.feeder = i

/-- The units of this feeder that the load has been granted. -/
def Load.unitsAt (i : FeederId) (l : Load) : Nat := if l.cfg.feeder = i ∧ l.isWaking = true then l.cfg.demand else 0

/-- The load neither waits for units nor has been granted any. -/
abbrev Load.rests (l : Load) : Prop := l.state ≠ .wakeQueued ∧ l.isWaking = false

theorem Load.rests.not_waitsAt {l : Load} (h : l.rests) (i : FeederId) : ¬l.waitsAt i := fun hw => h.1 hw.1

theorem Load.rests.unitsAt {l : Load} (h : l.rests) (i : FeederId) : l.unitsAt i = 0 := by
  simp [Load.unitsAt, h.2]

theorem Load.rests_of_state {l : Load} (hq : l.state ≠ .wakeQueued) (hw : ∀ w, l.state ≠ .waking w) : l.rests :=
  ⟨hq, by rw [← Bool.not_eq_true, Load.isWaking_iff]; exact fun ⟨w, h⟩ => hw w h⟩

theorem Plant.granted_eq (p : Plant) (i : FeederId) : p.granted i = (p.loads.map (Load.unitsAt i)).sum := by
  unfold Plant.granted
  induction p.loads with
  | nil => rfl
  | cons l ls ih =>
    by_cases h : l.cfg.feeder = i ∧ l.isWaking = true
    · simp [Load.unitsAt, h.1, h.2, ih]
    · have h' : ¬(l.cfg.feeder == i && l.isWaking) = true := by simpa using h
      simp only [List.filter_cons, h', List.map_cons, List.sum_cons, Load.unitsAt, if_neg h, ih, Bool.false_eq_true,
        if_false, Nat.zero_add]

/-- A number is in a feeder's queue exactly while its load waits there. -/
abbrev Plant.queuesMatch (p : Plant) : Prop :=
  ∀ i m, m ∈ p.queueOf i ↔ ∃ l, p.load? m = some l ∧ l.waitsAt i

theorem Plant.queued_iff {p : Plant} (hp : p.numbered) :
    p.queued ↔ (∀ i, (p.queueOf i).Nodup) ∧ p.queuesMatch := by
  have hholds (i : FeederId) (e : QueueEntry) :
      p.holdsEntry i e = true ↔ ∃ l, p.load? e.load = some l ∧ l.waitsAt i := by
    cases h : p.load? e.load <;> simp [Plant.holdsEntry, h]
  constructor
  · rintro ⟨hnodup, hentries, hwaiting⟩
    refine ⟨hnodup, fun i m => ⟨fun hm => ?_, fun ⟨l, hl, hstate, hfeeder⟩ => ?_⟩⟩
    · obtain ⟨e, he, rfl⟩ := List.mem_map.mp hm
      exact (hholds i e).mp (hentries i e he)
    · have hmem := hwaiting l (Plant.mem_of_load? hl) hstate
      rw [Plant.load?_num hl, hfeeder] at hmem
      exact hmem
  · rintro ⟨hnodup, hmatch⟩
    refine ⟨hnodup, fun i e he => (hholds i e).mpr ((hmatch i e.load).mp (List.mem_map_of_mem he)), fun l hl hstate => ?_⟩
    exact (hmatch l.cfg.feeder l.num).mpr ⟨l, Plant.load?_of_mem hp hl, hstate, rfl⟩

/-- Start queues and units in terms of the load of a number. -/
theorem Plant.sound_iff (p : Plant) :
    p.sound ↔ p.numbered ∧ (∀ i, (p.queueOf i).Nodup) ∧ p.queuesMatch ∧
      ∀ i, (p.feeder i).free + (p.loads.map (Load.unitsAt i)).sum = (p.feeder i).capacity := by
  have hbalanced : p.balanced ↔
      ∀ i, (p.feeder i).free + (p.loads.map (Load.unitsAt i)).sum = (p.feeder i).capacity := by
    simp only [Plant.balanced, Plant.granted_eq]
  constructor
  · rintro ⟨hnum, hq, hb⟩
    exact ⟨hnum, ((Plant.queued_iff hnum).mp hq).1, ((Plant.queued_iff hnum).mp hq).2, hbalanced.mp hb⟩
  · rintro ⟨hnum, hnodup, hmatch, hb⟩
    exact ⟨hnum, (Plant.queued_iff hnum).mpr ⟨hnodup, hmatch⟩, hbalanced.mpr hb⟩

theorem Plant.sound.numbered {p : Plant} (h : p.sound) : p.numbered := h.1

theorem Plant.sound.nodup {p : Plant} (h : p.sound) (i : FeederId) : (p.queueOf i).Nodup := (p.sound_iff.mp h).2.1 i

theorem Plant.sound.queuesMatch {p : Plant} (h : p.sound) : p.queuesMatch := (p.sound_iff.mp h).2.2.1

/-- A load that does not wait is in no queue. -/
theorem Plant.sound.not_mem_queueOf {p : Plant} (h : p.sound) {n : Nat} {l : Load} (hl : p.load? n = some l)
    (hstate : l.state ≠ .wakeQueued) (i : FeederId) : n ∉ p.queueOf i := fun hn => by
  obtain ⟨x, hx, hwaits⟩ := (h.queuesMatch i n).mp hn
  rw [hl] at hx
  cases hx
  exact hstate hwaits.1

/-- The numbers of a list of pairs of sums: a change of the load of one number changes the sum by the difference. -/
theorem Plant.sum_setLoad {p : Plant} (hp : p.numbered) {n : Nat} {l : Load} (hl : p.load? n = some l)
    (f : Load → Load) (u : Load → Nat) :
    ((p.setLoad n f).loads.map u).sum + u l = (p.loads.map u).sum + u (f l) := by
  obtain ⟨a, b, hsplit, ha, hb⟩ := Plant.loads_split hp hl
  rw [Plant.setLoad_split hsplit (Plant.load?_num hl) ha hb, hsplit]
  simp only [List.map_append, List.map_cons, List.sum_append, List.sum_cons]
  omega

/-- What a change of one load and of the feeders needs to keep start queues and units sound: the queues hold the changed
load exactly where it waits and the others as before, and what the load gives back is free or no longer capacity. -/
theorem Plant.sound_of_change {p q : Plant} (hp : p.sound) {n : Nat} {l : Load} (hl : p.load? n = some l)
    {f : Load → Load} (hf : ∀ x, (f x).num = x.num) (hloads : q.loads = (p.setLoad n f).loads)
    (hnodup : ∀ i, (q.queueOf i).Nodup) (hothers : ∀ i m, m ≠ n → (m ∈ q.queueOf i ↔ m ∈ p.queueOf i))
    (hself : ∀ i, n ∈ q.queueOf i ↔ (f l).waitsAt i)
    (hunits : ∀ i, (q.feeder i).free + (f l).unitsAt i + (p.feeder i).capacity =
      (p.feeder i).free + l.unitsAt i + (q.feeder i).capacity) : q.sound := by
  obtain ⟨hnum, -, hmatch, hbalanced⟩ := p.sound_iff.mp hp
  have hload? (m : Nat) : q.load? m = (p.setLoad n f).load? m := by rw [Plant.load?, hloads]; rfl
  have hfn : ∀ x : Load, x.num = n → (f x).num = n := fun x hx => (hf x).trans hx
  refine q.sound_iff.mpr ⟨Plant.numbered_congr (hloads ▸ Plant.setLoad_nums n f p hf) hnum, hnodup, fun i m => ?_,
    fun i => ?_⟩
  · rw [hload?]
    by_cases hm : m = n
    · subst hm
      rw [hself, Plant.load?_setLoad_self p m f hfn, hl]
      simp
    · rw [hothers i m hm, Plant.load?_setLoad_other p hm f hfn, hmatch i m]
  · have hsum := Plant.sum_setLoad hnum hl f (Load.unitsAt i)
    have h1 := hunits i
    have h2 := hbalanced i
    rw [hloads]
    omega

/-- A change of one load that rests before and after, and of no feeder. -/
theorem Plant.sound_setLoad_rests {p : Plant} (hp : p.sound) {n : Nat} {l : Load} (hl : p.load? n = some l)
    (hrests : l.rests) {f : Load → Load} (hf : ∀ x, (f x).num = x.num) (hfl : (f l).rests) : (p.setLoad n f).sound := by
  refine Plant.sound_of_change hp hl hf rfl hp.nodup (fun _ _ _ => .rfl) (fun i => ?_) (fun i => ?_)
  · exact iff_of_false (hp.not_mem_queueOf hl hrests.1 i) (hfl.not_waitsAt i)
  · rw [hrests.unitsAt, hfl.unitsAt, Plant.feeder_setLoad]

/-! ## Changes that do not concern queues and units -/

/-- What start queues and units read of a load. -/
def Load.unitView (l : Load) : Nat × Bool × Bool × FeederId × Nat :=
  (l.num, l.state == .wakeQueued, l.isWaking, l.cfg.feeder, l.cfg.demand)

/-- What they read of a feeder. -/
def Feeder.unitView (f : Feeder) : Nat × Nat × List Nat := (f.free, f.capacity, f.queue.map QueueEntry.load)

/-- The two plants have the same start queues and units. -/
structure Plant.SameUnits (p q : Plant) : Prop where
  loads : q.loads.map Load.unitView = p.loads.map Load.unitView
  feeders : ∀ i, (q.feeder i).unitView = (p.feeder i).unitView

theorem Plant.SameUnits.rfl {p : Plant} : p.SameUnits p := ⟨Eq.refl _, fun _ => Eq.refl _⟩

theorem Plant.SameUnits.trans {p q r : Plant} (h : p.SameUnits q) (k : q.SameUnits r) : p.SameUnits r :=
  ⟨k.loads.trans h.loads, fun i => (k.feeders i).trans (h.feeders i)⟩

theorem Plant.SameUnits.load? {p q : Plant} (h : p.SameUnits q) (n : Nat) :
    (q.load? n).map Load.unitView = (p.load? n).map Load.unitView := by
  have key (ls : List Load) : (ls.find? (fun l => l.num == n)).map Load.unitView =
      (ls.map Load.unitView).find? (fun u => u.1 == n) := by
    rw [List.find?_map]
    rfl
  rw [Plant.load?, Plant.load?, key, key, h.loads]

theorem Plant.SameUnits.sound {p q : Plant} (h : p.SameUnits q) (hp : p.sound) : q.sound := by
  obtain ⟨hnum, hnodup, hmatch, hbalanced⟩ := p.sound_iff.mp hp
  have hqueue (i : FeederId) : q.queueOf i = p.queueOf i := congrArg (fun u => u.2.2) (h.feeders i)
  have hnums : q.loads.map Load.num = p.loads.map Load.num := by
    have := congrArg (List.map Prod.fst) h.loads
    rw [List.map_map, List.map_map] at this
    exact this
  have hsum (i : FeederId) : (q.loads.map (Load.unitsAt i)).sum = (p.loads.map (Load.unitsAt i)).sum := by
    have := congrArg (List.map fun u : Nat × Bool × Bool × FeederId × Nat =>
      if u.2.2.2.1 = i ∧ u.2.2.1 = true then u.2.2.2.2 else 0) h.loads
    simp only [List.map_map] at this
    exact congrArg List.sum this
  have hwaits (i : FeederId) (m : Nat) :
      (∃ l, q.load? m = some l ∧ l.waitsAt i) ↔ ∃ l, p.load? m = some l ∧ l.waitsAt i := by
    have hview (r : Plant) : (∃ l, r.load? m = some l ∧ l.waitsAt i) ↔
        ∃ u, (r.load? m).map Load.unitView = some u ∧ u.2.1 = true ∧ u.2.2.2.1 = i := by
      cases r.load? m <;> simp [Load.unitView]
    rw [hview, h.load?, hview]
  refine q.sound_iff.mpr ⟨Plant.numbered_congr hnums hnum, fun i => hqueue i ▸ hnodup i, fun i m => ?_, fun i => ?_⟩
  · rw [hqueue, hmatch, hwaits]
  · rw [hsum, show (q.feeder i).free = (p.feeder i).free from congrArg Prod.fst (h.feeders i),
      show (q.feeder i).capacity = (p.feeder i).capacity from congrArg (fun u => u.2.1) (h.feeders i), hbalanced]

theorem Plant.sameUnits_loads {f : Load → Load} (hf : ∀ l, (f l).unitView = l.unitView) (p : Plant) :
    p.SameUnits { p with loads := p.loads.map f } :=
  ⟨by simp [Function.comp_def, hf], fun _ => rfl⟩

theorem Plant.sameUnits_setLoad (n : Nat) (f : Load → Load) (p : Plant) (hf : ∀ l, (f l).unitView = l.unitView := by intro; rfl) :
    p.SameUnits (p.setLoad n f) :=
  Plant.sameUnits_loads (f := fun l => if l.num == n then f l else l) (fun l => by split <;> simp [hf]) p

theorem Plant.sameUnits_setFeeder {i : FeederId} {f : Feeder → Feeder} (hf : ∀ x, (f x).unitView = x.unitView)
    (p : Plant) : p.SameUnits (p.setFeeder i f) := by
  refine ⟨rfl, fun j => ?_⟩
  by_cases h : j = i
  · subst h
    rw [Plant.feeder_setFeeder_self, hf]
  · rw [Plant.feeder_setFeeder_other p h]

theorem Plant.sameUnits_setStation (i : StationId) (f : Station → Station) (p : Plant) :
    p.SameUnits (p.setStation i f) := ⟨rfl, fun _ => rfl⟩

/-! ## What orders leave of loads and feeders (R6, R112) -/

@[simp] theorem Plant.refillSlot_loads (i : StationId) (p : Plant) : (p.refillSlot i).loads = p.loads := by
  unfold Plant.refillSlot
  split
  · rfl
  · split <;> rfl

@[simp] theorem Plant.refillSlot_feeders (i : StationId) (p : Plant) : (p.refillSlot i).feeders = p.feeders := by
  unfold Plant.refillSlot
  split
  · rfl
  · split <;> rfl

@[simp] theorem Plant.withdraw_feeders (n : Nat) (p : Plant) : (p.withdraw n).feeders = p.feeders := by
  unfold Plant.withdraw
  split
  · rfl
  · split
    · rfl
    · dsimp only
      split
      · rfl
      · split <;> simp

@[simp] theorem Plant.makeDue_feeders (n : Nat) (k : OrderKind) (p : Plant) : (p.makeDue n k).feeders = p.feeders := by
  unfold Plant.makeDue
  split
  · rfl
  · split
    · rfl
    · dsimp only
      split <;> rfl

theorem Plant.feeder_of_feeders {p q : Plant} (h : q.feeders = p.feeders) (i : FeederId) : q.feeder i = p.feeder i := by
  rw [Plant.feeder, h]
  rfl

@[simp] theorem Plant.feeder_withdraw (n : Nat) (i : FeederId) (p : Plant) : (p.withdraw n).feeder i = p.feeder i :=
  Plant.feeder_of_feeders (p.withdraw_feeders n) i

@[simp] theorem Plant.feeder_makeDue (n : Nat) (k : OrderKind) (i : FeederId) (p : Plant) :
    (p.makeDue n k).feeder i = p.feeder i := Plant.feeder_of_feeders (p.makeDue_feeders n k) i

theorem Plant.load?_of_loads {p q : Plant} (h : q.loads = p.loads) (n : Nat) : q.load? n = p.load? n := by
  rw [Plant.load?, h]
  rfl

theorem Plant.numbered_of_loads {p q : Plant} (h : q.loads = p.loads) (hp : p.numbered) : q.numbered :=
  Plant.numbered_congr (by rw [h]) hp

/-- A load without its due order. -/
def Load.undue (l : Load) : Load := { l with due := none }

/-- Withdrawing leaves the loads without the due order of the one (R6). -/
theorem Plant.withdraw_loads {p : Plant} (hp : p.numbered) (n : Nat) :
    (p.withdraw n).loads = (p.setLoad n Load.undue).loads := by
  unfold Plant.withdraw
  split
  · next h => rw [Plant.setLoad_eq_self hp (fun l hl => absurd (h.symm.trans hl) nofun)]
  · next l h =>
    split
    · next hdue =>
      rw [Plant.setLoad_eq_self hp fun x hx => ?_]
      rw [h] at hx
      cases hx
      rw [Load.undue, ← Option.isNone_iff_eq_none.mp hdue]
    · dsimp only
      split
      · rfl
      · split
        · simp only [Plant.refillSlot_loads, Plant.setStation_loads]
          rfl
        · rfl

/-- Making an order due leaves the loads with that order on the one, unless it is locked out (R6). -/
theorem Plant.makeDue_loads {p : Plant} {n : Nat} {l : Load} (hl : p.load? n = some l) (hlock : l.hold.byLockout = false)
    (k : OrderKind) : (p.makeDue n k).loads = (p.setLoad n (fun l => { l with due := some k })).loads := by
  simp only [Plant.makeDue, hl, hlock, Bool.false_eq_true, if_false]
  split <;> rfl

theorem Plant.makeDue_locked {p : Plant} {n : Nat} {l : Load} (hl : p.load? n = some l) (hlock : l.hold.byLockout = true)
    (k : OrderKind) : p.makeDue n k = p := by
  simp only [Plant.makeDue, hl, hlock, if_true]

theorem Plant.sameUnits_of_loads {p q r : Plant} (h : p.SameUnits q) (hloads : r.loads = q.loads)
    (hfeeders : r.feeders = q.feeders) : p.SameUnits r :=
  ⟨by rw [hloads, h.loads], fun i => by rw [Plant.feeder_of_feeders hfeeders, h.feeders]⟩

theorem Plant.sameUnits_withdraw (n : Nat) {p : Plant} (hp : p.numbered) : p.SameUnits (p.withdraw n) :=
  Plant.sameUnits_of_loads (q := p.setLoad n Load.undue) (Plant.sameUnits_setLoad n _ p)
    (Plant.withdraw_loads hp n) (p.withdraw_feeders n)

theorem Plant.sameUnits_refillSlot (i : StationId) (p : Plant) : p.SameUnits (p.refillSlot i) :=
  Plant.sameUnits_of_loads .rfl (p.refillSlot_loads i) (p.refillSlot_feeders i)

theorem Plant.sameUnits_dropOrders (i : StationId) (p : Plant) : p.SameUnits (p.dropOrders i) :=
  (Plant.sameUnits_loads (f := fun l => if l.cfg.station == i then { l with due := none } else l)
    (fun l => by split <;> rfl) p).trans ⟨rfl, fun _ => rfl⟩

/-- The load of a number after its due order was withdrawn. -/
theorem Plant.load?_withdraw {p : Plant} (hp : p.numbered) (n m : Nat) :
    (p.withdraw n).load? m = (p.setLoad n Load.undue).load? m :=
  Plant.load?_of_loads (Plant.withdraw_loads hp n) m

theorem Plant.load?_withdraw_self {p : Plant} (hp : p.numbered) {n : Nat} {l : Load} (hl : p.load? n = some l) :
    (p.withdraw n).load? n = some l.undue := by
  rw [Plant.load?_withdraw hp, Plant.load?_setLoad_self p n Load.undue (fun _ h => h), hl]
  rfl

/-! ## A grant (R82) -/

/-- The loads after a grant to a load that is not locked out. -/
theorem Plant.grantTo_loads {p : Plant} (hp : p.numbered) (i : FeederId) {n : Nat} (rest : List QueueEntry) {l : Load}
    (hl : p.load? n = some l) (hlock : l.hold.byLockout = false) :
    (p.grantTo i n rest).loads = (p.setLoad n Load.granted).loads := by
  have hw (q : Plant) (hq : q.loads = p.loads) :
      ((q.setLoad n (fun l => { l with state := .waking .ordered, awaitingFan := false })).withdraw n).loads =
        (p.setLoad n (fun l => { l with state := .waking .ordered, awaitingFan := false, due := none })).loads := by
    have hnum : (q.setLoad n (fun l => { l with state := .waking .ordered, awaitingFan := false })).numbered :=
      Plant.numbered_congr (Plant.setLoad_nums n _ q) (Plant.numbered_of_loads hq hp)
    rw [Plant.withdraw_loads hnum, Plant.setLoad_setLoad, Plant.setLoad, hq]
    · rfl
    · exact fun _ => rfl
  simp only [Plant.grantTo, hl]
  rw [Plant.setFeeder_loads]
  generalize hq : p.setFeeder i _ = q
  have hqloads : q.loads = p.loads := by rw [← hq]; rfl
  generalize hr : (q.setLoad n _).withdraw n = r
  have hrloads : r.loads = (p.setLoad n (fun l =>
      { l with state := .waking .ordered, awaitingFan := false, due := none })).loads := by rw [← hr, hw q hqloads]
  have hrl : r.load? n = some { l with state := .waking .ordered, awaitingFan := false, due := none } := by
    rw [Plant.load?_of_loads hrloads, Plant.load?_setLoad_self p n, hl]
    · rfl
    · exact fun _ h => h
  rw [Plant.setLoad, Plant.makeDue_loads hrl hlock]
  simp only [Plant.setLoad, hrloads, List.map_map]
  refine List.map_congr_left fun x hx => ?_
  by_cases hn : x.num = n
  · have hxl : x = l := by
      have hxload := Plant.load?_of_mem hp hx
      rw [hn, hl] at hxload
      exact (Option.some.inj hxload).symm
    simp [hxl, Plant.load?_num hl, Load.granted]
  · simp [hn]

/-- A feeder that has granted units. -/
def Feeder.gave (units : Nat) (rest : List QueueEntry) (f : Feeder) : Feeder :=
  { f with
    free := f.free - units, queue := rest,
    spacingTimer := if f.spacing = 0 then f.spacingTimer else some (Timer.start f.spacing) }

theorem Plant.feeder_grantTo {p : Plant} (i : FeederId) {n : Nat} (rest : List QueueEntry) {l : Load}
    (hl : p.load? n = some l) : (p.grantTo i n rest).feeder i = (p.feeder i).gave l.cfg.demand rest := by
  simp only [Plant.grantTo, hl, Plant.feeder_setFeeder_self, Plant.feeder_setLoad, Plant.feeder_makeDue,
    Plant.feeder_withdraw, Feeder.gave]
  split <;> rfl

theorem Plant.feeder_grantTo_other {p : Plant} {i j : FeederId} (hj : j ≠ i) (n : Nat) (rest : List QueueEntry) :
    (p.grantTo i n rest).feeder j = p.feeder j := by
  unfold Plant.grantTo
  split
  · rfl
  · dsimp only
    rw [Plant.feeder_setFeeder_other _ hj, Plant.feeder_setLoad, Plant.feeder_makeDue, Plant.feeder_withdraw,
      Plant.feeder_setLoad, Plant.feeder_setFeeder_other _ hj]

/-- A grant attempt on one feeder leaves the others. -/
theorem Plant.feeder_grantAttempt_other (clock : Option Clock) {i j : FeederId} (hj : j ≠ i) (p : Plant) :
    (p.grantAttempt clock i).feeder j = p.feeder j := by
  unfold Plant.grantAttempt
  generalize (p.feeder i).queue.length = fuel
  induction fuel generalizing p with
  | zero => rfl
  | succ fuel ih =>
    rw [Plant.grantLoop]
    split
    · rfl
    · split
      · rfl
      · split
        · rw [ih, Plant.feeder_grantTo_other hj]
        · exact Plant.feeder_grantTo_other hj _ _

end Sys2Proof.Machine
end

section
/-!
PROOFS. What grants and the fan clearing of R77 make of the loads of a plant with sound start queues and units: only
WAKE_QUEUED loads change, and the plant stays sound (R72 to R83, R88).
-/

namespace Sys2Proof.Machine

/-! ## Load by load -/

/-- The two plants have the same loads by number, and each has become what the relation says. -/
abbrev Plant.Loads (R : Load → Load → Prop) (p q : Plant) : Prop := List.Forall₂ R p.loads q.loads

/-- A relation between a load before and after that keeps its number. -/
abbrev KeepsNum (R : Load → Load → Prop) : Prop := ∀ x y, R x y → y.num = x.num

section

variable {R S T : Load → Load → Prop} {p q r : Plant}

theorem Plant.Loads.load? (hR : KeepsNum R) (h : p.Loads R q) (n : Nat) :
    Option.Rel R (p.load? n) (q.load? n) := by
  unfold Plant.load?
  unfold Plant.Loads at h
  generalize p.loads = as at h
  generalize q.loads = bs at h
  induction h with
  | nil => exact .none
  | @cons x y _ _ hxy _ ih =>
    rw [List.find?_cons, List.find?_cons, hR _ _ hxy]
    split
    · exact .some hxy
    · exact ih

theorem Plant.Loads.bound (hR : KeepsNum R) (h : p.Loads R q) {n : Nat} {x : Load} (hx : p.load? n = some x) :
    ∃ y, q.load? n = some y ∧ R x y := by
  have hrel := h.load? hR n
  rw [hx] at hrel
  cases hrel' : q.load? n with
  | none => rw [hrel'] at hrel; cases hrel
  | some y =>
    rw [hrel'] at hrel
    cases hrel with
    | some hxy => exact ⟨y, rfl, hxy⟩

theorem Plant.Loads.unbound (hR : KeepsNum R) (h : p.Loads R q) {n : Nat} (hx : p.load? n = none) : q.load? n = none := by
  have hrel := h.load? hR n
  rw [hx] at hrel
  cases hrel' : q.load? n with
  | none => rfl
  | some y => rw [hrel'] at hrel; cases hrel

theorem Plant.Loads.trans (hRST : ∀ x y z, R x y → S y z → T x z) (h : p.Loads R q) (k : q.Loads S r) : p.Loads T r := by
  unfold Plant.Loads at h k ⊢
  generalize p.loads = as at h
  generalize q.loads = bs at h k
  generalize r.loads = cs at k
  induction h generalizing cs with
  | nil => cases k; exact .nil
  | cons hxy _ ih =>
    cases k with
    | cons hyz k => exact .cons (hRST _ _ _ hxy hyz) (ih _ k)

theorem Plant.Loads.mono (hRS : ∀ x y, R x y → S x y) (h : p.Loads R q) : p.Loads S q :=
  List.Forall₂.imp hRS h

theorem Plant.Loads.rfl (hR : ∀ x, R x x) : p.Loads R p := List.forall₂_same.mpr fun x _ => hR x

theorem Plant.Loads.map {f : Load → Load} (h : ∀ x ∈ p.loads, R x (f x)) (hq : q.loads = p.loads.map f) : p.Loads R q := by
  rw [Plant.Loads, hq, List.forall₂_map_right_iff]
  exact List.forall₂_same.mpr h

/-- A change of the one load of a number, and any of the feeders and stations. -/
theorem Plant.Loads.setLoad (hR : ∀ x, R x x) (hp : p.numbered) {n : Nat} {l : Load} (hl : p.load? n = some l)
    {f : Load → Load} (hf : R l (f l)) (hq : q.loads = (p.setLoad n f).loads) : p.Loads R q := by
  refine Plant.Loads.map (fun x hx => ?_) hq
  split
  · next hn =>
    have hxl := Plant.load?_of_mem hp hx
    rw [beq_iff_eq.mp hn, hl] at hxl
    exact Option.some.inj hxl ▸ hf
  · exact hR x

end

/-! ## Grants (R78 to R83) -/

/-- The load has asked for its units or been granted them. -/
abbrev Load.onItsWay (l : Load) : Prop := l.state = .wakeQueued ∨ ∃ w, l.state = .waking w

/-- What a grant attempt makes of a load (R82): it is as before, or it was WAKE_QUEUED and eligible and has been
granted its units. -/
def Load.Grants (x y : Load) : Prop :=
  y = x ∨ x.state = .wakeQueued ∧ x.hold.byLockout = false ∧ x.awaitingFan = false ∧ y = x.granted

theorem Load.Grants.rfl {x : Load} : x.Grants x := .inl (Eq.refl _)

theorem Load.Grants.trans (x y z : Load) (h : x.Grants y) (k : y.Grants z) : x.Grants z := by
  rcases h with rfl | ⟨hstate, hlock, hfan, rfl⟩
  · exact k
  · rcases k with rfl | ⟨hstate', -⟩
    · exact .inr ⟨hstate, hlock, hfan, Eq.refl _⟩
    · exact absurd hstate' (by simp [Load.granted])

theorem Load.Grants.num : KeepsNum Load.Grants := by
  rintro x y (rfl | ⟨-, -, -, rfl⟩) <;> rfl

/-- What the examination of R81 finds on a sound plant: the load of the entry that is granted. -/
theorem Plant.sound.picked {p : Plant} (hp : p.sound) {clock : Option Clock} {i : FeederId} {e : QueueEntry}
    {rest : List QueueEntry}
    (h : pickEntry (p.eligible clock) p.demandOf (p.feeder i).free (p.feeder i).queue = some (e, rest)) :
    ∃ l, p.load? e.load = some l ∧ l.waitsAt i ∧ l.hold.byLockout = false ∧ l.awaitingFan = false ∧
      l.cfg.demand ≤ (p.feeder i).free ∧
      ∃ before after : List Nat, p.queueOf i = before ++ e.load :: after ∧
        rest.map QueueEntry.load = before ++ after := by
  obtain ⟨before, after, hqueue, heligible, hdemand, -, hrest⟩ := pickEntry_eq_some_iff.mp h
  have hmem : e.load ∈ p.queueOf i := by simp [Plant.queueOf, hqueue]
  obtain ⟨l, hl, hwaits⟩ := (hp.queuesMatch i e.load).mp hmem
  simp only [Plant.eligible, hl, Plant.eligibleLoad, Bool.and_eq_true, Bool.not_eq_true'] at heligible
  simp only [Plant.demandOf, hl] at hdemand
  refine ⟨l, hl, hwaits, heligible.1.1.2, heligible.1.2, hdemand, before.map QueueEntry.load,
    after.map QueueEntry.load, by simp [Plant.queueOf, hqueue], ?_⟩
  have hsame : QueueEntry.load ∘ QueueEntry.passedOver (p.eligible clock) = QueueEntry.load := by
    funext x
    simp only [Function.comp_apply, QueueEntry.passedOver]
    split <;> rfl
  rw [hrest, List.map_append, List.map_map, hsame]

/-- A grant keeps the plant sound (R72, R82, R88). -/
theorem Plant.grantTo_sound {p : Plant} (hp : p.sound) {i : FeederId} {n : Nat} {rest : List QueueEntry} {l : Load}
    (hl : p.load? n = some l) (hwaits : l.waitsAt i) (hlock : l.hold.byLockout = false)
    (hdemand : l.cfg.demand ≤ (p.feeder i).free) {before after : List Nat} (hqueue : p.queueOf i = before ++ n :: after)
    (hrest : rest.map QueueEntry.load = before ++ after) : (p.grantTo i n rest).sound := by
  have hnodup := hp.nodup i
  rw [hqueue] at hnodup
  have hfeeder := Plant.feeder_grantTo i rest hl
  have hqueue' : (p.grantTo i n rest).queueOf i = before ++ after := by
    rw [Plant.queueOf, hfeeder]
    exact hrest
  have hother {j : FeederId} (hj : j ≠ i) : (p.grantTo i n rest).queueOf j = p.queueOf j := by
    rw [Plant.queueOf, Plant.feeder_grantTo_other hj]
    rfl
  refine Plant.sound_of_change hp hl (f := Load.granted) (fun _ => rfl) (Plant.grantTo_loads hp.numbered i rest hl hlock)
    (fun j => ?_) (fun j m hm => ?_) (fun j => ?_) (fun j => ?_)
  · by_cases hj : j = i
    · subst hj
      rw [hqueue']
      exact hnodup.sublist (List.Sublist.append_left (List.sublist_cons_self n after) before)
    · rw [hother hj]
      exact hp.nodup j
  · by_cases hj : j = i
    · subst hj
      rw [hqueue', hqueue]
      simp [hm]
    · rw [hother hj]
  · refine iff_of_false ?_ (fun h => absurd h.1 (by simp [Load.granted]))
    by_cases hj : j = i
    · subst hj
      rw [hqueue']
      exact (List.nodup_middle.mp hnodup).notMem
    · rw [hother hj]
      intro hn
      obtain ⟨x, hx, hxj⟩ := (hp.queuesMatch j n).mp hn
      rw [hl] at hx
      cases hx
      exact hj (hxj.2.symm.trans hwaits.2)
  · have hl0 : l.unitsAt j = 0 := by simp [Load.unitsAt, Load.isWaking, hwaits.1]
    by_cases hj : j = i
    · subst hj
      have hg : l.granted.unitsAt j = l.cfg.demand := by simp [Load.unitsAt, Load.isWaking, Load.granted, hwaits.2]
      rw [hfeeder, hl0, hg]
      simp only [Feeder.gave]
      omega
    · have hg : l.granted.unitsAt j = 0 := by
        simp only [Load.unitsAt, Load.granted, hwaits.2]
        exact if_neg fun h => hj h.1.symm
      rw [Plant.feeder_grantTo_other hj, hl0, hg]

/-- A plant after changes that kept it sound, each load being what the relation says. -/
structure Plant.Moves (R : Load → Load → Prop) (p q : Plant) : Prop where
  loads : p.Loads R q
  sound : q.sound

theorem Plant.Moves.trans {R : Load → Load → Prop} (hR : ∀ x y z, R x y → R y z → R x z) {p q r : Plant}
    (h : p.Moves R q) (k : q.Moves R r) : p.Moves R r := ⟨h.loads.trans hR k.loads, k.sound⟩

theorem Plant.Moves.mono {R S : Load → Load → Prop} (hRS : ∀ x y, R x y → S x y) {p q : Plant} (h : p.Moves R q) :
    p.Moves S q := ⟨h.loads.mono hRS, h.sound⟩

theorem Plant.Moves.rfl {R : Load → Load → Prop} (hR : ∀ x, R x x) {p : Plant} (hp : p.sound) : p.Moves R p :=
  ⟨.rfl hR, hp⟩

/-- A fold of changes that each keep a sound plant sound. -/
theorem Plant.Moves.foldl {α : Type} {R : Load → Load → Prop} (hR : ∀ x, R x x)
    (htrans : ∀ x y z, R x y → R y z → R x z) {f : Plant → α → Plant} (h : ∀ (p : Plant) (a : α), p.sound → p.Moves R (f p a))
    (as : List α) {p : Plant} (hp : p.sound) : p.Moves R (as.foldl f p) := by
  induction as generalizing p with
  | nil => exact .rfl hR hp
  | cons a as ih => exact (h p a hp).trans htrans (ih (h p a hp).sound)

theorem Plant.moves_grantTo {p : Plant} (hp : p.sound) {clock : Option Clock} {i : FeederId} {e : QueueEntry}
    {rest : List QueueEntry}
    (h : pickEntry (p.eligible clock) p.demandOf (p.feeder i).free (p.feeder i).queue = some (e, rest)) :
    p.Moves Load.Grants (p.grantTo i e.load rest) := by
  obtain ⟨l, hl, hwaits, hlock, hfan, hdemand, before, after, hqueue, hrest⟩ := hp.picked h
  exact ⟨Plant.Loads.setLoad (fun _ => .rfl) hp.numbered hl (f := Load.granted) (.inr ⟨hwaits.1, hlock, hfan, rfl⟩)
    (Plant.grantTo_loads hp.numbered i rest hl hlock), Plant.grantTo_sound hp hl hwaits hlock hdemand hqueue hrest⟩

theorem Plant.moves_grantAttempt (clock : Option Clock) (i : FeederId) {p : Plant} (hp : p.sound) :
    p.Moves Load.Grants (p.grantAttempt clock i) := by
  unfold Plant.grantAttempt
  generalize (p.feeder i).queue.length = fuel
  induction fuel generalizing p with
  | zero => exact .rfl (fun _ => .rfl) hp
  | succ fuel ih =>
    rw [Plant.grantLoop]
    split
    · exact .rfl (fun _ => .rfl) hp
    · split
      · exact .rfl (fun _ => .rfl) hp
      · next h =>
        have hgrant := Plant.moves_grantTo hp h
        split
        · exact hgrant.trans Load.Grants.trans (ih hgrant.sound)
        · exact hgrant

theorem Plant.moves_grantAll (clock : Option Clock) {p : Plant} (hp : p.sound) :
    p.Moves Load.Grants (p.grantAll clock) :=
  .foldl (fun _ => .rfl) Load.Grants.trans (fun _ i hq => Plant.moves_grantAttempt clock i hq) _ hp

theorem Plant.moves_attemptFor (clock : Option Clock) (ls : List Load) {p : Plant} (hp : p.sound) :
    p.Moves Load.Grants (p.attemptFor clock ls) := by
  refine .foldl (fun _ => .rfl) Load.Grants.trans (fun q i hq => ?_) _ hp
  split
  · exact Plant.moves_grantAttempt clock i hq
  · exact .rfl (fun _ => .rfl) hq

/-! ## Grants and fan clearing (R77) -/

/-- What grants and fan clearing make of a load: a WAKE_QUEUED one may be WAKING, and no longer await a fan. -/
def Load.Calm (x y : Load) : Prop :=
  y = x ∨ x.state = .wakeQueued ∧ y.onItsWay ∧ y.core = x.core ∧ y.wakeDue = x.wakeDue ∧
    (x.awaitingFan = false → y.awaitingFan = false)

theorem Load.Calm.rfl {x : Load} : x.Calm x := .inl (Eq.refl _)

theorem Load.Calm.of_grants (x y : Load) (h : x.Grants y) : x.Calm y := by
  rcases h with rfl | ⟨hstate, -, -, rfl⟩
  · exact .rfl
  · exact .inr ⟨hstate, .inr ⟨.ordered, Eq.refl _⟩, Eq.refl _, Eq.refl _, fun _ => Eq.refl _⟩

/-- Only a WAKE_QUEUED load changes. -/
theorem Load.Calm.eq {x y : Load} (h : x.Calm y) (hx : x.state ≠ .wakeQueued) : y = x :=
  h.resolve_right fun h => hx h.1

theorem Load.Calm.trans (x y z : Load) (h : x.Calm y) (k : y.Calm z) : x.Calm z := by
  rcases h with rfl | ⟨hstate, hway, hcore, hdue, hfan⟩
  · exact k
  · rcases k with rfl | ⟨-, kway, kcore, kdue, kfan⟩
    · exact .inr ⟨hstate, hway, hcore, hdue, hfan⟩
    · exact .inr ⟨hstate, kway, kcore.trans hcore, kdue.trans hdue, fun h => kfan (hfan h)⟩

theorem Load.Calm.num : KeepsNum Load.Calm := by
  rintro x y (rfl | ⟨-, -, hcore, -⟩)
  · rfl
  · have := congrArg Load.num hcore
    exact this

theorem Plant.calm_grantAttempt (clock : Option Clock) (i : FeederId) {p : Plant} (hp : p.sound) :
    p.Moves Load.Calm (p.grantAttempt clock i) := (Plant.moves_grantAttempt clock i hp).mono .of_grants

theorem Plant.calm_grantAll (clock : Option Clock) {p : Plant} (hp : p.sound) : p.Moves Load.Calm (p.grantAll clock) :=
  (Plant.moves_grantAll clock hp).mono .of_grants

theorem Plant.calm_clearAwaiting (z : Nat) {p : Plant} (hp : p.sound) : p.Moves Load.Calm (p.clearAwaiting z) := by
  refine ⟨Plant.Loads.map (fun x _ => ?_) rfl, Plant.SameUnits.sound ?_ hp⟩
  · split
    · next h =>
      have hstate : x.state = .wakeQueued := by simp_all
      exact .inr ⟨hstate, .inl hstate, rfl, rfl, fun _ => rfl⟩
    · exact .rfl
  · exact Plant.sameUnits_loads (fun l => by split <;> rfl) p

/-- Every other load that is not WAKE_QUEUED is as before. -/
theorem Plant.Moves.eq {p q : Plant} (h : p.Moves Load.Calm q) {m : Nat} {x : Load} (hx : p.load? m = some x)
    (hstate : x.state ≠ .wakeQueued) : q.load? m = some x := by
  obtain ⟨y, hy, hxy⟩ := h.loads.bound Load.Calm.num hx
  rw [hy, hxy.eq hstate]

/-- A WAKE_QUEUED load of a zone whose fan flags have been cleared awaits no fan. -/
theorem Plant.clearAwaiting_load? {p : Plant} {z m : Nat} {x : Load} (hx : p.load? m = some x)
    (hstate : x.state = .wakeQueued) (hz : x.cfg.zone = z) :
    (p.clearAwaiting z).load? m = some { x with awaitingFan := false } := by
  have hloads : p.Loads (fun a b => b = if a.state == .wakeQueued && a.cfg.zone == z then { a with awaitingFan := false }
      else a) (p.clearAwaiting z) := Plant.Loads.map (fun _ _ => rfl) rfl
  obtain ⟨y, hy, rfl⟩ := hloads.bound (by rintro a b rfl; split <;> rfl) hx
  rw [hy]
  simp [hstate, hz]

/-! ## Entry into ACTIVE (R38, R77) -/

/-- The record of a load that has just entered ACTIVE. -/
def Load.activeNow (l : Load) : Load := { l with state := .active, dwell := 0, idle := false }

/-- The load is a fan of a zone, whose entry into ACTIVE clears the zone (R77). -/
abbrev Load.isZoneFan (l : Load) : Prop := l.cfg.kind = .fan ∧ l.cfg.zone ≠ 0

theorem Plant.enterActive_bound {p : Plant} {n : Nat} {l : Load} (hl : p.load? n = some l) (clock : Option Clock) :
    p.enterActive clock n =
      if l.isZoneFan then ((p.setLoad n Load.activeNow).clearAwaiting l.cfg.zone).grantAll clock
      else p.setLoad n Load.activeNow := by
  simp only [Plant.enterActive, hl]
  rfl

/-- The entry of a load at rest into ACTIVE: the load changes, and beyond it only what grants and fan clearing change. -/
theorem Plant.calm_enterActive {p : Plant} (hp : p.sound) {n : Nat} {l : Load} (hl : p.load? n = some l) (hrests : l.rests)
    (clock : Option Clock) : (p.setLoad n Load.activeNow).Moves Load.Calm (p.enterActive clock n) := by
  have hset : (p.setLoad n Load.activeNow).sound :=
    Plant.sound_setLoad_rests hp hl hrests (fun _ => rfl) (Load.rests_of_state nofun nofun)
  rw [Plant.enterActive_bound hl]
  split
  · have hclear := Plant.calm_clearAwaiting l.cfg.zone hset
    exact hclear.trans Load.Calm.trans (Plant.calm_grantAll clock hclear.sound)
  · exact .rfl (fun _ => .rfl) hset

end Sys2Proof.Machine
end

section
/-!
PROOFS. What wake requests make of the loads of a plant with sound start queues and units (R69 to R76), and what the
return of units and the leaving of a queue need to keep it sound (R74, R88).
-/

namespace Sys2Proof.Machine

/-! ## What wake requests make of a load -/

/-- What wake requests, and the grants they bring, make of a load, by its state before (R70). -/
def Load.Woken (x y : Load) : Prop :=
  y.core = x.core ∧
  match x.state with
  | .parked => y = x ∨ y.onItsWay ∧ y.wakeDue = false
  | .wakeQueued => y.onItsWay ∧ y.wakeDue = x.wakeDue
  | .parking _ => y = x ∨ y = { x with wakeDue := true }
  | .offline => y = x ∨ x.parkOwned = true ∧ y = { x with wakeDue := true }
  | _ => y = x

theorem Load.Woken.rfl {x : Load} : x.Woken x := by
  refine ⟨Eq.refl _, ?_⟩
  cases h : x.state with
  | wakeQueued => exact ⟨.inl h, Eq.refl _⟩
  | parked => exact .inl (Eq.refl _)
  | parking step => exact .inl (Eq.refl _)
  | offline => exact .inl (Eq.refl _)
  | _ => exact Eq.refl _

theorem Load.Woken.of_calm (x y : Load) (h : x.Calm y) : x.Woken y := by
  rcases h with rfl | ⟨hstate, hway, hcore, hdue, -⟩
  · exact .rfl
  · refine ⟨hcore, ?_⟩
    rw [hstate]
    exact ⟨hway, hdue⟩

/-- A load on its way stays on its way. -/
theorem Load.Woken.onItsWay {x y : Load} (h : x.Woken y) (hx : x.onItsWay) : y.onItsWay ∧ y.wakeDue = x.wakeDue := by
  have hmove := h.2
  rcases hx with hx | ⟨w, hx⟩
  · rw [hx] at hmove
    exact hmove
  · rw [hx] at hmove
    subst hmove
    exact ⟨.inr ⟨w, hx⟩, Eq.refl _⟩

theorem Load.Woken.trans (x y z : Load) (h : x.Woken y) (k : y.Woken z) : x.Woken z := by
  refine ⟨k.1.trans h.1, ?_⟩
  have hmove := h.2
  have kmove := k.2
  cases hx : x.state with
  | parked =>
    rw [hx] at hmove
    rcases hmove with rfl | ⟨hway, hdue⟩
    · rw [hx] at kmove
      exact kmove
    · obtain ⟨kway, kdue⟩ := k.onItsWay hway
      exact .inr ⟨kway, kdue.trans hdue⟩
  | wakeQueued =>
    rw [hx] at hmove
    obtain ⟨kway, kdue⟩ := k.onItsWay hmove.1
    exact ⟨kway, kdue.trans hmove.2⟩
  | parking step =>
    rw [hx] at hmove
    rcases hmove with rfl | rfl
    · rw [hx] at kmove
      exact kmove
    · simp only at kmove
      exact .inr (kmove.elim id id)
  | offline =>
    rw [hx] at hmove
    rcases hmove with rfl | ⟨hown, rfl⟩
    · rw [hx] at kmove
      exact kmove
    · simp only at kmove
      exact .inr ⟨hown, kmove.elim id And.right⟩
  | _ =>
    rw [hx] at hmove
    subst hmove
    rw [hx] at kmove
    exact kmove

theorem Load.Woken.num : KeepsNum Load.Woken := fun x y h => by
  have := congrArg Load.num h.1
  exact this

/-! ## Joining a queue (R73) -/

/-- The record of a load that has just joined its feeder's start queue. -/
def Load.queuedNow (l : Load) : Load := { l with state := .wakeQueued, wakeDue := false }

/-- Step 1 of R73: the load joins its feeder's queue at the tail. -/
def Plant.queueUp (l : Load) (p : Plant) : Plant :=
  (p.setFeeder l.cfg.feeder (fun f => { f with queue := f.queue ++ [{ load := l.num, passed := 0 }] })).setLoad l.num
    Load.queuedNow

theorem Plant.joinPlain_eq (clock : Option Clock) (l : Load) (p : Plant) :
    p.joinPlain clock l = (p.queueUp l).grantAttempt clock l.cfg.feeder := rfl

theorem Plant.queueUp_loads (l : Load) (p : Plant) : (p.queueUp l).loads = (p.setLoad l.num Load.queuedNow).loads := rfl

theorem Plant.queueUp_sound {p : Plant} (hp : p.sound) {l : Load} (hl : p.load? l.num = some l)
    (hrests : l.rests) : (p.queueUp l).sound := by
  have hself : (p.queueUp l).queueOf l.cfg.feeder = p.queueOf l.cfg.feeder ++ [l.num] := by
    simp [Plant.queueOf, Plant.queueUp]
  have hother {j : FeederId} (hj : j ≠ l.cfg.feeder) : (p.queueUp l).queueOf j = p.queueOf j := by
    simp [Plant.queueOf, Plant.queueUp, Plant.feeder_setFeeder_other p hj]
  have hfree (j : FeederId) : ((p.queueUp l).feeder j).free = (p.feeder j).free ∧
      ((p.queueUp l).feeder j).capacity = (p.feeder j).capacity := by
    by_cases hj : j = l.cfg.feeder
    · subst hj
      simp [Plant.queueUp]
    · simp [Plant.queueUp, Plant.feeder_setFeeder_other p hj]
  have hnot (i : FeederId) : l.num ∉ p.queueOf i := hp.not_mem_queueOf hl hrests.1 i
  refine Plant.sound_of_change hp hl (f := Load.queuedNow) (fun _ => rfl) (p.queueUp_loads l) (fun j => ?_)
    (fun j m hm => ?_) (fun j => ?_) (fun j => ?_)
  · by_cases hj : j = l.cfg.feeder
    · subst hj
      rw [hself]
      exact List.nodup_append.mpr ⟨hp.nodup _, List.nodup_singleton _, by
        rintro a ha b hb rfl
        exact hnot _ (List.mem_singleton.mp hb ▸ ha)⟩
    · rw [hother hj]
      exact hp.nodup j
  · by_cases hj : j = l.cfg.feeder
    · subst hj
      rw [hself]
      simp [hm]
    · rw [hother hj]
  · by_cases hj : j = l.cfg.feeder
    · subst hj
      rw [hself]
      exact iff_of_true (by simp) ⟨rfl, rfl⟩
    · rw [hother hj]
      exact iff_of_false (hnot j) (fun h => hj h.2.symm)
  · have hq : l.queuedNow.unitsAt j = 0 := by simp [Load.unitsAt, Load.isWaking, Load.queuedNow]
    rw [hrests.unitsAt, hq, (hfree j).1, (hfree j).2]

theorem Load.rests_of_parked {l : Load} (h : l.state = .parked) : l.rests :=
  Load.rests_of_state (by simp [h]) (by simp [h])

theorem Plant.moves_queueUp {p : Plant} (hp : p.sound) {l : Load} (hl : p.load? l.num = some l) (hstate : l.state = .parked) :
    p.Moves Load.Woken (p.queueUp l) := by
  refine ⟨Plant.Loads.setLoad (fun _ => .rfl) hp.numbered hl (f := Load.queuedNow) ⟨rfl, ?_⟩ (p.queueUp_loads l),
    Plant.queueUp_sound hp hl (Load.rests_of_parked hstate)⟩
  rw [hstate]
  exact .inr ⟨.inl rfl, rfl⟩

theorem Plant.load?_queueUp {p : Plant} {l : Load} (hl : p.load? l.num = some l) :
    (p.queueUp l).load? l.num = some l.queuedNow := by
  rw [Plant.load?_of_loads (p.queueUp_loads l), Plant.load?_setLoad_self p l.num Load.queuedNow (fun _ h => h), hl]
  rfl

/-! ## Wake requests (R70, R71, R76) -/

/-- A wake request whose join does what a join may do. -/
theorem Plant.moves_wakeBy {join : Load → Plant → Plant}
    (hjoin : ∀ {p : Plant} {l : Load}, p.sound → p.load? l.num = some l → l.state = .parked →
      p.Moves Load.Woken (join l p))
    (n : Nat) {p : Plant} (hp : p.sound) : p.Moves Load.Woken (p.wakeBy join n) := by
  unfold Plant.wakeBy
  split
  · exact .rfl (fun _ => .rfl) hp
  · next l hl =>
    have hrest {f : Load → Load} (hf : f = fun l => { l with wakeDue := true }) (h : l.Woken { l with wakeDue := true }) :
        p.Moves Load.Woken (p.setLoad n f) := by
      subst hf
      exact ⟨.setLoad (fun _ => .rfl) hp.numbered hl h rfl, Plant.SameUnits.sound (Plant.sameUnits_setLoad n _ p) hp⟩
    split
    · next hstate => exact hjoin hp (Plant.load?_num hl ▸ hl) hstate
    · next hstate =>
      refine hrest rfl ⟨rfl, ?_⟩
      rw [hstate]
      exact .inr rfl
    · next hstate =>
      split
      · next hown =>
        refine hrest rfl ⟨rfl, ?_⟩
        rw [hstate]
        exact .inr ⟨hown, rfl⟩
      · exact .rfl (fun _ => .rfl) hp
    · exact .rfl (fun _ => .rfl) hp

theorem Plant.moves_joinPlain (clock : Option Clock) {p : Plant} {l : Load} (hp : p.sound) (hl : p.load? l.num = some l)
    (hstate : l.state = .parked) : p.Moves Load.Woken (p.joinPlain clock l) := by
  have hqueue := Plant.moves_queueUp hp hl hstate
  exact hqueue.trans Load.Woken.trans ((Plant.calm_grantAttempt clock l.cfg.feeder hqueue.sound).mono Load.Woken.of_calm)

theorem Plant.moves_wakePlain (clock : Option Clock) (n : Nat) {p : Plant} (hp : p.sound) :
    p.Moves Load.Woken (p.wakePlain clock n) :=
  Plant.moves_wakeBy (fun hp hl hstate => Plant.moves_joinPlain clock hp hl hstate) n hp

/-- The fans that a dependency wakes, in the order of their requests (R76). -/
def Plant.wakeFans (clock : Option Clock) (fans : List Load) (p : Plant) : Plant :=
  fans.foldl (fun p fan => p.wakePlain clock fan.num) p

theorem Plant.moves_wakeFans (clock : Option Clock) (fans : List Load) {p : Plant} (hp : p.sound) :
    p.Moves Load.Woken (p.wakeFans clock fans) :=
  .foldl (fun _ => .rfl) Load.Woken.trans (fun _ fan hq => Plant.moves_wakePlain clock fan.num hq) fans hp

/-- Step 2 of R73: where the load's dependency on a fan is not met it awaits one, and the zone's fans are woken. -/
def Plant.judgeFan (clock : Option Clock) (l : Load) (q : Plant) : Plant :=
  if q.needsFan l then
    (q.setLoad l.num (fun l => { l with awaitingFan := true })).wakeFans clock
      (byRank (q.loads.filter (servesZone l.cfg.zone)))
  else q

theorem Plant.joinJudged_eq (clock : Option Clock) (l : Load) (p : Plant) :
    p.joinJudged clock l = ((p.queueUp l).judgeFan clock l).grantAttempt clock l.cfg.feeder := rfl

theorem Plant.moves_judgeFan (clock : Option Clock) {q : Plant} (hq : q.sound) {l x : Load} (hx : q.load? l.num = some x)
    (hstate : x.state = .wakeQueued) : q.Moves Load.Woken (q.judgeFan clock l) := by
  unfold Plant.judgeFan
  split
  · have hset : q.Moves Load.Woken (q.setLoad l.num (fun l => { l with awaitingFan := true })) := by
      refine ⟨.setLoad (fun _ => .rfl) hq.numbered hx ⟨rfl, ?_⟩ rfl,
        Plant.SameUnits.sound (Plant.sameUnits_setLoad l.num _ q) hq⟩
      rw [hstate]
      exact ⟨.inl rfl, rfl⟩
    exact hset.trans Load.Woken.trans (Plant.moves_wakeFans clock _ hset.sound)
  · exact .rfl (fun _ => .rfl) hq

theorem Plant.moves_joinJudged (clock : Option Clock) {p : Plant} {l : Load} (hp : p.sound) (hl : p.load? l.num = some l)
    (hstate : l.state = .parked) : p.Moves Load.Woken (p.joinJudged clock l) := by
  have hqueue := Plant.moves_queueUp hp hl hstate
  have hfan := Plant.moves_judgeFan clock hqueue.sound (Plant.load?_queueUp hl) (l := l) rfl
  rw [Plant.joinJudged_eq]
  exact (hqueue.trans Load.Woken.trans hfan).trans Load.Woken.trans
    ((Plant.calm_grantAttempt clock l.cfg.feeder hfan.sound).mono Load.Woken.of_calm)

theorem Plant.moves_wake (clock : Option Clock) (n : Nat) {p : Plant} (hp : p.sound) :
    p.Moves Load.Woken (p.wake clock n) :=
  Plant.moves_wakeBy (fun hp hl hstate => Plant.moves_joinJudged clock hp hl hstate) n hp

theorem Plant.moves_wakeAll (clock : Option Clock) (ns : List Nat) {p : Plant} (hp : p.sound) :
    p.Moves Load.Woken (p.wakeAll clock ns) :=
  .foldl (fun _ => .rfl) Load.Woken.trans (fun _ n hq => Plant.moves_wake clock n hq) ns hp

/-- A wake request by the state of the load it is for (R70). -/
theorem Plant.wakeBy_parked {p : Plant} {n : Nat} {l : Load} (hl : p.load? n = some l) (hstate : l.state = .parked)
    (join : Load → Plant → Plant) : p.wakeBy join n = join l p := by
  simp only [Plant.wakeBy, hl, hstate]

theorem Plant.wakeBy_parking {p : Plant} {n : Nat} {l : Load} (hl : p.load? n = some l) {step : ParkStep}
    (hstate : l.state = .parking step) (join : Load → Plant → Plant) :
    p.wakeBy join n = p.setLoad n (fun l => { l with wakeDue := true }) := by
  simp only [Plant.wakeBy, hl, hstate]

theorem Plant.wakeBy_owned {p : Plant} {n : Nat} {l : Load} (hl : p.load? n = some l) (hstate : l.state = .offline)
    (hown : l.parkOwned = true) (join : Load → Plant → Plant) :
    p.wakeBy join n = p.setLoad n (fun l => { l with wakeDue := true }) := by
  simp only [Plant.wakeBy, hl, hstate, hown, if_true]

/-- In every other state a wake request changes nothing. -/
theorem Plant.wakeBy_other {p : Plant} {n : Nat} {l : Load} (hl : p.load? n = some l) (hparked : l.state ≠ .parked)
    (hparking : ∀ step, l.state ≠ .parking step) (howned : ¬(l.state = .offline ∧ l.parkOwned = true))
    (join : Load → Plant → Plant) : p.wakeBy join n = p := by
  simp only [Plant.wakeBy, hl]
  split
  · next h => exact absurd h hparked
  · next h => exact absurd h (hparking _)
  · next h => exact if_neg fun hown => howned ⟨h, hown⟩
  · rfl

/-- A PARKED load is on its way after its wake request (R70). -/
theorem Plant.wake_parked (clock : Option Clock) {p : Plant} (hp : p.sound) {n : Nat} {l : Load} (hl : p.load? n = some l)
    (hstate : l.state = .parked) :
    ∃ m, (p.wake clock n).load? n = some m ∧ m.onItsWay ∧ m.wakeDue = false ∧ m.core = l.core := by
  obtain rfl := Plant.load?_num hl
  have hqueue := Plant.moves_queueUp hp hl hstate
  have hfan := Plant.moves_judgeFan clock hqueue.sound (Plant.load?_queueUp hl) (l := l) rfl
  have hall := hfan.trans Load.Woken.trans
    ((Plant.calm_grantAttempt clock l.cfg.feeder hfan.sound).mono Load.Woken.of_calm)
  rw [Plant.wake, Plant.wakeBy_parked hl hstate, Plant.joinJudged_eq]
  obtain ⟨m, hm, hwoken⟩ := hall.loads.bound Load.Woken.num (Plant.load?_queueUp hl)
  obtain ⟨hway, hdue⟩ := hwoken.onItsWay (.inl rfl)
  exact ⟨m, hm, hway, hdue, hwoken.1⟩

/-- Of a batch of wake requests the PARKED loads it names are on their way (R69). -/
theorem Plant.wakeAll_parked (clock : Option Clock) {ns : List Nat} {p : Plant} (hp : p.sound) {n : Nat} {l : Load}
    (hl : p.load? n = some l) (hstate : l.state = .parked) (hn : n ∈ ns) :
    ∃ m, (p.wakeAll clock ns).load? n = some m ∧ m.onItsWay ∧ m.wakeDue = false ∧ m.core = l.core := by
  induction ns generalizing p l with
  | nil => exact absurd hn List.not_mem_nil
  | cons k ks ih =>
    have hstep := Plant.moves_wake clock k hp
    have hrest := Plant.moves_wakeAll clock ks hstep.sound
    have hlater {x : Load} (hx : (p.wake clock k).load? n = some x) (hway : x.onItsWay) (hdue : x.wakeDue = false)
        (hcore : x.core = l.core) : ∃ m, (p.wakeAll clock (k :: ks)).load? n = some m ∧ m.onItsWay ∧ m.wakeDue = false ∧
          m.core = l.core := by
      obtain ⟨m, hm, hwoken⟩ := hrest.loads.bound Load.Woken.num hx
      obtain ⟨mway, mdue⟩ := hwoken.onItsWay hway
      exact ⟨m, hm, mway, mdue.trans hdue, hwoken.1.trans hcore⟩
    by_cases hk : k = n
    · subst hk
      obtain ⟨x, hx, hway, hdue, hcore⟩ := Plant.wake_parked clock hp hl hstate
      exact hlater hx hway hdue hcore
    · obtain ⟨x, hx, hwoken⟩ := hstep.loads.bound Load.Woken.num hl
      have hmove := hwoken.2
      rw [hstate] at hmove
      rcases hmove with rfl | ⟨hway, hdue⟩
      · exact ih hstep.sound hx hstate ((List.mem_cons.mp hn).resolve_left fun h => hk h.symm)
      · exact hlater hx hway hdue hwoken.1

/-! ## Units come back (R88), and a load leaves its queue (R74) -/

/-- The units of a WAKING load come back to its feeder. -/
def Plant.giveBack (l : Load) (p : Plant) : Plant :=
  p.setFeeder l.cfg.feeder (fun f => { f with free := f.free + l.cfg.demand })

theorem Plant.returnUnits_eq (clock : Option Clock) (l : Load) (p : Plant) :
    p.returnUnits clock l.cfg.feeder l.cfg.demand = (p.giveBack l).grantAttempt clock l.cfg.feeder := rfl

theorem Plant.feeder_giveBack (l : Load) (p : Plant) (i : FeederId) :
    (p.giveBack l).feeder i =
      { p.feeder i with free := (p.feeder i).free + if l.cfg.feeder = i then l.cfg.demand else 0 } := by
  by_cases hi : i = l.cfg.feeder
  · subst hi
    simp [Plant.giveBack]
  · rw [Plant.giveBack, Plant.feeder_setFeeder_other p hi, if_neg (fun h => hi h.symm)]
    rfl

/-- A WAKING load that comes to rest and gives its units back leaves the plant sound. -/
theorem Plant.giveBack_sound {p q : Plant} (hp : p.sound) {n : Nat} {l : Load} (hl : p.load? n = some l) {w : WakeStep}
    (hstate : l.state = .waking w) {f : Load → Load} (hf : ∀ x, (f x).num = x.num) (hfl : (f l).rests)
    (hloads : q.loads = (p.setLoad n f).loads) (hfeeders : q.feeders = p.feeders) : (q.giveBack l).sound := by
  have hfeeder (i : FeederId) := Plant.feeder_of_feeders hfeeders i
  have hqueue (i : FeederId) : (q.giveBack l).queueOf i = p.queueOf i := by
    rw [Plant.queueOf, Plant.feeder_giveBack, hfeeder]
    rfl
  have hnq : l.state ≠ .wakeQueued := by simp [hstate]
  refine Plant.sound_of_change hp hl hf hloads (fun i => hqueue i ▸ hp.nodup i) (fun i m _ => by rw [hqueue i])
    (fun i => ?_) (fun i => ?_)
  · rw [hqueue]
    exact iff_of_false (hp.not_mem_queueOf hl hnq i) (hfl.not_waitsAt i)
  · have hl : l.unitsAt i = if l.cfg.feeder = i then l.cfg.demand else 0 := by
      simp [Load.unitsAt, Load.isWaking, hstate]
    rw [hfl.unitsAt, hl, Plant.feeder_giveBack, hfeeder]
    dsimp only
    omega

/-- A WAKE_QUEUED load whose entry has left its queue leaves the plant sound once it rests. -/
theorem Plant.leaveQueue_sound {p q : Plant} (hp : p.sound) {n : Nat} {l : Load} (hl : p.load? n = some l)
    (hstate : l.state = .wakeQueued) {f : Load → Load} (hf : ∀ x, (f x).num = x.num) (hfl : (f l).rests)
    (hloads : q.loads = (p.setLoad n f).loads)
    (hfeeders : q.feeders =
      (p.setFeeder l.cfg.feeder (fun x => { x with queue := x.queue.filter (fun e => e.load != n) })).feeders) :
    q.sound := by
  have hself : q.feeder l.cfg.feeder =
      { p.feeder l.cfg.feeder with queue := (p.feeder l.cfg.feeder).queue.filter (fun e => e.load != n) } := by
    rw [Plant.feeder_of_feeders hfeeders, Plant.feeder_setFeeder_self]
  have hother {j : FeederId} (hj : j ≠ l.cfg.feeder) : q.feeder j = p.feeder j := by
    rw [Plant.feeder_of_feeders hfeeders, Plant.feeder_setFeeder_other p hj]
  have hmem (j : FeederId) (m : Nat) : m ∈ q.queueOf j ↔ m ∈ p.queueOf j ∧ (j = l.cfg.feeder → m ≠ n) := by
    by_cases hj : j = l.cfg.feeder
    · subst hj
      simp only [Plant.queueOf, hself, List.mem_map, List.mem_filter, bne_iff_ne, forall_const]
      constructor
      · rintro ⟨e, ⟨he, hn⟩, rfl⟩
        exact ⟨⟨e, he, rfl⟩, hn⟩
      · rintro ⟨⟨e, he, rfl⟩, hn⟩
        exact ⟨e, ⟨he, hn⟩, rfl⟩
    · simp [Plant.queueOf, hother hj, hj]
  refine Plant.sound_of_change hp hl hf hloads (fun j => ?_) (fun j m hm => ?_) (fun j => ?_) (fun j => ?_)
  · by_cases hj : j = l.cfg.feeder
    · subst hj
      rw [Plant.queueOf, hself]
      exact (hp.nodup _).sublist (List.filter_sublist.map _)
    · rw [Plant.queueOf, hother hj]
      exact hp.nodup j
  · rw [hmem]
    exact and_iff_left fun _ => hm
  · refine iff_of_false (fun h => ?_) (hfl.not_waitsAt j)
    obtain ⟨hin, hne⟩ := (hmem j n).mp h
    obtain ⟨x, hx, hwaits⟩ := (hp.queuesMatch j n).mp hin
    rw [hl] at hx
    cases hx
    exact hne hwaits.2.symm rfl
  · have hl0 : l.unitsAt j = 0 := by simp [Load.unitsAt, Load.isWaking, hstate]
    rw [hl0, hfl.unitsAt]
    by_cases hj : j = l.cfg.feeder
    · subst hj
      rw [hself]
    · rw [hother hj]

end Sys2Proof.Machine
end

section
/-!
PROOFS. A load's change with what it brings for the others: the load becomes what a rule says, the other loads are as
before but for WAKE_QUEUED ones that grants or a fan clearing change, and start queues and units stay sound.
-/

namespace Sys2Proof.Machine

/-- The load of a number has become what `f` says, and beyond it only WAKE_QUEUED loads have changed. -/
abbrev Plant.Becomes (n : Nat) (f : Load → Load) (p q : Plant) : Prop := (p.setLoad n f).Moves Load.Calm q

section

variable {p q r : Plant} {n : Nat} {l : Load} {f g : Load → Load}

theorem Plant.load?_set (hl : p.load? n = some l) (hf : ∀ x, (f x).num = x.num := by intro; rfl) :
    (p.setLoad n f).load? n = some (f l) := by
  rw [Plant.load?_setLoad_self p n f (fun x hx => (hf x).trans hx), hl]
  rfl

theorem Plant.load?_set_other {m : Nat} (hm : m ≠ n) (hf : ∀ x, (f x).num = x.num := by intro; rfl) :
    (p.setLoad n f).load? m = p.load? m := Plant.load?_setLoad_other p hm f (fun x hx => (hf x).trans hx)

/-- The loads of a plant in which the same load is changed again. -/
theorem Plant.setLoad_loads_of (h : q.loads = (p.setLoad n f).loads) (g : Load → Load)
    (hf : ∀ x, (f x).num = x.num := by intro; rfl) :
    (q.setLoad n g).loads = (p.setLoad n (fun x => g (f x))).loads := by
  rw [← Plant.setLoad_setLoad n f g hf, Plant.setLoad, h]
  rfl

/-- The load itself, unless it has become WAKE_QUEUED. -/
theorem Plant.Moves.self {f : Load → Load} (h : Plant.Becomes n f p q) (hl : p.load? n = some l) (hf : ∀ x, (f x).num = x.num)
    (hfl : (f l).state ≠ .wakeQueued) : q.load? n = some (f l) := h.eq (Plant.load?_set hl hf) hfl

/-- Every other load that was not WAKE_QUEUED. -/
theorem Plant.Moves.other {f : Load → Load} (h : Plant.Becomes n f p q) (hf : ∀ x, (f x).num = x.num) {m : Nat} (hm : m ≠ n)
    {x : Load} (hx : p.load? m = some x) (hstate : x.state ≠ .wakeQueued) : q.load? m = some x :=
  h.eq ((Plant.load?_set_other hm hf).trans hx) hstate

/-- What happens to the other loads afterwards. -/
theorem Plant.Moves.calm {f : Load → Load} (h : Plant.Becomes n f p q) (k : q.Moves Load.Calm r) : Plant.Becomes n f p r :=
  Plant.Moves.trans Load.Calm.trans h k

/-- Two records that start queues and units read alike. -/
theorem Plant.sound_setLoad_view (hp : p.sound) (hl : p.load? n = some l) (hf : ∀ x, (f x).num = x.num)
    (hview : (f l).unitView = l.unitView) : (p.setLoad n f).sound := by
  obtain ⟨-, hqueued, hwaking, hfeeder, hdemand⟩ := by simpa only [Load.unitView, Prod.mk.injEq] using hview
  have hwaits (i : FeederId) : (f l).waitsAt i ↔ l.waitsAt i := by
    have hstate : (f l).state = .wakeQueued ↔ l.state = .wakeQueued := by
      rw [← beq_iff_eq, hqueued, beq_iff_eq]
    simp only [Load.waitsAt, hstate, hfeeder]
  have hunits (i : FeederId) : (f l).unitsAt i = l.unitsAt i := by
    simp only [Load.unitsAt, hwaking, hfeeder, hdemand]
  refine Plant.sound_of_change hp hl hf rfl hp.nodup (fun _ _ _ => .rfl) (fun i => ?_) (fun i => ?_)
  · rw [hwaits]
    change n ∈ p.queueOf i ↔ _
    rw [hp.queuesMatch i n, hl]
    simp
  · rw [hunits]
    rfl

theorem Plant.becomes_view (hp : p.sound) (hl : p.load? n = some l) (hf : ∀ x, (f x).num = x.num)
    (hview : (f l).unitView = l.unitView) (hloads : q.loads = (p.setLoad n f).loads) (hfeeders : q.feeders = p.feeders) :
    Plant.Becomes n f p q := by
  refine ⟨?_, (Plant.sameUnits_of_loads (q := p.setLoad n f) .rfl hloads hfeeders).sound
    (Plant.sound_setLoad_view hp hl hf hview)⟩
  rw [Plant.Loads, hloads]
  exact Plant.Loads.rfl (fun _ => .rfl)

/-- A load that rests before and after its change. -/
theorem Plant.becomes_rests (hp : p.sound) (hl : p.load? n = some l) (hrests : l.rests) (hf : ∀ x, (f x).num = x.num)
    (hfl : (f l).rests) (hloads : q.loads = (p.setLoad n f).loads) (hfeeders : q.feeders = p.feeders) :
    Plant.Becomes n f p q := by
  refine ⟨?_, (Plant.sameUnits_of_loads (q := p.setLoad n f) .rfl hloads hfeeders).sound
    (Plant.sound_setLoad_rests hp hl hrests hf hfl)⟩
  rw [Plant.Loads, hloads]
  exact Plant.Loads.rfl (fun _ => .rfl)

/-- A change of the loads of one number in two plants whose loads are related. -/
theorem Plant.Loads.setLoad_both {R : Load → Load → Prop} (hR : KeepsNum R) (h : p.Loads R q) (hp : p.numbered)
    (hq : q.numbered) (hg : ∀ x y, p.load? n = some x → q.load? n = some y → R x y → R (g x) (g y)) :
    (p.setLoad n g).Loads R (q.setLoad n g) := by
  obtain ⟨hlength, hzip⟩ := List.forall₂_iff_zip.mp h
  simp only [Plant.Loads, Plant.setLoad, List.forall₂_map_left_iff, List.forall₂_map_right_iff]
  refine List.forall₂_iff_zip.mpr ⟨hlength, fun {x y} hxy => ?_⟩
  have hrel := hzip hxy
  obtain ⟨hx, hy⟩ := List.of_mem_zip hxy
  have hnum := hR x y hrel
  by_cases hn : x.num = n
  · have hx' := Plant.load?_of_mem hp hx
    have hy' := Plant.load?_of_mem hq hy
    rw [hn] at hx'
    rw [hnum, hn] at hy'
    simpa [hn, hnum] using hg x y hx' hy' hrel
  · simpa [hn, hnum] using hrel

/-- A second change of the same load. -/
theorem Plant.Moves.next {f g : Load → Load} (h : Plant.Becomes n f p q) (hp : p.numbered) (hl : p.load? n = some l)
    (hf : ∀ x, (f x).num = x.num) (hfl : (f l).state ≠ .wakeQueued)
    (k : Plant.Becomes n g q r) : Plant.Becomes n (fun x => g (f x)) p r := by
  refine ⟨?_, k.sound⟩
  have hself := h.self hl hf hfl
  have hmid : (p.setLoad n (fun x => g (f x))).Loads Load.Calm (q.setLoad n g) := by
    rw [← Plant.setLoad_setLoad n f g hf]
    refine Plant.Loads.setLoad_both Load.Calm.num h.loads (Plant.numbered_congr (Plant.setLoad_nums n f p hf) hp)
      h.sound.numbered fun x y hx hy _ => ?_
    rw [Plant.load?_set hl hf] at hx
    rw [hself] at hy
    cases hx
    cases hy
    exact .rfl
  exact hmid.trans Load.Calm.trans k.loads

end

end Sys2Proof.Machine
end

section
/-!
PROOFS. The assessment of a report by the load it is for (R29, R35 to R38, R5): what it makes of the load's record, and
that beyond it only the entry of a fan into ACTIVE changes anything.
-/

namespace Sys2Proof.Machine

/-- The record of a load whose idle flag has just been judged (R35, R36). -/
def Load.idleMoved (l : Load) : Load :=
  if l.judgedIdle = l.idle then l
  else if l.judgedIdle then
    if l.state = .active then { l with idle := true, state := .idling, dwell := 0 } else { l with idle := true }
  else
    match l.state with
    | .idling => l.activeNow
    | .parkPending => if l.manual then { l with idle := false } else l.activeNow
    | _ => { l with idle := false }

/-- The record of a load that has just taken a valid sample, before its judgement (R29). -/
def Load.smoothed (curves : Vector Knots 8) (now : Option Stamp) (raw : Nat) (l : Load) : Load :=
  { l with a16 := l.sampled curves[l.cfg.curve] raw, sampleAge := some 0, sampleTime := now }

/-- The record of a load that has just taken a valid sample (R29, R35, R36). -/
def Load.sampleTaken (curves : Vector Knots 8) (now : Option Stamp) (raw : Nat) (l : Load) : Load :=
  if l.isAssessed then (l.smoothed curves now raw).idleMoved else l.smoothed curves now raw

/-- The record of a load after press strokes (R37). -/
def Load.struck (strokes : Nat) (l : Load) : Load :=
  if l.cfg.kind = .press ∧ l.isAssessed ∧ 0 < strokes then
    if l.state = .active then { l with idle := false, dwell := 0 }
    else ({ l with manual := false } : Load).activeNow
  else l

/-- The record of a load that has just taken strokes and latest flags of a report (R5, R37). -/
def Load.flagged (r : Report) (l : Load) : Load :=
  (match r.strokes with
    | none => l
    | some k => l.struck k).keepFlags r

/-- The record of a load whose report has just been assessed (R5, R29, R37). -/
def Load.assessed (curves : Vector Knots 8) (now : Option Stamp) (r : Report) (l : Load) : Load :=
  (match r.sample with
    | none => l
    | some raw => l.sampleTaken curves now raw).flagged r

/-! ## What these records keep -/

section

variable (curves : Vector Knots 8) (now : Option Stamp) (l : Load)

/-- What the assessment of a report never changes: number and configured fields, and whether the load is WAKE_QUEUED or
WAKING. -/
structure Load.SameUnitView (l m : Load) : Prop where
  num : m.num = l.num
  cfg : m.cfg = l.cfg
  queued : m.state = .wakeQueued ↔ l.state = .wakeQueued
  waking : m.isWaking = l.isWaking

theorem Load.SameUnitView.unitView {l m : Load} (h : l.SameUnitView m) : m.unitView = l.unitView := by
  have hqueued : (m.state == .wakeQueued) = (l.state == .wakeQueued) := by
    rw [Bool.eq_iff_iff, beq_iff_eq, beq_iff_eq, h.queued]
  rw [Load.unitView, h.num, h.cfg, hqueued, h.waking]
  rfl

theorem Load.SameUnitView.trans {l m k : Load} (h : l.SameUnitView m) (h' : m.SameUnitView k) : l.SameUnitView k :=
  ⟨h'.num.trans h.num, h'.cfg.trans h.cfg, h'.queued.trans h.queued, h'.waking.trans h.waking⟩

theorem Load.SameUnitView.of_state {l m : Load} (hnum : m.num = l.num) (hcfg : m.cfg = l.cfg) (h : m.state = l.state) :
    l.SameUnitView m := ⟨hnum, hcfg, by rw [h], by rw [Load.isWaking, Load.isWaking, h]⟩

theorem Load.SameUnitView.of_rests {l m : Load} (hnum : m.num = l.num) (hcfg : m.cfg = l.cfg) (h : l.rests) (h' : m.rests) :
    l.SameUnitView m := ⟨hnum, hcfg, iff_of_false h'.1 h.1, h'.2.trans h.2.symm⟩

theorem Load.rests_activeNow : l.activeNow.rests := Load.rests_of_state nofun nofun

theorem Load.sameUnitView_activeNow {l : Load} (h : l.rests) : l.SameUnitView l.activeNow :=
  .of_rests rfl rfl h l.rests_activeNow

theorem Load.rests_of_assessed {l : Load} (h : l.isAssessed = true) : l.rests := by
  unfold Load.isAssessed at h
  refine Load.rests_of_state (fun hs => ?_) (fun w hs => ?_) <;> simp [hs] at h

theorem Load.sameUnitView_idleMoved : l.SameUnitView l.idleMoved := by
  have hstate {m : Load} := Load.SameUnitView.of_state (l := l) (m := m)
  unfold Load.idleMoved
  split
  · exact hstate rfl rfl rfl
  · split
    · split
      · next h => exact .of_rests rfl rfl (Load.rests_of_state (by simp [h]) (by simp [h])) (Load.rests_of_state nofun nofun)
      · exact hstate rfl rfl rfl
    · split
      · next h => exact Load.sameUnitView_activeNow (Load.rests_of_state (by simp [h]) (by simp [h]))
      · next h =>
        split
        · exact hstate rfl rfl rfl
        · exact Load.sameUnitView_activeNow (Load.rests_of_state (by simp [h]) (by simp [h]))
      · exact hstate rfl rfl rfl

theorem Load.sameUnitView_sampleTaken (raw : Nat) : l.SameUnitView (l.sampleTaken curves now raw) := by
  have hsmooth : l.SameUnitView (l.smoothed curves now raw) := .of_state rfl rfl rfl
  unfold Load.sampleTaken
  split
  · exact hsmooth.trans (Load.sameUnitView_idleMoved _)
  · exact hsmooth

theorem Load.sameUnitView_struck (k : Nat) : l.SameUnitView (l.struck k) := by
  unfold Load.struck
  split
  · next h =>
    split
    · exact .of_state rfl rfl rfl
    · exact .of_rests rfl rfl (Load.rests_of_assessed h.2.1) (Load.rests_activeNow _)
  · exact .of_state rfl rfl rfl

theorem Load.sameUnitView_keepFlags (r : Report) : l.SameUnitView (l.keepFlags r) := by
  unfold Load.keepFlags
  split <;> exact .of_state rfl rfl rfl

theorem Load.sameUnitView_flagged (r : Report) : l.SameUnitView (l.flagged r) := by
  unfold Load.flagged
  split
  · exact Load.sameUnitView_keepFlags l r
  · exact (Load.sameUnitView_struck l _).trans (Load.sameUnitView_keepFlags _ r)

theorem Load.sameUnitView_assessed (r : Report) : l.SameUnitView (l.assessed curves now r) := by
  unfold Load.assessed
  split
  · exact Load.sameUnitView_flagged l r
  · exact (Load.sameUnitView_sampleTaken curves now l _).trans (Load.sameUnitView_flagged _ r)

end

/-! ## The plant after an assessment -/

section

variable {p : Plant} {n : Nat} {l : Load}

theorem Plant.enterActive_plain (hl : p.load? n = some l) (hfan : ¬l.isZoneFan) (clock : Option Clock) :
    p.enterActive clock n = p.setLoad n Load.activeNow := by
  rw [Plant.enterActive_bound hl, if_neg hfan]

theorem Plant.becomes_enterActive (hp : p.sound) (hl : p.load? n = some l) (hrests : l.rests) (clock : Option Clock) :
    Plant.Becomes n Load.activeNow p (p.enterActive clock n) := Plant.calm_enterActive hp hl hrests clock

/-- The judgement of the idle flag changes the one record, or it is the entry of an assessed load into ACTIVE. -/
theorem Plant.moveByIdle_cases (hp : p.numbered) (hl : p.load? n = some l) (clock : Option Clock) :
    p.moveByIdle clock n = p.setLoad n Load.idleMoved ∨
      (p.moveByIdle clock n = p.enterActive clock n ∧ l.idleMoved = l.activeNow ∧ l.rests) := by
  have hset {g : Load → Load} (hg : g l = l.idleMoved) : p.setLoad n g = p.setLoad n Load.idleMoved :=
    Plant.setLoad_congr hp fun x hx => by rw [hl] at hx; cases hx; exact hg
  have hrests {st : LoadState} (h : l.state = st) (hq : st ≠ .wakeQueued) (hw : ∀ w, st ≠ .waking w) : l.rests :=
    Load.rests_of_state (h ▸ hq) (h ▸ hw)
  simp only [Plant.moveByIdle, hl]
  split
  · next hsame => exact .inl (Plant.setLoad_eq_self hp (fun x hx => by rw [hl] at hx; cases hx; simp [Load.idleMoved, hsame])).symm
  · next hmoves =>
    split
    · next hidle =>
      split
      · next hstate => exact .inl (hset (by rw [Load.idleMoved, if_neg hmoves, if_pos hidle, if_pos hstate]))
      · next hstate => exact .inl (hset (by rw [Load.idleMoved, if_neg hmoves, if_pos hidle, if_neg hstate]))
    · next hidle =>
      split
      · next hstate =>
        exact .inr ⟨rfl, by simp only [Load.idleMoved, if_neg hmoves, if_neg hidle, hstate], hrests hstate nofun nofun⟩
      · next hstate =>
        split
        · next hmanual => exact .inl (hset (by simp only [Load.idleMoved, if_neg hmoves, if_neg hidle, hstate, if_pos hmanual]))
        · next hmanual =>
          exact .inr ⟨rfl, by simp only [Load.idleMoved, if_neg hmoves, if_neg hidle, hstate, if_neg hmanual], hrests hstate nofun nofun⟩
      · next hidling hpending => exact .inl (hset (by simp only [Load.idleMoved, if_neg hmoves, if_neg hidle]))

theorem Plant.moveByIdle_plain (hp : p.numbered) (hl : p.load? n = some l) (hfan : ¬l.isZoneFan) (clock : Option Clock) :
    p.moveByIdle clock n = p.setLoad n Load.idleMoved := by
  rcases Plant.moveByIdle_cases hp hl clock with h | ⟨h, hactive, -⟩
  · exact h
  · rw [h, Plant.enterActive_plain hl hfan]
    exact Plant.setLoad_congr hp fun x hx => by rw [hl] at hx; cases hx; exact hactive.symm

theorem Plant.becomes_moveByIdle (hp : p.sound) (hl : p.load? n = some l) (clock : Option Clock) :
    Plant.Becomes n Load.idleMoved p (p.moveByIdle clock n) := by
  rcases Plant.moveByIdle_cases hp.numbered hl clock with h | ⟨h, hactive, hrests⟩
  · rw [h]
    exact Plant.becomes_view hp hl (fun x => (Load.sameUnitView_idleMoved x).num)
      (Load.sameUnitView_idleMoved l).unitView rfl rfl
  · rw [h]
    have hset := Plant.becomes_enterActive hp hl hrests clock
    rwa [Plant.Becomes, Plant.setLoad_congr hp.numbered (g := Load.activeNow) fun x hx => by
      rw [hl] at hx; cases hx; exact hactive]

theorem Plant.load?_smoothed (hl : p.load? n = some l) (curves : Vector Knots 8) (now : Option Stamp) (raw : Nat) :
    (p.setLoad n (Load.smoothed curves now raw)).load? n = some (l.smoothed curves now raw) :=
  Plant.load?_set hl (fun _ => rfl)

theorem Plant.takeSample_bound (hl : p.load? n = some l) (clock : Option Clock) (raw : Nat) :
    p.takeSample clock n raw =
      if l.isAssessed then (p.setLoad n (Load.smoothed p.curves (clock.map Clock.stamp) raw)).moveByIdle clock n
      else p.setLoad n (Load.smoothed p.curves (clock.map Clock.stamp) raw) := by
  simp only [Plant.takeSample, hl]
  rfl

theorem Plant.setLoad_sampleTaken (hp : p.numbered) (hl : p.load? n = some l) (now : Option Stamp) (raw : Nat) :
    p.setLoad n (Load.sampleTaken p.curves now raw) =
      if l.isAssessed then (p.setLoad n (Load.smoothed p.curves now raw)).setLoad n Load.idleMoved
      else p.setLoad n (Load.smoothed p.curves now raw) := by
  split
  · next h =>
    rw [Plant.setLoad_setLoad n (Load.smoothed p.curves now raw) _ (fun _ => rfl)]
    exact Plant.setLoad_congr hp fun x hx => by rw [hl] at hx; cases hx; simp [Load.sampleTaken, h]
  · next h => exact Plant.setLoad_congr hp fun x hx => by rw [hl] at hx; cases hx; simp [Load.sampleTaken, h]

theorem Plant.takeSample_plain (hp : p.numbered) (hl : p.load? n = some l) (h : ¬(l.isZoneFan ∧ l.isAssessed = true))
    (clock : Option Clock) (raw : Nat) :
    p.takeSample clock n raw = p.setLoad n (Load.sampleTaken p.curves (clock.map Clock.stamp) raw) := by
  rw [Plant.takeSample_bound hl, Plant.setLoad_sampleTaken hp hl]
  split
  · next hassessed =>
    exact Plant.moveByIdle_plain (Plant.numbered_congr (Plant.setLoad_nums n _ p) hp) (Plant.load?_smoothed hl _ _ raw)
      (fun hfan => h ⟨hfan, hassessed⟩) clock
  · rfl

theorem Plant.becomes_takeSample (hp : p.sound) (hl : p.load? n = some l) (clock : Option Clock) (raw : Nat) :
    Plant.Becomes n (Load.sampleTaken p.curves (clock.map Clock.stamp) raw) p (p.takeSample clock n raw) := by
  have hsmooth := Plant.sound_setLoad_view hp hl (f := Load.smoothed p.curves (clock.map Clock.stamp) raw)
    (fun _ => rfl) rfl
  rw [Plant.Becomes, Plant.setLoad_sampleTaken hp.numbered hl, Plant.takeSample_bound hl]
  split
  · exact Plant.becomes_moveByIdle hsmooth (Plant.load?_smoothed hl _ _ raw) clock
  · exact .rfl (fun _ => .rfl) hsmooth

/-- Strokes are those of a press, which is no fan: they change the one record (R37). -/
theorem Plant.takeStrokes_eq (hp : p.numbered) (clock : Option Clock) (k : Nat) :
    p.takeStrokes clock n k = p.setLoad n (Load.struck k) := by
  cases hl : p.load? n with
  | none =>
    rw [Plant.setLoad_eq_self hp fun x hx => absurd (hl.symm.trans hx) nofun]
    simp only [Plant.takeStrokes, hl]
  | some l =>
    have hset {g : Load → Load} (hg : g l = l.struck k) : p.setLoad n g = p.setLoad n (Load.struck k) :=
      Plant.setLoad_congr hp fun x hx => by rw [hl] at hx; cases hx; exact hg
    simp only [Plant.takeStrokes, hl]
    split
    · next h =>
      split
      · next hstate => exact hset (by simp [Load.struck, h, hstate])
      · next hstate =>
        have hcleared : (p.setLoad n (fun l => { l with manual := false })).load? n = some { l with manual := false } :=
          Plant.load?_set hl
        rw [Plant.enterActive_plain hcleared (fun hfan => nomatch h.1.symm.trans hfan.1), Plant.setLoad_setLoad n _ _]
        on_goal 2 => exact fun _ => rfl
        exact hset (by simp [Load.struck, h, hstate])
    · next h => 
      rw [Plant.setLoad_eq_self hp fun x hx => by rw [hl] at hx; cases hx; simp [Load.struck, h]]

/-- The first part of an assessment: the sample, if the report has a valid one. -/
def Plant.sampleIf (clock : Option Clock) (n : Nat) (r : Report) (p : Plant) : Plant :=
  match r.sample with
  | none => p
  | some raw => p.takeSample clock n raw

theorem Plant.sampleIf_sound (hp : p.sound) (clock : Option Clock) (n : Nat) (r : Report) :
    (p.sampleIf clock n r).sound := by
  unfold Plant.sampleIf
  split
  · exact hp
  · cases hl : p.load? n with
    | none =>
      simp only [Plant.takeSample, hl]
      exact hp
    | some l => exact (Plant.becomes_takeSample hp hl clock _).sound

theorem Plant.assess_eq (hp : p.sound) (clock : Option Clock) (n : Nat) (r : Report) :
    p.assess clock n r = (p.sampleIf clock n r).setLoad n (Load.flagged r) := by
  have hsampled := Plant.sampleIf_sound hp clock n r
  change Plant.setLoad n (Load.keepFlags r) (match r.strokes with
    | none => p.sampleIf clock n r
    | some k => (p.sampleIf clock n r).takeStrokes clock n k) = _
  unfold Load.flagged
  split
  · rfl
  · rw [Plant.takeStrokes_eq hsampled.numbered, Plant.setLoad_setLoad n _ _ fun x => (Load.sameUnitView_struck x _).num]

/-- Unless a fan of a zone is assessed, an assessment changes the one record. -/
theorem Plant.assess_plain (hp : p.sound) (hl : p.load? n = some l) (h : ¬(l.isZoneFan ∧ l.isAssessed = true))
    (clock : Option Clock) (r : Report) :
    p.assess clock n r = p.setLoad n (Load.assessed p.curves (clock.map Clock.stamp) r) := by
  rw [Plant.assess_eq hp, Plant.sampleIf]
  unfold Load.assessed
  split
  · rfl
  · rw [Plant.takeSample_plain hp.numbered hl h, Plant.setLoad_setLoad n _ _ fun x =>
      (Load.sameUnitView_sampleTaken _ _ x _).num]

theorem Plant.assess_unbound (hp : p.sound) (hl : p.load? n = none) (clock : Option Clock) (r : Report) :
    p.assess clock n r = p := by
  have hsame : p.sampleIf clock n r = p := by
    unfold Plant.sampleIf
    split
    · rfl
    · simp only [Plant.takeSample, hl]
  rw [Plant.assess_eq hp, hsame]
  exact Plant.setLoad_eq_self hp.numbered fun x hx => absurd (hl.symm.trans hx) nofun

/-- The load of an assessment, and that only WAKE_QUEUED loads change beside it. -/
theorem Plant.becomes_assess (hp : p.sound) (hl : p.load? n = some l) (clock : Option Clock) (r : Report) :
    Plant.Becomes n (Load.assessed p.curves (clock.map Clock.stamp) r) p (p.assess clock n r) := by
  by_cases hplain : l.isZoneFan ∧ l.isAssessed = true
  · have hassessed := (Load.rests_of_assessed hplain.2)
    rw [Plant.assess_eq hp, Plant.sampleIf]
    unfold Load.assessed
    split
    · exact Plant.becomes_view hp hl (fun x => (Load.sameUnitView_flagged x r).num)
        (Load.sameUnitView_flagged l r).unitView rfl rfl
    · next raw hraw =>
      have hsample := Plant.becomes_takeSample hp hl clock raw
      have hview := Load.sameUnitView_sampleTaken p.curves (clock.map Clock.stamp) l raw
      have hqueued := fun h => hassessed.1 (hview.queued.mp h)
      have hnum := fun x : Load => (Load.sameUnitView_sampleTaken p.curves (clock.map Clock.stamp) x raw).num
      exact hsample.next hp.numbered hl hnum hqueued (Plant.becomes_view hsample.sound (hsample.self hl hnum hqueued)
        (fun x => (Load.sameUnitView_flagged x r).num) (Load.sameUnitView_flagged _ r).unitView rfl rfl)
  · rw [Plant.assess_plain hp hl hplain]
    exact Plant.becomes_view hp hl (fun x => (Load.sameUnitView_assessed _ _ x r).num)
      (Load.sameUnitView_assessed _ _ l r).unitView rfl rfl

theorem Plant.assess_sound (hp : p.sound) (clock : Option Clock) (n : Nat) (r : Report) :
    (p.assess clock n r).sound := by
  cases hl : p.load? n with
  | none => rwa [Plant.assess_unbound hp hl]
  | some l => exact (Plant.becomes_assess hp hl clock r).sound

end

end Sys2Proof.Machine
end

section
/-!
PROOFS. Load control on a plant with sound start queues and units (R13 to R24, R54 to R63, R84 to R88): what each operation
makes of its load, and that it keeps the plant sound.
-/

namespace Sys2Proof.Machine

/-! ## A change of a load with its order withdrawn (R6) -/

/-- The one load is changed, and its due order withdrawn. -/
def Plant.finish (n : Nat) (f : Load → Load) (p : Plant) : Plant := (p.setLoad n f).withdraw n

section

variable {p q : Plant} {n : Nat} {l : Load} {f : Load → Load}

theorem Plant.finish_loads (hp : p.numbered) (f : Load → Load) (hf : ∀ x, (f x).num = x.num := by intro; rfl) :
    (p.finish n f).loads = (p.setLoad n (fun x => (f x).undue)).loads := by
  rw [Plant.finish, Plant.withdraw_loads (Plant.numbered_congr (Plant.setLoad_nums n f p hf) hp),
    Plant.setLoad_setLoad n f _ hf]

@[simp] theorem Plant.finish_feeders : (p.finish n f).feeders = p.feeders := Plant.withdraw_feeders n _

/-- A load that rests before and after loses its order. -/
theorem Plant.becomes_finish (hp : p.sound) (hl : p.load? n = some l) (hrests : l.rests) (hfl : (f l).rests)
    (hf : ∀ x, (f x).num = x.num := by intro; rfl) :
    Plant.Becomes n (fun x => (f x).undue) p (p.finish n f) :=
  Plant.becomes_rests hp hl hrests hf hfl (Plant.finish_loads hp.numbered f hf) Plant.finish_feeders

/-- A WAKING load that comes to rest, and whose units go back to its feeder (R88). -/
theorem Plant.becomes_returnUnits (hp : p.sound) (hl : p.load? n = some l) (hwaking : l.isWaking = true)
    (hfl : (f l).rests) (hloads : q.loads = (p.setLoad n f).loads) (hfeeders : q.feeders = p.feeders)
    (clock : Option Clock) (hf : ∀ x, (f x).num = x.num := by intro; rfl) :
    Plant.Becomes n f p (q.returnUnits clock l.cfg.feeder l.cfg.demand) := by
  obtain ⟨w, hstate⟩ := Load.isWaking_iff.mp hwaking
  have hgive := Plant.giveBack_sound hp hl hstate hf hfl hloads hfeeders
  have hbecomes : Plant.Becomes n f p (q.giveBack l) := by
    refine ⟨?_, hgive⟩
    rw [Plant.Loads, show (q.giveBack l).loads = q.loads from rfl, hloads]
    exact Plant.Loads.rfl fun _ => .rfl
  exact hbecomes.calm (Plant.calm_grantAttempt clock l.cfg.feeder hgive)

end

/-! ## Raised events -/

/-- The notices an event leaves depend on the load's event enables, the clock and the alert block alone. -/
theorem State.raiseLoad_alerts_congr {s t : State} {n : Nat} {l m : Load} {e : LoadEvent} (hl : s.load? n = some l)
    (hm : t.load? n = some m) (hevents : m.cfg.events = l.cfg.events) (hcalendar : t.calendar = s.calendar)
    (halerts : t.alerts = s.alerts) : (t.raiseLoad n e).alerts = (s.raiseLoad n e).alerts := by
  rw [State.raiseLoad_bound hl, State.raiseLoad_bound hm, hevents]
  simp only [State.offer, State.now, hcalendar, halerts]
  split
  · rfl
  · exact halerts

section

variable {s : State} {n : Nat} {l : Load}

theorem Load.rests_of_parking {l : Load} (h : l.isParking = true) : l.rests := by
  unfold Load.isParking at h
  refine Load.rests_of_state (fun hs => ?_) (fun w hs => ?_) <;> simp [hs] at h

theorem Load.isParking_iff {l : Load} : l.isParking = true ↔ ∃ step, l.state = .parking step := by
  unfold Load.isParking
  cases l.state <;> simp

/-! ## Entries into FAULTED, PARKED and OFFLINE (R22, R63, R86) -/

/-- A load in PARKING or WAKING enters FAULTED (R22). -/
theorem State.becomes_enterFaulted (hp : s.plant.sound) (hl : s.load? n = some l)
    (hstate : l.isParking = true ∨ l.isWaking = true) :
    Plant.Becomes n Load.faulted s.plant (s.enterFaulted n).plant := by
  have hrests : l.faulted.rests := Load.rests_of_state nofun nofun
  simp only [State.enterFaulted, hl]
  split
  · next hwaking =>
    simp only [State.returnUnits_plant, State.countFault_plant, State.raiseLoad_plant, State.withdraw_plant,
      State.setLoad_plant]
    exact Plant.becomes_returnUnits (f := Load.faulted) hp hl hwaking hrests (Plant.finish_loads hp.numbered _)
      Plant.finish_feeders _
  · next hwaking =>
    simp only [State.countFault_plant, State.raiseLoad_plant, State.withdraw_plant, State.setLoad_plant]
    exact Plant.becomes_finish (f := fun l =>
        { l with state := .faulted, timer := none, manual := false, wakeDue := false }) hp hl
      (Load.rests_of_parking (hstate.resolve_right hwaking)) (Load.rests_of_state nofun nofun)

/-- A load that has just entered PARKED from PARKING (R63). -/
def Load.parkedNow (now : Option Stamp) (l : Load) : Load :=
  { l with state := .parked, timer := none, due := none, parkOwned := true, manual := false,
           stopTime := if l.cfg.kind = .compressor then now else l.stopTime }

/-- The entry into PARKED before the wake request of a wake-due flag (R63). -/
def State.reachParked (n : Nat) (s : State) : State :=
  ((s.setLoad n (fun l =>
      { l with state := .parked, timer := none, parkOwned := true, manual := false,
               stopTime := if l.cfg.kind = .compressor then s.now else l.stopTime })).withdraw n).raiseLoad n .parked

theorem State.enterParked_eq (hl : s.load? n = some l) :
    s.enterParked n = if l.wakeDue then (s.reachParked n).wake n else s.reachParked n := by
  simp only [State.enterParked, hl]
  rfl

theorem State.becomes_reachParked (hp : s.plant.sound) (hl : s.load? n = some l) (hrests : l.rests) :
    Plant.Becomes n (Load.parkedNow s.now) s.plant (s.reachParked n).plant := by
  rw [State.reachParked, State.raiseLoad_plant]
  exact Plant.becomes_finish (f := fun l =>
      { l with state := .parked, timer := none, parkOwned := true, manual := false,
               stopTime := if l.cfg.kind = .compressor then s.now else l.stopTime }) hp hl hrests
    (Load.rests_of_state nofun nofun)

theorem State.enterParked_sound (hp : s.plant.sound) (hl : s.load? n = some l) (hrests : l.rests) :
    (s.enterParked n).plant.sound := by
  have hreach := (State.becomes_reachParked hp hl hrests).sound
  rw [State.enterParked_eq hl]
  split
  · exact (Plant.moves_wake _ n hreach).sound
  · exact hreach

/-- A WAKING load whose settle timer has expired on a station that is no longer heard (R86). -/
def Load.settledOffline (l : Load) : Load :=
  { l with state := .offline, timer := none, due := none, parkOwned := true, wakeDue := false }

theorem State.becomes_settleExpired (hp : s.plant.sound) (hl : s.load? n = some l) (hwaking : l.isWaking = true) :
    Plant.Becomes n
      (if s.plant.linkOf l = .live ∨ s.plant.linkOf l = .suspect then Load.faulted else Load.settledOffline) s.plant
      (s.settleExpired n).plant := by
  simp only [State.settleExpired, hl]
  split
  · exact State.becomes_enterFaulted hp hl (.inr hwaking)
  · simp only [State.raiseLoad_plant, State.returnUnits_plant, State.withdraw_plant, State.setLoad_plant,
      State.withdraw_calendar, State.setLoad_calendar]
    exact Plant.becomes_returnUnits (f := Load.settledOffline) hp hl hwaking (Load.rests_of_state nofun nofun)
      (Plant.finish_loads hp.numbered _) Plant.finish_feeders _

/-! ## Park steps and gate checks (R46, R54 to R62) -/

/-- A load in which a park step has just begun (R55 to R61). -/
def Load.inStep (step : ParkStep) (l : Load) : Load :=
  { l with
    state := .parking step, timer := some (Timer.start (l.cfg.limitOf step)),
    due := match step.order? with
      | none => l.due
      | some k => if l.hold.byLockout then l.due else some k }

theorem State.beginStep_loads (hl : s.load? n = some l) (hp : s.plant.numbered) (step : ParkStep) :
    (s.beginStep n step).plant.loads = (s.plant.setLoad n (Load.inStep step)).loads := by
  have hbegun : (s.plant.setLoad n (fun l =>
      { l with state := .parking step, timer := some (Timer.start (l.cfg.limitOf step)) })).load? n =
      some { l with state := .parking step, timer := some (Timer.start (l.cfg.limitOf step)) } := Plant.load?_set hl
  have hset {g : Load → Load} (hg : g l = l.inStep step) :
      (s.plant.setLoad n g).loads = (s.plant.setLoad n (Load.inStep step)).loads :=
    congrArg Plant.loads (Plant.setLoad_congr hp fun x hx => by rw [show s.plant.load? n = some l from hl] at hx; cases hx; exact hg)
  unfold State.beginStep
  split
  · next hnone => exact hset (by simp [Load.inStep, hnone])
  · next k hk =>
    simp only [State.makeDue_plant, State.setLoad_plant]
    cases hlock : l.hold.byLockout with
    | true =>
      rw [Plant.makeDue_locked hbegun hlock]
      exact hset (by simp [Load.inStep, hk, hlock])
    | false =>
      rw [Plant.makeDue_loads hbegun hlock, Plant.setLoad_setLoad]
      · exact hset (by simp [Load.inStep, hk, hlock])
      · exact fun _ => rfl

theorem State.beginStep_feeders (step : ParkStep) : (s.beginStep n step).plant.feeders = s.plant.feeders := by
  unfold State.beginStep
  split
  · rfl
  · simp

theorem State.becomes_beginStep (hp : s.plant.sound) (hl : s.load? n = some l) (hrests : l.rests) (step : ParkStep) :
    Plant.Becomes n (Load.inStep step) s.plant (s.beginStep n step).plant :=
  Plant.becomes_rests hp hl hrests (fun _ => rfl) (Load.rests_of_state nofun nofun)
    (State.beginStep_loads hl hp.numbered step) (State.beginStep_feeders step)

theorem State.gateCheck_sound (hp : s.plant.sound) (n : Nat) : (s.gateCheck n).plant.sound := by
  unfold State.gateCheck
  split
  · exact hp
  · next l hl =>
    split
    · next h =>
      exact (State.becomes_beginStep hp hl (Load.rests_of_state (by simp [h.1]) (by simp [h.1])) _).sound
    · exact hp

theorem State.gateChecks_sound (hp : s.plant.sound) (i : StationId) : (s.gateChecks i).plant.sound := by
  unfold State.gateChecks
  generalize s.plant.loadsOf i = ns
  induction ns generalizing s with
  | nil => exact hp
  | cons n ns ih => exact ih (State.gateCheck_sound hp n)

/-- A load whose sequence has just been abandoned in ACTIVE (R60). -/
def Load.abandoned (l : Load) : Load :=
  ({ l with timer := none, manual := false, wakeDue := false, due := none } : Load).activeNow

theorem State.becomes_abandonReload (hp : s.plant.sound) (hl : s.load? n = some l) (hrests : l.rests) :
    Plant.Becomes n Load.abandoned s.plant (s.abandonReload n).plant := by
  simp only [State.abandonReload, State.raiseLoad_plant, State.enterActive_plant, State.withdraw_plant,
    State.setLoad_plant]
  have hfinish := Plant.becomes_finish (f := fun l => { l with timer := none, manual := false, wakeDue := false }) hp hl
    hrests hrests
  exact hfinish.next hp.numbered hl (fun _ => rfl) hrests.1
    (Plant.becomes_enterActive hfinish.sound (hfinish.self hl (fun _ => rfl) hrests.1) hrests _)

theorem State.parkingReport_sound (hp : s.plant.sound) (hl : s.load? n = some l) {step : ParkStep}
    (hstate : l.state = .parking step) (r : Report) : (s.parkingReport n step r).plant.sound := by
  have hrests : l.rests := Load.rests_of_parking (Load.isParking_iff.mpr ⟨step, hstate⟩)
  unfold State.parkingReport
  split
  · split
    · exact hp
    · split
      · exact (State.becomes_beginStep hp hl hrests _).sound
      · exact hp
    · exact hp
    · split
      · exact (State.becomes_beginStep hp hl hrests _).sound
      · exact hp
    · split
      · exact hp
      · exact (State.becomes_abandonReload hp hl hrests).sound
    · exact hp
  · exact State.enterParked_sound hp hl hrests

theorem State.parkTaken_sound (hp : s.plant.sound) (hl : s.load? n = some l) {step : ParkStep}
    (hstate : l.state = .parking step) (k : OrderKind) : (s.parkTaken n step k).plant.sound := by
  have hrests : l.rests := Load.rests_of_parking (Load.isParking_iff.mpr ⟨step, hstate⟩)
  unfold State.parkTaken
  split
  · exact (State.becomes_beginStep hp hl hrests _).sound
  · exact Plant.sound_setLoad_rests hp hl hrests (fun _ => rfl) (Load.rests_of_state nofun nofun)
  · exact hp

/-! ## Wake steps and echoes (R84, R85, R113) -/

/-- A WAKING load that RUNNING has just brought into ACTIVE (R85). -/
def Load.wokenNow (l : Load) : Load :=
  ({ l with timer := none, parkOwned := false, due := none } : Load).activeNow

theorem State.becomes_wakingReport (hp : s.plant.sound) (hl : s.load? n = some l) (hwaking : l.isWaking = true) {r : Report}
    (hrun : r.run = .running) : Plant.Becomes n Load.wokenNow s.plant (s.wakingReport n l r).plant := by
  simp only [State.wakingReport, if_pos hrun, State.raiseLoad_plant, State.enterActive_plant, State.returnUnits_plant,
    State.withdraw_plant, State.setLoad_plant, State.returnUnits_calendar, State.withdraw_calendar,
    State.setLoad_calendar]
  have hreturn := Plant.becomes_returnUnits (f := Load.wokenNow) hp hl hwaking (Load.rests_activeNow _)
    (Plant.finish_loads hp.numbered (fun l : Load =>
      { l with state := .active, dwell := 0, idle := false, timer := none, parkOwned := false }))
    Plant.finish_feeders s.calendar.clock
  exact hreturn.next hp.numbered hl (fun _ => rfl) nofun
    (Plant.becomes_enterActive hreturn.sound (hreturn.self hl (fun _ => rfl) nofun) (Load.rests_activeNow _) _)

theorem State.passEcho_sound (hp : s.plant.sound) (n : Nat) (k : OrderKind) (refused : Bool) :
    (s.passEcho n k refused).plant.sound := by
  unfold State.passEcho
  split
  · exact hp
  · next l hl =>
    split
    · next step hstate =>
      split
      · exact (State.becomes_enterFaulted hp hl (.inl (Load.isParking_iff.mpr ⟨step, hstate⟩))).sound
      · exact State.parkTaken_sound hp hl hstate k
    · next step hstate =>
      split
      · exact (State.becomes_enterFaulted hp hl (.inr (Load.isWaking_iff.mpr ⟨step, hstate⟩))).sound
      · split
        · exact Plant.sound_setLoad_view hp hl (fun _ => rfl) (by simp [Load.unitView, Load.isWaking, hstate])
        · exact hp
    · exact hp

/-! ## Adoption and local starts (R13 to R18) -/

/-- A load that has just entered PARKED by adoption (R13, R14). -/
def Load.adoptedParked (l : Load) : Load :=
  { l with state := .parked, parkOwned := true, cfg := { l.cfg with adoptParked := l.cfg.adoptParked && l.parkOwned } }

/-- The entry into PARKED by adoption, before the wake request (R13, R117). -/
def State.adoptStill (n : Nat) (how : Adoption) (s : State) : State :=
  if how = .plain then s.setLoad n Load.adoptedParked else (s.setLoad n Load.adoptedParked).makeDue n .motorOff

theorem State.adoptParked_eq (how : Adoption) :
    s.adoptParked n how l = if l.wakeDue ∨ how = .interrupted then (s.adoptStill n how).wake n else s.adoptStill n how := rfl

/-- The record of a load adopted as PARKED: after a restart with MOTOR OFF due, unless it is locked out. -/
def Load.adoptedStill (how : Adoption) (l : Load) : Load :=
  { l.adoptedParked with due := if how = .plain ∨ l.hold.byLockout = true then l.due else some .motorOff }

theorem State.becomes_adoptStill (hp : s.plant.sound) (hl : s.load? n = some l) (hrests : l.rests) (how : Adoption) :
    Plant.Becomes n (Load.adoptedStill how) s.plant (s.adoptStill n how).plant := by
  have hset {g : Load → Load} (hg : g l = l.adoptedStill how) :
      (s.plant.setLoad n g).loads = (s.plant.setLoad n (Load.adoptedStill how)).loads :=
    congrArg Plant.loads (Plant.setLoad_congr hp.numbered fun x hx => by
      rw [show s.plant.load? n = some l from hl] at hx; cases hx; exact hg)
  have hparked : (s.plant.setLoad n Load.adoptedParked).load? n = some l.adoptedParked := Plant.load?_set hl
  refine Plant.becomes_rests hp hl hrests (fun _ => rfl) (Load.rests_of_state nofun nofun) ?_ ?_
  · unfold State.adoptStill
    split
    · next hplain => exact hset (by simp [Load.adoptedStill, hplain, Load.adoptedParked])
    · next hplain =>
      simp only [State.makeDue_plant, State.setLoad_plant]
      cases hlock : l.hold.byLockout with
      | true =>
        rw [Plant.makeDue_locked hparked hlock]
        exact hset (by simp [Load.adoptedStill, hlock, Load.adoptedParked])
      | false =>
        rw [Plant.makeDue_loads hparked hlock, Plant.setLoad_setLoad n Load.adoptedParked _ fun _ => rfl]
        exact hset (by simp [Load.adoptedStill, hlock, hplain])
  · unfold State.adoptStill
    split
    · rfl
    · simp

theorem State.adoptParked_sound (hp : s.plant.sound) (hl : s.load? n = some l) (hrests : l.rests) (how : Adoption) :
    (s.adoptParked n how l).plant.sound := by
  have hstill := (State.becomes_adoptStill hp hl hrests how).sound
  rw [State.adoptParked_eq]
  split
  · exact (Plant.moves_wake _ n hstill).sound
  · exact hstill

/-- An adopted load that its report shows running (R13). -/
def Load.adoptedActive (l : Load) : Load := ({ l with wakeDue := false, parkOwned := false } : Load).activeNow

theorem Plant.becomes_setThenActive (f : Load → Load) {p : Plant} (hp : p.sound) (hl : p.load? n = some l)
    (hrests : l.rests) (hfl : (f l).rests) (clock : Option Clock) (hf : ∀ x, (f x).num = x.num := by intro; rfl) :
    Plant.Becomes n (fun x => (f x).activeNow) p ((p.setLoad n f).enterActive clock n) := by
  have hset : Plant.Becomes n f p (p.setLoad n f) := Plant.becomes_rests hp hl hrests hf hfl rfl rfl
  exact hset.next hp.numbered hl hf hfl.1
    (Plant.becomes_enterActive hset.sound (hset.self hl hf hfl.1) hfl clock)

theorem State.adopt_sound (hp : s.plant.sound) (hl : s.load? n = some l) (hstate : l.state = .offline) (how : Adoption)
    (r : Report) : (s.adopt n how r).plant.sound := by
  have hrests : l.rests := Load.rests_of_state (by simp [hstate]) (by simp [hstate])
  have hactive := (Plant.becomes_setThenActive (fun l => { l with wakeDue := false, parkOwned := false }) hp hl hrests
    hrests s.calendar.clock).sound
  simp only [State.adopt, hl]
  split
  · split
    · rw [State.raiseLoad_plant]
      exact hactive
    · exact hactive
  · split
    · exact State.adoptParked_sound hp hl hrests how
    · exact Plant.sound_setLoad_rests hp hl hrests (fun _ => rfl) (Load.rests_of_state nofun nofun)

/-- A running load found stopped (R15). -/
def Load.stoppedNow (l : Load) : Load := { l with state := .stopped, manual := false, dwell := 0 }

theorem State.becomes_stoppedAtMachine (hp : s.plant.sound) (hl : s.load? n = some l) (hrests : l.rests) :
    Plant.Becomes n Load.stoppedNow s.plant (s.stoppedAtMachine n).plant := by
  rw [State.stoppedAtMachine, State.raiseLoad_plant]
  exact Plant.becomes_rests hp hl hrests (fun _ => rfl) (Load.rests_of_state nofun nofun) rfl rfl

/-- A PARKED load found running (R17). -/
def Load.startedLocally (l : Load) : Load :=
  ({ l with parkOwned := false, wakeDue := false, due := none } : Load).activeNow

theorem State.becomes_localStart (hp : s.plant.sound) (hl : s.load? n = some l) (hrests : l.rests) :
    Plant.Becomes n Load.startedLocally s.plant (s.localStart n).plant := by
  simp only [State.localStart, State.raiseLoad_plant, State.enterActive_plant, State.withdraw_plant, State.setLoad_plant]
  have hfinish := Plant.becomes_finish (f := fun l => { l with parkOwned := false, wakeDue := false }) hp hl hrests hrests
  exact hfinish.next hp.numbered hl (fun _ => rfl) hrests.1
    (Plant.becomes_enterActive hfinish.sound (hfinish.self hl (fun _ => rfl) hrests.1) hrests _)

end

end Sys2Proof.Machine
end

section
/-!
PROOFS. Reports on a plant with sound start queues and units (R5, R18 to R21): the run state, holds and edges, and the
whole of a channel's report keep it sound.
-/

namespace Sys2Proof.Machine

section

variable {s : State} {n : Nat} {l : Load}

/-- The entry of a load into ACTIVE where the plant with the load in ACTIVE is sound. -/
theorem Plant.calm_enterActive_of {p : Plant} (hset : (p.setLoad n Load.activeNow).sound) (hl : p.load? n = some l)
    (clock : Option Clock) : Plant.Becomes n Load.activeNow p (p.enterActive clock n) := by
  rw [Plant.enterActive_bound hl]
  split
  · have hclear := Plant.calm_clearAwaiting l.cfg.zone hset
    exact hclear.trans Load.Calm.trans (Plant.calm_grantAll clock hclear.sound)
  · exact .rfl (fun _ => .rfl) hset

/-! ## A local start of a WAKE_QUEUED load (R18) -/

/-- A WAKE_QUEUED load found running, before its entry into ACTIVE. -/
def Load.leftQueue (l : Load) : Load := { l with awaitingFan := false, parkOwned := false, due := none }

/-- The plant in which a WAKE_QUEUED load has left its queue, before its entry into ACTIVE (R18). -/
def Plant.leftRunning (n : Nat) (p : Plant) : Plant :=
  ((p.leaveQueue n).setLoad n (fun l => { l with parkOwned := false })).withdraw n

theorem Plant.leftRunning_loads {p : Plant} (hp : p.numbered) (hl : p.load? n = some l) :
    (p.leftRunning n).loads = (p.setLoad n Load.leftQueue).loads := by
  have hloads : ((p.leaveQueue n).setLoad n (fun l => { l with parkOwned := false })).loads =
      (p.setLoad n (fun l => { l with awaitingFan := false, parkOwned := false })).loads := by
    rw [Plant.leaveQueue_bound hl, Plant.setLoad_setLoad]
    · rfl
    · exact fun _ => rfl
  have hnum := Plant.numbered_of_loads (p := p.setLoad n (fun l => { l with awaitingFan := false, parkOwned := false }))
    hloads (Plant.numbered_congr (Plant.setLoad_nums n _ p) hp)
  rw [Plant.leftRunning, Plant.withdraw_loads hnum]
  exact Plant.setLoad_loads_of hloads Load.undue

theorem Plant.leftRunning_feeders {p : Plant} (hl : p.load? n = some l) :
    (p.leftRunning n).feeders =
      (p.setFeeder l.cfg.feeder (fun x => { x with queue := x.queue.filter (fun e => e.load != n) })).feeders := by
  rw [Plant.leftRunning, Plant.withdraw_feeders, Plant.leaveQueue_bound hl]
  rfl

theorem Plant.load?_leftRunning {p : Plant} (hp : p.numbered) (hl : p.load? n = some l) :
    (p.leftRunning n).load? n = some l.leftQueue := by
  rw [Plant.load?_of_loads (Plant.leftRunning_loads hp hl), Plant.load?_set hl]

/-- A WAKE_QUEUED load that a local start has just brought into ACTIVE (R18). -/
def Load.startedQueued (l : Load) : Load := l.leftQueue.activeNow

theorem Plant.becomes_startQueued {p : Plant} (hp : p.sound) (hl : p.load? n = some l) (hstate : l.state = .wakeQueued)
    (clock : Option Clock) : Plant.Becomes n Load.startedQueued p ((p.leftRunning n).enterActive clock n) := by
  have hloads : ((p.leftRunning n).setLoad n Load.activeNow).loads = (p.setLoad n Load.startedQueued).loads :=
    Plant.setLoad_loads_of (Plant.leftRunning_loads hp.numbered hl) Load.activeNow
  have hsound := Plant.leaveQueue_sound (f := Load.startedQueued) hp hl hstate (fun _ => rfl) (Load.rests_activeNow _)
    hloads (Plant.leftRunning_feeders hl)
  have hactive := Plant.calm_enterActive_of hsound (Plant.load?_leftRunning hp.numbered hl) clock
  refine ⟨?_, hactive.sound⟩
  have hcalm := hactive.loads
  rw [Plant.Loads, hloads] at hcalm
  exact hcalm

theorem State.becomes_queuedLocalStart (hp : s.plant.sound) (hl : s.load? n = some l) (hstate : l.state = .wakeQueued) :
    Plant.Becomes n Load.startedQueued s.plant (s.queuedLocalStart n).plant := by
  rw [State.queuedLocalStart, State.raiseLoad_plant]
  exact Plant.becomes_startQueued hp hl hstate _

/-! ## The run state (R5, R13 to R18) -/

theorem State.applyRunState_sound (hp : s.plant.sound) (n : Nat) (how : Adoption) (r : Report) :
    (s.applyRunState n how r).plant.sound := by
  unfold State.applyRunState
  split
  · exact hp
  · next l hl =>
    have hrests (hq : l.state ≠ .wakeQueued) (hw : ∀ w, l.state ≠ .waking w) := Load.rests_of_state hq hw
    split
    · next h => exact State.adopt_sound hp hl h how r
    · next h =>
      split
      · exact hp
      · exact (State.becomes_stoppedAtMachine hp hl (hrests (by simp [h]) (by simp [h]))).sound
    · next h =>
      split
      · exact hp
      · exact (State.becomes_stoppedAtMachine hp hl (hrests (by simp [h]) (by simp [h]))).sound
    · next h =>
      split
      · exact hp
      · exact (State.becomes_stoppedAtMachine hp hl (hrests (by simp [h]) (by simp [h]))).sound
    · next h =>
      split
      · exact (Plant.becomes_enterActive hp hl (hrests (by simp [h]) (by simp [h])) _).sound
      · exact hp
    · next h =>
      split
      · exact (State.becomes_localStart hp hl (hrests (by simp [h]) (by simp [h]))).sound
      · exact hp
    · next h =>
      split
      · exact (State.becomes_queuedLocalStart hp hl h).sound
      · exact hp
    · next step h => exact State.parkingReport_sound hp hl h r
    · next w h =>
      by_cases hrun : r.run = .running
      · exact (State.becomes_wakingReport hp hl (Load.isWaking_iff.mpr ⟨w, h⟩) hrun).sound
      · rw [State.wakingReport, if_neg hrun]
        exact hp
    · exact hp

/-! ## Holds and edges (R19, R21) -/

/-- The record after the hold flags of a report (R19). -/
def Load.heldBy (r : Report) (l : Load) : Load := { l with hold := { l.hold with byCall := r.call, byLockout := r.lockout } }

theorem State.heldBy_sound (hp : s.plant.sound) (n : Nat) (r : Report) : (s.heldBy n r).plant.sound :=
  (Plant.sameUnits_setLoad n _ s.plant).sound hp

theorem State.callEdge_sound (hp : s.plant.sound) (n : Nat) (lastCall : Bool) (r : Report) :
    (s.callEdge n lastCall r).plant.sound := by
  unfold State.callEdge
  split
  · rw [State.wake_plant, State.raiseLoad_plant]
    exact (Plant.moves_wake _ n hp).sound
  · split
    · rwa [State.raiseLoad_plant]
    · exact hp

/-- A load whose park sequence a lockout has just abandoned (R21). -/
def Load.lockedOut (r : Report) (l : Load) : Load :=
  let cleared : Load := { l with due := none, timer := none, manual := false, wakeDue := false }
  if r.run.isRunning then cleared.activeNow else { cleared with state := .stopped, dwell := 0 }

theorem State.becomes_lockoutAdded (hp : s.plant.sound) (hl : s.load? n = some l) (hparking : l.isParking = true)
    (r : Report) : Plant.Becomes n (Load.lockedOut r) s.plant (s.lockoutAdded n r).plant := by
  have hrests := Load.rests_of_parking hparking
  have hcleared : Plant.Becomes n (fun l => { l with due := none, timer := none, manual := false, wakeDue := false }) s.plant
      ((s.plant.withdraw n).setLoad n (fun l => { l with timer := none, manual := false, wakeDue := false })) := by
    exact Plant.becomes_rests hp hl hrests (fun _ => rfl) hrests
      (Plant.setLoad_loads_of (Plant.withdraw_loads hp.numbered n) _) (by simp)
  simp only [State.lockoutAdded, hl, hparking, if_true, State.raiseLoad_plant]
  unfold Load.lockedOut
  split
  · exact hcleared.next hp.numbered hl (fun _ => rfl) hrests.1
      (Plant.becomes_enterActive hcleared.sound (hcleared.self hl (fun _ => rfl) hrests.1) hrests _)
  · exact hcleared.next (g := fun l => { l with state := .stopped, dwell := 0 }) hp.numbered hl (fun _ => rfl) hrests.1
      (Plant.becomes_rests hcleared.sound (hcleared.self hl (fun _ => rfl) hrests.1) hrests (fun _ => rfl)
        (Load.rests_of_state nofun nofun) rfl rfl)

theorem State.lockoutAdded_other (hl : s.load? n = some l) (hparking : l.isParking = false) (r : Report) :
    s.lockoutAdded n r = s.withdraw n := by
  simp [State.lockoutAdded, hl, hparking]

theorem State.lockoutAdded_sound (hp : s.plant.sound) (n : Nat) (r : Report) : (s.lockoutAdded n r).plant.sound := by
  cases hl : s.load? n with
  | none =>
    simp only [State.lockoutAdded, hl]
    exact hp
  | some l =>
    cases hparking : l.isParking with
    | true => exact (State.becomes_lockoutAdded hp hl hparking r).sound
    | false =>
      rw [State.lockoutAdded_other hl hparking]
      exact (Plant.sameUnits_withdraw n hp.numbered).sound hp

theorem State.lockoutEdge_sound (hp : s.plant.sound) (n : Nat) (lastLockout : Bool) (r : Report) :
    (s.lockoutEdge n lastLockout r).plant.sound := by
  unfold State.lockoutEdge
  split
  · exact State.lockoutAdded_sound hp n r
  · split
    · split
      · exact hp
      · exact (Plant.moves_grantAttempt _ _ hp).sound
    · exact hp

theorem State.applyHolds_sound (hp : s.plant.sound) (n : Nat) (lastCall lastLockout : Bool) (r : Report) :
    (s.applyHolds n lastCall lastLockout r).plant.sound := by
  rw [State.applyHolds_eq]
  exact State.lockoutEdge_sound (State.callEdge_sound (State.heldBy_sound hp n r) n lastCall r) n lastLockout r

theorem State.takeReport_sound (hp : s.plant.sound) (n : Nat) (how : Adoption) (lastCall lastLockout : Bool) (r : Report) :
    (s.takeReport n how lastCall lastLockout r).plant.sound :=
  Plant.assess_sound (State.applyRunState_sound (State.applyHolds_sound hp n lastCall lastLockout r) n how r) _ n r

end

end Sys2Proof.Machine
end

section
/-!
PROOFS. The loss of a station (R24, R110) on a plant with sound start queues and units: what it makes of the station's
loads, of the start queues and of the notices, exactly, for it makes no grant.
-/

namespace Sys2Proof.Machine

/-! ## The loads of a station -/

section

variable {p : Plant} {i : StationId} {c : Channel} {l : Load}

theorem Plant.loadAt?_some (h : p.loadAt? i c = some l) : l ∈ p.loads ∧ l.cfg.station = i ∧ l.cfg.channel = c := by
  have hplace := List.find?_some h
  simp only [Bool.and_eq_true, beq_iff_eq] at hplace
  exact ⟨List.mem_of_find?_eq_some h, hplace⟩

/-- Where no two loads share a place, the load at a place is found there (R7). -/
theorem Plant.loadAt?_of_placed (hp : p.placed) (hl : l ∈ p.loads) (hstation : l.cfg.station = i) (hchannel : l.cfg.channel = c) :
    p.loadAt? i c = some l := by
  subst hstation hchannel
  cases h : p.loadAt? l.cfg.station l.cfg.channel with
  | none => exact absurd (List.find?_eq_none.mp h l hl) (by simp)
  | some x =>
    obtain ⟨hx, hplace⟩ := Plant.loadAt?_some h
    by_contra hne
    obtain ⟨a, ha, rfl⟩ := List.mem_iff_getElem.mp hx
    obtain ⟨b, hb, rfl⟩ := List.mem_iff_getElem.mp hl
    have hpairs := List.pairwise_iff_getElem.mp hp
    rcases Nat.lt_trichotomy a b with hab | rfl | hba
    · exact hpairs a b ha hb hab hplace
    · exact hne rfl
    · exact hpairs b a hb ha hba ⟨hplace.1.symm, hplace.2.symm⟩

theorem mem_channelIds (c : Channel) : c ∈ channelIds := by
  unfold channelIds
  fin_cases c <;> simp

theorem Plant.loadsOf_eq (p : Plant) (i : StationId) : p.loadsOf i = (p.recordsOf i).map Load.num := by
  rw [Plant.recordsOf, List.map_filterMap]
  rfl

theorem Plant.mem_recordsOf_of (h : l ∈ p.recordsOf i) : l ∈ p.loads ∧ l.cfg.station = i := by
  obtain ⟨c, -, hc⟩ := List.mem_filterMap.mp h
  obtain ⟨hl, hstation, -⟩ := Plant.loadAt?_some hc
  exact ⟨hl, hstation⟩

theorem Plant.mem_recordsOf (hp : p.placed) : l ∈ p.recordsOf i ↔ l ∈ p.loads ∧ l.cfg.station = i := by
  refine ⟨Plant.mem_recordsOf_of, fun ⟨hl, hstation⟩ => ?_⟩
  exact List.mem_filterMap.mpr ⟨l.cfg.channel, mem_channelIds _, Plant.loadAt?_of_placed hp hl hstation rfl⟩

/-- A station's loads have different numbers. -/
theorem Plant.loadsOf_nodup (hp : p.numbered) (i : StationId) : (p.loadsOf i).Nodup := by
  rw [Plant.loadsOf_eq, Plant.recordsOf]
  refine List.Nodup.map_on (fun a ha b hb hab => ?_) (List.Nodup.filterMap (fun c d l hc hd => ?_) (by decide))
  · obtain ⟨ha, -⟩ := Plant.mem_recordsOf_of ha
    obtain ⟨hb, -⟩ := Plant.mem_recordsOf_of hb
    have ha' := Plant.load?_of_mem hp ha
    rw [hab, Plant.load?_of_mem hp hb] at ha'
    exact (Option.some.inj ha').symm
  · exact (Plant.loadAt?_some hc).2.2.symm.trans (Plant.loadAt?_some hd).2.2

theorem Plant.loadsOf_bound (hp : p.numbered) {n : Nat} (hn : n ∈ p.loadsOf i) :
    ∃ l, p.load? n = some l ∧ l.cfg.station = i := by
  rw [Plant.loadsOf_eq] at hn
  obtain ⟨l, hl, rfl⟩ := List.mem_map.mp hn
  obtain ⟨hmem, hstation⟩ := Plant.mem_recordsOf_of hl
  exact ⟨l, Plant.load?_of_mem hp hmem, hstation⟩

theorem Plant.mem_loadsOf (hp : p.placed) (hl : l ∈ p.loads) (hn : p.numbered) : l.num ∈ p.loadsOf i ↔ l.cfg.station = i := by
  rw [Plant.loadsOf_eq, List.mem_map]
  constructor
  · rintro ⟨x, hx, hnum⟩
    obtain ⟨hxmem, hstation⟩ := Plant.mem_recordsOf_of hx
    have hx' := Plant.load?_of_mem hn hxmem
    rw [hnum, Plant.load?_of_mem hn hl] at hx'
    cases hx'
    exact hstation
  · exact fun h => ⟨l, (Plant.mem_recordsOf hp).mpr ⟨hl, h⟩, rfl⟩

end

/-! ## One load (R24) -/

/-- A load whose station has just been lost, its due order aside (R24). -/
def Load.lostNow (l : Load) : Load :=
  match l.state with
  | .offline => l
  | .faulted => l
  | .waking _ => l
  | .wakeQueued => { l with state := .offline, wakeDue := true, awaitingFan := false }
  | .parking _ => { l with state := .offline, timer := none, parkOwned := false, manual := false, wakeDue := false }
  | _ => { l with state := .offline, manual := false }

theorem Load.lostNow_undue (l : Load) : l.undue.lostNow = l.afterLoss := by
  unfold Load.lostNow Load.afterLoss Load.undue
  cases l.state <;> rfl

@[simp] theorem Load.lostNow_num (l : Load) : l.lostNow.num = l.num := by
  unfold Load.lostNow
  split <;> rfl

@[simp] theorem Load.lostNow_cfg (l : Load) : l.lostNow.cfg = l.cfg := by
  unfold Load.lostNow
  split <;> rfl

section

variable {s : State} {n : Nat} {l : Load}

/-- A feeder's queue without the entries of some loads. -/
def Feeder.without (gone : Nat → Bool) (f : Feeder) : Feeder :=
  { f with queue := f.queue.filter (fun e => !gone e.load) }

theorem Plant.sound.without_self {p : Plant} (hp : p.sound) (hl : p.load? n = some l) (hstate : l.state ≠ .wakeQueued)
    (i : FeederId) : (p.feeder i).without (· == n) = p.feeder i := by
  have hqueue : (p.feeder i).queue.filter (fun e => !(e.load == n)) = (p.feeder i).queue := by
    refine List.filter_eq_self.mpr fun e he => ?_
    have hn := hp.not_mem_queueOf hl hstate i
    rw [Plant.queueOf, List.mem_map] at hn
    have hne : e.load ≠ n := fun h => hn ⟨e, he, h⟩
    simp [hne]
  rw [Feeder.without, hqueue]

/-- What the loss of its station makes of a load's plant: the load's record, and its entry gone from its queue. -/
theorem State.loseStation_plant (hp : s.plant.sound) (hl : s.load? n = some l) :
    (s.loseStation n).plant.loads = (s.plant.setLoad n Load.lostNow).loads ∧
      (∀ i, (s.loseStation n).plant.feeder i = (s.plant.feeder i).without (· == n)) ∧
      (s.loseStation n).plant.sound ∧ (s.loseStation n).plant.stations = s.plant.stations := by
  have hl' : s.plant.load? n = some l := hl
  have hset {g : Load → Load} (hg : g l = l.lostNow) : s.plant.setLoad n g = s.plant.setLoad n Load.lostNow :=
    Plant.setLoad_congr hp.numbered fun x hx => by rw [hl'] at hx; cases hx; exact hg
  have hstay (h : l.state ≠ .wakeQueued) (hsame : l.lostNow = l) (hlost : s.loseStation n = s) :
      (s.loseStation n).plant.loads = (s.plant.setLoad n Load.lostNow).loads ∧
        (∀ i, (s.loseStation n).plant.feeder i = (s.plant.feeder i).without (· == n)) ∧
        (s.loseStation n).plant.sound ∧ (s.loseStation n).plant.stations = s.plant.stations := by
    rw [hlost, Plant.setLoad_eq_self hp.numbered fun x hx => by rw [hl'] at hx; cases hx; exact hsame]
    exact ⟨rfl, fun i => (hp.without_self hl h i).symm, hp, rfl⟩
  have hmove {g : Load → Load} (hg : g l = l.lostNow) (hnum : ∀ x, (g x).num = x.num) (hrests : l.rests)
      (hrests' : (g l).rests)
      (hlost : (s.loseStation n).plant = s.plant.setLoad n g) :
      (s.loseStation n).plant.loads = (s.plant.setLoad n Load.lostNow).loads ∧
        (∀ i, (s.loseStation n).plant.feeder i = (s.plant.feeder i).without (· == n)) ∧
        (s.loseStation n).plant.sound ∧ (s.loseStation n).plant.stations = s.plant.stations := by
    rw [hlost]
    exact ⟨congrArg Plant.loads (hset hg), fun i => (hp.without_self hl hrests.1 i).symm,
      Plant.sound_setLoad_rests hp hl hrests hnum hrests', rfl⟩
  cases hstate : l.state with
  | offline => exact hstay (by simp [hstate]) (by simp [Load.lostNow, hstate]) (by simp [State.loseStation, hl, hstate])
  | faulted => exact hstay (by simp [hstate]) (by simp [Load.lostNow, hstate]) (by simp [State.loseStation, hl, hstate])
  | waking w => exact hstay (by simp [hstate]) (by simp [Load.lostNow, hstate]) (by simp [State.loseStation, hl, hstate])
  | wakeQueued =>
    have hlost : (s.loseStation n).plant =
        (s.plant.leaveQueue n).setLoad n (fun l => { l with state := .offline, wakeDue := true }) := by
      simp [State.loseStation, hl, hstate]
    have hloads : (s.loseStation n).plant.loads = (s.plant.setLoad n Load.lostNow).loads := by
      rw [hlost, Plant.leaveQueue_bound hl', Plant.setLoad_setLoad]
      · have hsame := hset (g := fun l => { l with awaitingFan := false, state := .offline, wakeDue := true })
          (by simp [Load.lostNow, hstate])
        have hsame := congrArg Plant.loads hsame
        exact hsame
      · exact fun _ => rfl
    have hfeeders : (s.loseStation n).plant.feeders =
        (s.plant.setFeeder l.cfg.feeder (fun x => { x with queue := x.queue.filter (fun e => e.load != n) })).feeders := by
      rw [hlost, Plant.leaveQueue_bound hl']
      rfl
    refine ⟨hloads, fun i => ?_, ?_, ?_⟩
    · rw [Plant.feeder_of_feeders hfeeders]
      by_cases hi : i = l.cfg.feeder
      · subst hi
        exact Plant.feeder_setFeeder_self _ _ _
      · rw [Plant.feeder_setFeeder_other _ hi]
        have hn : n ∉ s.plant.queueOf i := fun hn => by
          obtain ⟨x, hx, hwaits⟩ := (hp.queuesMatch i n).mp hn
          rw [hl'] at hx
          cases hx
          exact hi hwaits.2.symm
        have hqueue : (s.plant.feeder i).queue.filter (fun e => !(e.load == n)) = (s.plant.feeder i).queue := by
          refine List.filter_eq_self.mpr fun e he => ?_
          have hne : e.load ≠ n := fun h => hn (List.mem_map.mpr ⟨e, he, h⟩)
          simp [hne]
        rw [Feeder.without, hqueue]
    · refine Plant.leaveQueue_sound hp hl' hstate Load.lostNow_num ?_ hloads hfeeders
      simp [Load.lostNow, hstate, Load.rests, Load.isWaking]
    · rw [hlost, Plant.leaveQueue_bound hl']
      rfl
  | parking step =>
    exact hmove (g := fun l => { l with state := .offline, timer := none, parkOwned := false, manual := false, wakeDue := false })
      (by simp [Load.lostNow, hstate]) (fun _ => rfl) (Load.rests_of_state (by simp [hstate]) (by simp [hstate]))
      (Load.rests_of_state nofun nofun) (by simp [State.loseStation, hl, hstate])
  | _ =>
    exact hmove (g := fun l => { l with state := .offline, manual := false })
      (by simp [Load.lostNow, hstate]) (fun _ => rfl) (Load.rests_of_state (by simp [hstate]) (by simp [hstate]))
      (Load.rests_of_state nofun nofun) (by simp [State.loseStation, hl, hstate])

end

end Sys2Proof.Machine
end

section
/-!
PROOFS. Stations that are lost or excluded (R107, R109, R110): the loads of the stations that go move as section 1.10
says, their entries leave the start queues, and nothing else of the plant changes but the stations' own fields.
-/

namespace Sys2Proof.Machine

/-! ## The loads of stations that go -/

@[simp] theorem Load.afterLoss_num (l : Load) : l.afterLoss.num = l.num := by
  rw [← Load.lostNow_undue]
  exact Load.lostNow_num _

@[simp] theorem Load.afterLoss_cfg (l : Load) : l.afterLoss.cfg = l.cfg := by
  rw [← Load.lostNow_undue]
  exact Load.lostNow_cfg _

theorem Load.afterLoss_afterLoss (l : Load) : l.afterLoss.afterLoss = l.afterLoss := by
  unfold Load.afterLoss
  cases l.state <;> rfl

theorem Feeder.without_without (a b : Nat → Bool) (f : Feeder) :
    (f.without a).without b = f.without (fun n => a n || b n) := by
  simp only [Feeder.without, List.filter_filter]
  congr 1
  refine List.filter_congr fun e _ => ?_
  cases a e.load <;> cases b e.load <;> rfl

theorem Feeder.without_congr {a b : Nat → Bool} {f : Feeder} (h : ∀ e ∈ f.queue, a e.load = b e.load) :
    f.without a = f.without b := by
  simp only [Feeder.without]
  congr 1
  exact List.filter_congr fun e he => by rw [h e he]

theorem Feeder.without_none (f : Feeder) : f.without (fun _ => false) = f := by
  simp [Feeder.without]

/-- The load belongs to a station that goes. -/
def Load.goes (gone : StationId → Bool) (l : Load) : Load := if gone l.cfg.station then l.afterLoss else l

@[simp] theorem Load.goes_num (gone : StationId → Bool) (l : Load) : (l.goes gone).num = l.num := by
  unfold Load.goes
  split <;> simp

@[simp] theorem Load.goes_cfg (gone : StationId → Bool) (l : Load) : (l.goes gone).cfg = l.cfg := by
  unfold Load.goes
  split <;> simp

theorem Load.goes_goes (a b : StationId → Bool) (l : Load) : (l.goes a).goes b = l.goes (fun i => a i || b i) := by
  by_cases ha : a l.cfg.station = true
  · by_cases hb : b l.cfg.station = true <;> simp [Load.goes, ha, hb, Load.afterLoss_afterLoss]
  · simp [Load.goes, ha]

/-- The number is that of a load of a station that goes. -/
def Plant.goneLoad (gone : StationId → Bool) (p : Plant) (n : Nat) : Bool := (p.load? n).any (fun l => gone l.cfg.station)

/-- What the loss of stations makes of loads and feeders: no grant is made. -/
structure Plant.Loses (gone : StationId → Bool) (p q : Plant) : Prop where
  loads : q.loads = p.loads.map (Load.goes gone)
  feeders : ∀ j, q.feeder j = (p.feeder j).without (p.goneLoad gone)
  sound : q.sound

section

variable {p q r : Plant} {a b gone : StationId → Bool}

theorem Plant.load?_map {f : Load → Load} (hf : ∀ l, (f l).num = l.num) (hq : q.loads = p.loads.map f) (n : Nat) :
    q.load? n = (p.load? n).map f := by
  have hsame : (fun l : Load => l.num == n) ∘ f = fun l => l.num == n := by
    funext l
    simp [hf]
  rw [Plant.load?, hq, List.find?_map, hsame]
  rfl

theorem Plant.Loses.load? (h : p.Loses gone q) (n : Nat) : q.load? n = (p.load? n).map (Load.goes gone) :=
  Plant.load?_map (Load.goes_num gone) h.loads n

theorem Plant.Loses.trans (h : p.Loses a q) (k : q.Loses b r) : p.Loses (fun i => a i || b i) r := by
  refine ⟨?_, fun j => ?_, k.sound⟩
  · rw [k.loads, h.loads, List.map_map]
    exact List.map_congr_left fun l _ => Load.goes_goes a b l
  · rw [k.feeders, h.feeders, Feeder.without_without]
    refine Feeder.without_congr fun e _ => ?_
    simp only [Plant.goneLoad, h.load?]
    cases p.load? e.load <;> simp

theorem Plant.Loses.rfl (hp : p.sound) : p.Loses (fun _ => false) p := by
  refine ⟨?_, fun j => ?_, hp⟩
  · have : Load.goes (fun _ => false) = id := by
      funext l
      simp [Load.goes]
    simp [this]
  · have : p.goneLoad (fun _ => false) = fun _ => false := by
      funext n
      simp [Plant.goneLoad]
    rw [this, Feeder.without_none]

theorem Plant.Loses.congr (h : p.Loses a q) (hab : ∀ i, a i = b i) : p.Loses b q := by
  rwa [show b = a from funext fun i => (hab i).symm]

theorem Plant.Loses.placed (h : p.Loses gone q) (hp : p.placed) : q.placed := by
  rw [Plant.placed, h.loads, List.pairwise_map]
  exact hp.imp fun hab => by simpa using hab

end

/-! ## The loads of one station, one after another (R24, R46) -/

/-- The loss of its station for several loads. -/
def State.loseAll (ns : List Nat) (s : State) : State := ns.foldl (fun s n => s.loseStation n) s

section

variable {s : State} {n : Nat} {l : Load}

theorem State.works_loseAll (ns : List Nat) (s : State) : s.Works (s.loseAll ns) :=
  .foldl (fun s n => s.works_loseStation n) ns s

theorem State.loseAll_plant {ns : List Nat} (hp : s.plant.sound) (hns : ns.Nodup)
    (hbound : ∀ n ∈ ns, ∃ l, s.load? n = some l) :
    (s.loseAll ns).plant.loads = s.plant.loads.map (fun l => if ns.contains l.num then l.lostNow else l) ∧
      (∀ j, (s.loseAll ns).plant.feeder j = (s.plant.feeder j).without ns.contains) ∧
      (s.loseAll ns).plant.sound ∧ (s.loseAll ns).plant.stations = s.plant.stations := by
  induction ns generalizing s with
  | nil =>
    refine ⟨by simp [State.loseAll], fun j => ?_, hp, rfl⟩
    rw [show (List.contains ([] : List Nat)) = fun _ => false from funext fun _ => rfl, Feeder.without_none]
    rfl
  | cons n ns ih =>
    obtain ⟨l, hl⟩ := hbound n List.mem_cons_self
    obtain ⟨hnotin, hns⟩ := List.nodup_cons.mp hns
    obtain ⟨hloads, hfeeders, hsound, hstations⟩ := State.loseStation_plant hp hl
    have hbound' : ∀ m ∈ ns, ∃ x, (s.loseStation n).load? m = some x := fun m hm => by
      obtain ⟨x, hx⟩ := hbound m (List.mem_cons_of_mem n hm)
      have hmn : m ≠ n := fun h => hnotin (h ▸ hm)
      have hx' := (Plant.load?_set_other (p := s.plant) hmn Load.lostNow_num).trans hx
      exact ⟨x, (Plant.load?_of_loads hloads m).trans hx'⟩
    obtain ⟨iloads, ifeeders, isound, istations⟩ := ih hsound hns hbound'
    refine ⟨?_, fun j => ?_, isound, istations.trans hstations⟩
    · change ((s.loseStation n).loseAll ns).plant.loads = _
      rw [iloads, hloads, Plant.setLoad, List.map_map]
      refine List.map_congr_left fun x _ => ?_
      by_cases hx : x.num = n
      · simp [hx, hnotin]
      · simp [hx]
    · change ((s.loseStation n).loseAll ns).plant.feeder j = _
      rw [ifeeders, hfeeders, Feeder.without_without]
      exact Feeder.without_congr fun e _ => by rw [List.contains_cons]

/-- The alert block but for the notices stays. -/
theorem State.loseStation_alerts (n : Nat) (s : State) : s.alerts.sameButQueue (s.loseStation n).alerts := by
  unfold State.loseStation
  split
  · rfl
  · split
    · rfl
    · rfl
    · rfl
    all_goals exact State.raiseLoad_alerts _ _ _

theorem Alerts.sameButQueue_trans {a b c : Alerts} (h : a.sameButQueue b) (k : b.sameButQueue c) : a.sameButQueue c := by
  rw [Alerts.sameButQueue, k, h]

theorem State.loseAll_alerts (ns : List Nat) (s : State) : s.alerts.sameButQueue (s.loseAll ns).alerts := by
  induction ns generalizing s with
  | nil => rfl
  | cons n ns ih => exact Alerts.sameButQueue_trans (s.loseStation_alerts n) (ih _)

/-- A load that enters OFFLINE by the loss of its station raises OFFLINE (R24). -/
theorem State.loseStation_shows (hl : s.load? n = some l) (hbefore : l.state ≠ .offline) (hafter : l.lostNow.state = .offline)
    (hs : s.alerts.enabled = true) (hevents : l.cfg.events.getLsbD 6 = true) :
    (s.loseStation n).alerts.shows (.load n) 6 := by
  have hraise {t : State} {m : Load} (ht : t.load? n = some m) (hm : m.cfg = l.cfg) (ha : t.alerts = s.alerts) :
      (t.raiseLoad n .offline).alerts.shows (.load n) 6 :=
    State.raiseLoad_shows ht (ha ▸ hs) (hm ▸ hevents)
  have hset {f : Load → Load} (hf : ∀ x, (f x).num = x.num) : (s.setLoad n f).load? n = some (f l) := Plant.load?_set hl hf
  cases hstate : l.state with
  | offline => exact absurd hstate hbefore
  | faulted => simp [Load.lostNow, hstate] at hafter
  | waking w => simp [Load.lostNow, hstate] at hafter
  | wakeQueued =>
    simp only [State.loseStation, hl, hstate]
    refine hraise (m := { l with awaitingFan := false, state := .offline, wakeDue := true }) ?_ rfl rfl
    change (Plant.setLoad n _ (s.plant.leaveQueue n)).load? n = _
    rw [Plant.leaveQueue_bound hl]
    have hfirst : ((s.plant.setFeeder l.cfg.feeder (fun f => { f with queue := f.queue.filter (fun e => e.load != n) })).setLoad
        n (fun l => { l with awaitingFan := false })).load? n = some { l with awaitingFan := false } := Plant.load?_set hl
    exact Plant.load?_set hfirst
  | parking step =>
    simp only [State.loseStation, hl, hstate]
    exact hraise (hset fun _ => rfl) rfl rfl
  | _ =>
    simp only [State.loseStation, hl, hstate]
    exact hraise (hset fun _ => rfl) rfl rfl

theorem State.loseAll_shows {ns : List Nat} (hp : s.plant.sound) (hns : ns.Nodup)
    (hbound : ∀ n ∈ ns, ∃ l, s.load? n = some l) (hn : n ∈ ns) (hl : s.load? n = some l) (hbefore : l.state ≠ .offline)
    (hafter : l.lostNow.state = .offline) (hs : s.alerts.enabled = true) (hevents : l.cfg.events.getLsbD 6 = true) :
    (s.loseAll ns).alerts.shows (.load n) 6 := by
  induction ns generalizing s with
  | nil => exact absurd hn List.not_mem_nil
  | cons k ks ih =>
    change ((s.loseStation k).loseAll ks).alerts.shows _ _
    by_cases hk : n = k
    · subst hk
      exact ((s.loseStation n).works_loseAll ks).alerts.shows (State.loseStation_shows hl hbefore hafter hs hevents)
    · obtain ⟨x, hx⟩ := hbound k List.mem_cons_self
      obtain ⟨hloads, -, hsound, -⟩ := State.loseStation_plant hp hx
      have hkeep (m : Nat) (hm : m ≠ k) : (s.loseStation k).load? m = s.load? m :=
        (Plant.load?_of_loads hloads m).trans (Plant.load?_set_other hm Load.lostNow_num)
      obtain ⟨hnotin, hns⟩ := List.nodup_cons.mp hns
      refine ih hsound hns (fun m hm => ?_) ((List.mem_cons.mp hn).resolve_left hk) ((hkeep n hk).trans hl)
        ((s.works_loseStation k).alerts.enabled.trans hs)
      have hm' : m ≠ k := fun h => hnotin (h ▸ hm)
      rw [hkeep m hm']
      exact hbound m (List.mem_cons_of_mem k hm)

/-! ## The whole station (R110) -/

/-- The station's orders and slot are dropped and restart-noted is cleared, before its loads are moved (R110). -/
def State.dropped (i : StationId) (s : State) : State :=
  (s.onPlant (Plant.dropOrders i)).setStation i (fun st => { st with restartNoted := false })

theorem State.dropStation_eq (i : StationId) (s : State) :
    s.dropStation i = (s.dropped i).loseAll ((s.dropped i).plant.loadsOf i) := rfl

theorem State.dropped_loads (i : StationId) (s : State) :
    (s.dropped i).plant.loads = s.plant.loads.map (fun l => if l.cfg.station = i then l.undue else l) := by
  refine List.map_congr_left fun l _ => ?_
  simp only [beq_iff_eq]
  rfl

theorem State.dropped_sound (hp : s.plant.sound) (i : StationId) : (s.dropped i).plant.sound :=
  ((Plant.sameUnits_dropOrders i s.plant).trans (Plant.sameUnits_setStation i _ _)).sound hp

theorem State.dropped_station_self (i : StationId) :
    (s.dropped i).station i = { s.station i with slot := none, restartNoted := false } := by
  simp only [State.dropped, State.station, State.setStation_plant, Plant.station_setStation_self, State.onPlant_plant,
    Plant.dropOrders]
  rfl

theorem State.dropped_station_other {i j : StationId} (hj : j ≠ i) : (s.dropped i).station j = s.station j := by
  simp only [State.dropped, State.station, State.setStation_plant, State.onPlant_plant, Plant.dropOrders]
  rw [Plant.station_setStation_other _ hj, Plant.station_setStation_other _ hj]
  rfl

theorem State.dropped_load? (i : StationId) (n : Nat) :
    (s.dropped i).load? n = (s.load? n).map (fun l => if l.cfg.station = i then l.undue else l) :=
  Plant.load?_map (p := s.plant) (fun l => by split <;> rfl) (s.dropped_loads i) n

/-- A load of the station, after its orders were dropped. -/
theorem State.dropped_bound (hp : s.plant.sound) (i : StationId) :
    ∀ n ∈ (s.dropped i).plant.loadsOf i, ∃ l, (s.dropped i).load? n = some l := fun _ hn =>
  let ⟨l, hl, _⟩ := Plant.loadsOf_bound (State.dropped_sound hp i).numbered hn
  ⟨l, hl⟩

theorem State.dropStation_sound (hp : s.plant.sound) (i : StationId) : (s.dropStation i).plant.sound :=
  (State.loseAll_plant (State.dropped_sound hp i) (Plant.loadsOf_nodup (State.dropped_sound hp i).numbered i)
    (State.dropped_bound hp i)).2.2.1

theorem State.dropped_placed (hplaced : s.plant.placed) (i : StationId) : (s.dropped i).plant.placed := by
  rw [Plant.placed, State.dropped_loads, List.pairwise_map]
  refine hplaced.imp fun {a b} hab => ?_
  have hcfg (l : Load) : (if l.cfg.station = i then l.undue else l).cfg = l.cfg := by split <;> rfl
  rwa [hcfg, hcfg]

/-- What the loss of one station makes of loads and feeders. -/
theorem State.loses_dropStation (hp : s.plant.sound) (hplaced : s.plant.placed) (i : StationId) :
    s.plant.Loses (· == i) (s.dropStation i).plant := by
  have hsound := State.dropped_sound hp i
  obtain ⟨hloads, hfeeders, hlost, -⟩ := State.loseAll_plant hsound (Plant.loadsOf_nodup hsound.numbered i)
    (State.dropped_bound hp i)
  have hplaced' := State.dropped_placed hplaced i
  have hcfg (l : Load) : (if l.cfg.station = i then l.undue else l).cfg = l.cfg := by split <;> rfl
  have hnum (l : Load) : (if l.cfg.station = i then l.undue else l).num = l.num := by split <;> rfl
  have hin (x : Load) (hx : x ∈ (s.dropped i).plant.loads) :
      ((s.dropped i).plant.loadsOf i).contains x.num = (x.cfg.station == i) := by
    rw [Bool.eq_iff_iff, List.contains_iff_mem, Plant.mem_loadsOf hplaced' hx hsound.numbered, beq_iff_eq]
  rw [State.dropStation_eq]
  refine ⟨?_, fun j => ?_, hlost⟩
  · rw [hloads, State.dropped_loads, List.map_map]
    refine List.map_congr_left fun l hl => ?_
    have hmem : (if l.cfg.station = i then l.undue else l) ∈ (s.dropped i).plant.loads := by
      rw [State.dropped_loads]
      exact List.mem_map_of_mem hl
    simp only [Function.comp_apply]
    rw [hin _ hmem, hcfg, Load.goes]
    by_cases h : l.cfg.station = i
    · simp [h, Load.lostNow_undue]
    · simp [h]
  · rw [hfeeders]
    change (s.plant.feeder j).without _ = _
    refine Feeder.without_congr fun e he => ?_
    obtain ⟨l, hl, -⟩ := (hp.queuesMatch j e.load).mp (List.mem_map.mpr ⟨e, he, rfl⟩)
    have hmem : (if l.cfg.station = i then l.undue else l) ∈ (s.dropped i).plant.loads := by
      rw [State.dropped_loads]
      exact List.mem_map_of_mem (Plant.mem_of_load? hl)
    have hcontains := hin _ hmem
    rw [hnum, hcfg, Plant.load?_num hl] at hcontains
    rw [hcontains, Plant.goneLoad, hl]
    rfl

theorem State.loseStation_stations (n : Nat) (s : State) : (s.loseStation n).plant.stations = s.plant.stations := by
  unfold State.loseStation
  split
  · rfl
  · next l hl =>
    split
    · rfl
    · rfl
    · rfl
    · rw [State.raiseLoad_plant]
      change (Plant.leaveQueue n s.plant).stations = _
      rw [Plant.leaveQueue_bound hl]
      rfl
    all_goals
      rw [State.raiseLoad_plant]
      rfl

theorem State.loseAll_stations (ns : List Nat) (s : State) : (s.loseAll ns).plant.stations = s.plant.stations := by
  induction ns generalizing s with
  | nil => rfl
  | cons n ns ih => exact (ih _).trans (s.loseStation_stations n)

theorem Plant.station_of_stations {p q : Plant} (h : q.stations = p.stations) (i : StationId) :
    q.station i = p.station i := by
  rw [Plant.station, h]
  rfl

@[simp] theorem State.dropStation_station_self (i : StationId) :
    (s.dropStation i).station i = { s.station i with slot := none, restartNoted := false } := by
  rw [← State.dropped_station_self]
  exact Plant.station_of_stations (State.loseAll_stations _ _) i

theorem State.dropStation_station_other {i j : StationId} (hj : j ≠ i) : (s.dropStation i).station j = s.station j :=
  (Plant.station_of_stations (State.loseAll_stations _ _) j).trans (State.dropped_station_other hj)

theorem State.dropStation_alerts (i : StationId) (s : State) : s.alerts.sameButQueue (s.dropStation i).alerts :=
  State.loseAll_alerts _ (s.dropped i)

theorem State.dropStation_beyond (i : StationId) (s : State) : s.sameBeyondPlant (s.dropStation i) :=
  (State.works_loseAll _ (s.dropped i)).beyond

theorem State.dropStation_evolves (i : StationId) (s : State) : s.alerts.Evolves (s.dropStation i).alerts :=
  (State.works_loseAll _ (s.dropped i)).alerts

theorem State.dropStation_groups (i : StationId) (s : State) :
    (s.dropStation i).plant.groups = s.plant.groups ∧ (s.dropStation i).plant.curves = s.plant.curves :=
  ⟨(State.works_loseAll _ (s.dropped i)).plant.groups, (State.works_loseAll _ (s.dropped i)).plant.curves⟩

theorem State.dropStation_shows (hp : s.plant.sound) (hplaced : s.plant.placed) {i : StationId} (hl : s.load? n = some l)
    (hstation : l.cfg.station = i) (hbefore : l.state ≠ .offline) (hafter : l.afterLoss.state = .offline)
    (hs : s.alerts.enabled = true) (hevents : l.cfg.events.getLsbD 6 = true) :
    (s.dropStation i).alerts.shows (.load n) 6 := by
  have hsound := State.dropped_sound hp i
  have hl' : (s.dropped i).load? n = some l.undue := by rw [State.dropped_load?, hl, Option.map_some, if_pos hstation]
  have hin : n ∈ (s.dropped i).plant.loadsOf i := by
    have := (Plant.mem_loadsOf (i := i) (State.dropped_placed hplaced i) (Plant.mem_of_load? hl') hsound.numbered).mpr hstation
    rwa [Plant.load?_num hl'] at this
  rw [State.dropStation_eq]
  exact State.loseAll_shows (l := l.undue) hsound (Plant.loadsOf_nodup hsound.numbered i) (State.dropped_bound hp i) hin hl'
    hbefore (by rw [Load.lostNow_undue]; exact hafter) hs hevents

end

end Sys2Proof.Machine
end

section
/-!
PROOFS. Misses and the loss they bring (R109, R110, R131), and the statements about them.
-/

namespace Sys2Proof.Machine

/-! ## A miss (R109) -/

section

variable {s : State} {i : StationId}

/-- The miss count after a miss of the station. -/
def Station.missCount (st : Station) : Nat := min 7 (st.misses + 1)

/-- The miss brings the station into LOST. -/
abbrev Station.isLostNow (st : Station) : Prop := st.link.afterMiss st.missCount = .lost ∧ st.link ≠ .lost

/-- The station's record after a miss, the loss aside. -/
def Station.missed (st : Station) : Station := { st with misses := st.missCount, link := st.link.afterMiss st.missCount }

/-- The state after a miss, the loss aside (R109). -/
def State.missed (i : StationId) (s : State) : State :=
  (s.setStation i Station.missed).flagRound (fun f => { f with anyMiss := true })

theorem State.miss_eq (i : StationId) (s : State) :
    s.miss i = if (s.station i).isLostNow then (s.missed i).stationLost i else s.missed i := by
  have hmissed : s.missed i = (s.setStation i (fun st => { st with
      misses := min 7 ((s.station i).misses + 1),
      link := (s.station i).link.afterMiss (min 7 ((s.station i).misses + 1)) })).flagRound
      (fun f => { f with anyMiss := true }) := rfl
  rw [State.miss, ← hmissed]
  rfl

@[simp] theorem State.missed_station_self : (s.missed i).station i = (s.station i).missed :=
  Plant.station_setStation_self _ _ _

theorem State.missed_station_other {j : StationId} (hj : j ≠ i) : (s.missed i).station j = s.station j :=
  Plant.station_setStation_other _ hj _

/-- The state in which a loss has been raised, before the station's loads are moved (R110). -/
def State.lossRaised (i : StationId) (s : State) : State :=
  ((s.raiseStation i .lost).countFault).flagRound (fun f => { f with newLoss := true })

theorem State.stationLost_eq (i : StationId) (s : State) : s.stationLost i = (s.lossRaised i).dropStation i := rfl

theorem State.lossRaised_plant : (s.lossRaised i).plant = s.plant := by
  simp [State.lossRaised]

theorem State.lossRaised_station (j : StationId) : (s.lossRaised i).station j = s.station j := by
  rw [State.station, State.lossRaised_plant]
  rfl

theorem State.lossRaised_alerts : s.alerts.faultCounted (s.lossRaised i).alerts := by
  change s.alerts.faultCounted (s.raiseStation i .lost).alerts.countFault
  have hraise := State.raiseStation_alerts s i .lost
  rw [Alerts.sameButQueue] at hraise
  rw [hraise]
  exact Alerts.faultCounted_countFault s.alerts

theorem Alerts.faultCounted_sameButQueue {a b c : Alerts} (h : a.faultCounted b) (k : b.sameButQueue c) : a.faultCounted c := by
  rw [Alerts.sameButQueue] at k
  rw [k]
  exact h

/-- The station after a miss (R109, R110). -/
theorem State.miss_station_self (i : StationId) (s : State) :
    (s.miss i).station i =
      if (s.station i).isLostNow then { (s.station i).missed with slot := none, restartNoted := false }
      else (s.station i).missed := by
  rw [State.miss_eq]
  split
  · rw [State.stationLost_eq, State.dropStation_station_self, State.lossRaised_station, State.missed_station_self]
  · exact State.missed_station_self

theorem State.miss_station_other {j : StationId} (hj : j ≠ i) : (s.miss i).station j = s.station j := by
  rw [State.miss_eq]
  split
  · rw [State.stationLost_eq, State.dropStation_station_other hj, State.lossRaised_station, State.missed_station_other hj]
  · exact State.missed_station_other hj

/-- The round flags after a miss (R132). -/
theorem State.miss_sweep (i : StationId) (s : State) :
    (s.miss i).sweep = { s.sweep with flags := { s.sweep.flags with
      anyMiss := true, newLoss := s.sweep.flags.newLoss || decide (s.station i).isLostNow } } := by
  rw [State.miss_eq]
  split
  · next h =>
    rw [State.stationLost_eq, (State.dropStation_beyond i _).2.1]
    simp [State.lossRaised, State.missed, h]
  · next h => simp [State.missed, h]

theorem State.miss_beyond (i : StationId) (s : State) :
    (s.miss i).calendar = s.calendar ∧ (s.miss i).assent = s.assent ∧ (s.miss i).link = s.link ∧
      (s.miss i).inReset = s.inReset ∧ (s.miss i).draws = s.draws ∧ (s.miss i).pending = s.pending := by
  rw [State.miss_eq]
  split
  · obtain ⟨hcalendar, -, hassent, hlink, hreset, hdraws, hpending⟩ := State.dropStation_beyond i ((s.missed i).lossRaised i)
    rw [State.stationLost_eq, hcalendar, hassent, hlink, hreset, hdraws, hpending]
    simp [State.lossRaised, State.missed]
  · exact ⟨rfl, rfl, rfl, rfl, rfl, rfl⟩

theorem State.miss_groups (i : StationId) (s : State) :
    (s.miss i).plant.groups = s.plant.groups ∧ (s.miss i).plant.curves = s.plant.curves := by
  rw [State.miss_eq]
  split
  · obtain ⟨hgroups, hcurves⟩ := State.dropStation_groups i ((s.missed i).lossRaised i)
    rw [State.stationLost_eq, hgroups, hcurves, State.lossRaised_plant]
    exact ⟨rfl, rfl⟩
  · exact ⟨rfl, rfl⟩

theorem State.miss_kept (h : ¬(s.station i).isLostNow) :
    (s.miss i).plant.loads = s.plant.loads ∧ (s.miss i).plant.feeders = s.plant.feeders ∧ (s.miss i).alerts = s.alerts := by
  rw [State.miss_eq, if_neg h]
  exact ⟨rfl, rfl, rfl⟩

theorem State.miss_lost (h : (s.station i).isLostNow) : s.alerts.faultCounted (s.miss i).alerts := by
  rw [State.miss_eq, if_pos h]
  exact Alerts.faultCounted_sameButQueue (State.lossRaised_alerts (s := s.missed i)) (State.dropStation_alerts i _)

/-! ## The visit that is a miss (R131) -/

/-- The rows that judge a visit in progress a miss, with the phases in which they do (R131). -/
abbrev missesVisit (v : Visit) (c : Instr) : Prop :=
  (c = .replyStartTimeout ∧ v.phase = .listening) ∨
    (c = .replyCharacterFault ∧ (v.phase = .listening ∨ v.phase = .receiving)) ∨
    (∃ frame, c = .fieldReplyReceived frame ∧ (v.phase = .listening ∨ v.phase = .receiving) ∧ parseReply v frame = none)

theorem Visit.listens_iff {v : Visit} : v.listens = true ↔ v.phase = .listening ∨ v.phase = .receiving := by
  simp [Visit.listens]

theorem exec_replyStartTimeout (s : State) : exec .replyStartTimeout s = s.perform State.startLimitPasses := rfl

theorem exec_replyCharacterFault (s : State) : exec .replyCharacterFault s = s.perform State.replyFault := rfl

theorem exec_fieldReplyReceived (frame : List Byte) (s : State) :
    exec (.fieldReplyReceived frame) s = s.perform (State.replyEnds frame) := rfl

theorem exec_missesVisit {v : Visit} {c : Instr} (hreset : s.inReset = false) (hline : s.sweep.line = .slot v)
    (h : missesVisit v c) : exec c s = .next (s.missVisit v).settlePins := by
  rcases h with ⟨rfl, hphase⟩ | ⟨rfl, hphase⟩ | ⟨frame, rfl, hphase, hparse⟩
  · rw [exec_replyStartTimeout, State.perform_out hreset]
    simp [State.startLimitPasses, hline, hphase]
  · rw [exec_replyCharacterFault, State.perform_out hreset]
    simp [State.replyFault, hline, Visit.listens_iff.mpr hphase]
  · rw [exec_fieldReplyReceived, State.perform_out hreset]
    simp [State.replyEnds, hline, Visit.listens_iff.mpr hphase, hparse]

/-- The link state after a miss by the table of R109, but for EXCLUDED. -/
theorem LinkState.afterMiss_eq {k : LinkState} (hk : k ≠ .excluded) (count : Nat) :
    k.afterMiss count = if k = .lost ∨ 3 ≤ count then .lost else if k = .unheard then .unheard else .suspect := by
  by_cases hc : 3 ≤ count
  · have hc' : ¬count < 3 := by omega
    cases k <;> simp_all [LinkState.afterMiss]
  · have hc' : count < 3 := by omega
    cases k <;> simp_all [LinkState.afterMiss]

end

/-- Settles O24. -/
theorem missesMoveTheLinkState : Obligations.MissesMoveTheLinkState := by
  unfold Obligations.MissesMoveTheLinkState
  intro s v c hreset hline hlink hc
  refine ⟨_, exec_missesVisit hreset hline hc, ?_⟩
  have hself := State.miss_station_self v.station (s.setPhase v .over)
  have hstation (j : StationId) : (s.setPhase v .over).station j = s.station j := rfl
  rw [hstation] at hself
  have hlinkAfter : ((s.missVisit v).station v.station).link = (s.station v.station).link.afterMiss
      (s.station v.station).missCount := by
    rw [State.missVisit, hself]
    split <;> rfl
  have hlost : (((s.missVisit v).station v.station).link = .lost ∧ (s.station v.station).link ≠ .lost) ↔
      (s.station v.station).isLostNow := by rw [hlinkAfter]
  obtain ⟨hcalendar, hassent, hkept, -, -, hpending⟩ := State.miss_beyond v.station (s.setPhase v .over)
  obtain ⟨hgroups, hcurves⟩ := State.miss_groups v.station (s.setPhase v .over)
  have hmost {P : Station → Prop} (hP : P (s.station v.station).missed)
      (hP' : P { (s.station v.station).missed with slot := none, restartNoted := false }) :
      P ((s.missVisit v).station v.station) := by
    rw [State.missVisit, hself]
    split
    · exact hP'
    · exact hP
  refine ⟨hmost (P := fun st => st.misses = _) rfl rfl, hlinkAfter.trans (LinkState.afterMiss_eq hlink _),
    hmost (P := fun st => st.inquiry = _) rfl rfl, hmost (P := fun st => st.once = _) rfl rfl,
    hmost (P := fun st => st.round = _) rfl rfl, hmost (P := fun st => st.lastCall = _) rfl rfl,
    hmost (P := fun st => st.lastLockout = _) rfl rfl, hmost (P := fun st => st.enabled = _) rfl rfl,
    hmost (P := fun st => st.fitted = _) rfl rfl, hmost (P := fun st => st.lastServed = _) rfl rfl,
    hmost (P := fun st => st.runHours = _) rfl rfl, hmost (P := fun st => st.temperatures = _) rfl rfl,
    hmost (P := fun st => st.faultList = _) rfl rfl, hmost (P := fun st => st.ident = _) rfl rfl,
    fun j hj => State.miss_station_other hj, hgroups, hcurves, ?_, hcalendar, hassent, hkept, hpending, ?_⟩
  · have hflag : ((((s.missVisit v).settlePins.station v.station).link == .lost) && (s.station v.station).link != .lost) =
        decide (s.station v.station).isLostNow := by
      rw [Bool.eq_iff_iff, decide_eq_true_iff, ← hlost]
      simp [State.station]
    rw [hflag]
    exact State.miss_sweep v.station (s.setPhase v .over)
  · change if ((s.missVisit v).station v.station).link = .lost ∧ (s.station v.station).link ≠ .lost then _ else _
    split
    · next h => exact State.miss_lost (s := s.setPhase v .over) (hlost.mp h)
    · next h =>
      have hnot := fun h' => h (hlost.mpr h')
      obtain ⟨hloads, hfeeders, halerts⟩ := State.miss_kept (s := s.setPhase v .over) hnot
      have hrecord : (s.missVisit v).station v.station = (s.station v.station).missed := by
        rw [State.missVisit, hself, if_neg hnot]
      refine ⟨hloads, hfeeders, halerts, ?_, ?_⟩
      · have := congrArg Station.slot hrecord
        exact this
      · have := congrArg Station.restartNoted hrecord
        exact this

end Sys2Proof.Machine
end

section
/-!
PROOFS. Exclusions at a round start (R107, R110, R126), and the statement about the loads of stations that go.
-/

namespace Sys2Proof.Machine

section

variable {s : State} {i : StationId}

/-! ## The miss that makes a station LOST -/

theorem Plant.sound_of_same {p q : Plant} (hloads : q.loads = p.loads) (hfeeders : q.feeders = p.feeders) (hp : p.sound) :
    q.sound := (Plant.sameUnits_of_loads .rfl hloads hfeeders).sound hp

theorem State.missed_sound (hp : s.plant.sound) (i : StationId) : (s.missed i).plant.sound :=
  Plant.sound_of_same rfl rfl hp

theorem State.lossRaised_sound (hp : s.plant.sound) (i : StationId) : (s.lossRaised i).plant.sound := by
  rwa [State.lossRaised_plant]

theorem Plant.Loses.of_same {p q r : Plant} {gone : StationId → Bool} (h : q.Loses gone r) (hloads : q.loads = p.loads)
    (hfeeders : q.feeders = p.feeders) : p.Loses gone r := by
  refine ⟨by rw [h.loads, hloads], fun j => ?_, h.sound⟩
  rw [h.feeders, Plant.feeder_of_feeders hfeeders]
  congr 1
  funext n
  rw [Plant.goneLoad, Plant.goneLoad, Plant.load?_of_loads hloads]

theorem State.loses_miss (hp : s.plant.sound) (hplaced : s.plant.placed) (h : (s.station i).isLostNow) :
    s.plant.Loses (· == i) (s.miss i).plant := by
  rw [State.miss_eq, if_pos h, State.stationLost_eq]
  have hplant : ((s.missed i).lossRaised i).plant = (s.missed i).plant := State.lossRaised_plant
  refine (State.loses_dropStation (s := (s.missed i).lossRaised i) (State.lossRaised_sound (State.missed_sound hp i) i)
    (by rw [hplant]; exact hplaced) i).of_same ?_ ?_
  · rw [hplant]
    rfl
  · rw [hplant]
    rfl

theorem State.miss_shows_lost (h : (s.station i).isLostNow) (hs : s.alerts.enabled = true)
    (hset : s.alerts.stationSet.getLsbD 0 = true) : (s.miss i).alerts.shows (.station i) 0 := by
  rw [State.miss_eq, if_pos h, State.stationLost_eq]
  refine (State.dropStation_evolves i _).shows ?_
  exact (Alerts.countFault_evolves _).shows (State.raiseStation_shows (s := s.missed i) (e := .lost) hs hset)

theorem State.miss_shows_offline (h : (s.station i).isLostNow) (hp : s.plant.sound) (hplaced : s.plant.placed) {n : Nat}
    {l : Load} (hl : s.load? n = some l) (hstation : l.cfg.station = i) (hbefore : l.state ≠ .offline)
    (hafter : l.afterLoss.state = .offline) (hs : s.alerts.enabled = true) (hevents : l.cfg.events.getLsbD 6 = true) :
    (s.miss i).alerts.shows (.load n) 6 := by
  rw [State.miss_eq, if_pos h, State.stationLost_eq]
  have hplant : ((s.missed i).lossRaised i).plant = (s.missed i).plant := State.lossRaised_plant
  refine State.dropStation_shows (State.lossRaised_sound (State.missed_sound hp i) i) (by rw [hplant]; exact hplaced) ?_
    hstation hbefore hafter ?_ hevents
  · rw [State.load?, hplant]
    exact hl
  · exact ((s.missed i).raiseStation_evolves i .lost).enabled.trans hs

/-! ## Exclusions (R107) -/

/-- The station goes at a round start with this last station: it is not yet EXCLUDED, and is disabled or above it. -/
def State.goes (last : Nat) (s : State) (i : StationId) : Bool :=
  (s.station i).link != .excluded && !((s.station i).enabled && decide (i.val < last))

/-- The station's record after the judgement of a round start (R107, R110). -/
def Station.judged (last : Nat) (i : StationId) (st : Station) : Station :=
  if st.enabled = true ∧ i.val < last then
    if st.link = .excluded then { st with link := .unheard, misses := 0 } else st
  else if st.link = .excluded then st
  else { st with link := .excluded, slot := none, restartNoted := false }

/-- What the judgement of stations at a round start makes of the stations and of the blocks beside the plant (R107). -/
structure State.Judges (last : Nat) (is : List StationId) (s t : State) : Prop where
  stations : ∀ i, t.station i = if i ∈ is then (s.station i).judged last i else s.station i
  beyond : s.sameBeyondPlant t
  groups : t.plant.groups = s.plant.groups ∧ t.plant.curves = s.plant.curves
  alerts : t.alerts = { s.alerts with queue := t.alerts.queue, beacon := t.alerts.beacon }
  beacon : t.alerts.beacon = true → s.alerts.beacon = true
  evolves : s.alerts.Evolves t.alerts

/-- What it makes of the loads, on a plant with sound start queues and units (R24). -/
structure State.JudgesLoads (last : Nat) (is : List StationId) (s t : State) : Prop extends State.Judges last is s t where
  loses : s.plant.Loses (fun i => is.contains i && s.goes last i) t.plant
  shows : ∀ n l, s.load? n = some l → is.contains l.cfg.station = true → s.goes last l.cfg.station = true →
    l.state ≠ .offline → l.afterLoss.state = .offline → s.alerts.enabled = true → l.cfg.events.getLsbD 6 = true →
    t.alerts.shows (.load n) 6

theorem State.evaluateBeacon_beacon (s : State) : s.evaluateBeacon.alerts.beacon = true → s.alerts.beacon = true := by
  rw [State.evaluateBeacon_alerts]
  dsimp only
  split
  · exact nofun
  · exact id

/-- The station has been marked EXCLUDED, before it is dropped. -/
def State.excluding (i : StationId) (s : State) : State := s.setStation i (fun st => { st with link := .excluded })

theorem State.exclude_eq (i : StationId) (s : State) :
    s.exclude i = if (s.station i).link = .lost then ((s.excluding i).dropStation i).evaluateBeacon
      else (s.excluding i).dropStation i := rfl

theorem State.exclude_plant (i : StationId) (s : State) : (s.exclude i).plant = ((s.excluding i).dropStation i).plant := by
  rw [State.exclude_eq]
  split
  · exact State.evaluateBeacon_plant _
  · rfl

theorem State.exclude_evolves (i : StationId) (s : State) :
    ((s.excluding i).dropStation i).alerts.Evolves (s.exclude i).alerts := by
  rw [State.exclude_eq]
  split
  · exact State.evaluateBeacon_evolves _
  · exact .rfl

theorem State.exclude_beyond (i : StationId) (s : State) : s.sameBeyondPlant (s.exclude i) := by
  have hdrop := State.dropStation_beyond i (s.excluding i)
  rw [State.exclude_eq]
  split
  · exact State.sameBeyondPlant_trans hdrop (State.works_evaluateBeacon _).beyond
  · exact hdrop

theorem State.exclude_alerts (i : StationId) (s : State) :
    (s.exclude i).alerts = { s.alerts with queue := (s.exclude i).alerts.queue, beacon := (s.exclude i).alerts.beacon } ∧
      ((s.exclude i).alerts.beacon = true → s.alerts.beacon = true) := by
  have hdrop : ((s.excluding i).dropStation i).alerts =
      { s.alerts with queue := ((s.excluding i).dropStation i).alerts.queue } := State.dropStation_alerts i (s.excluding i)
  rw [State.exclude_eq]
  split
  · have hbeacon := State.evaluateBeacon_beacon ((s.excluding i).dropStation i)
    rw [hdrop] at hbeacon
    refine ⟨?_, hbeacon⟩
    rw [State.evaluateBeacon_alerts, hdrop]
  · rw [hdrop]
    exact ⟨rfl, id⟩

theorem State.excluding_sound (hp : s.plant.sound) (i : StationId) : (s.excluding i).plant.sound :=
  Plant.sound_of_same rfl rfl hp

theorem State.exclude_station_self (i : StationId) (s : State) :
    (s.exclude i).station i = { s.station i with link := .excluded, slot := none, restartNoted := false } := by
  rw [State.station, State.exclude_plant, ← State.station, State.dropStation_station_self]
  rw [show (s.excluding i).station i = { s.station i with link := .excluded } from Plant.station_setStation_self _ _ _]

theorem State.exclude_station_other {j : StationId} (hj : j ≠ i) : (s.exclude i).station j = s.station j := by
  rw [State.station, State.exclude_plant, ← State.station, State.dropStation_station_other hj]
  exact Plant.station_setStation_other _ hj _

/-- The cases of the judgement of one station (R107). -/
theorem State.judgeStation_cases (i : StationId) (s : State) :
    (s.goes s.sweep.lastStation i = true ∧ s.judgeStation i = s.exclude i) ∨
      (s.goes s.sweep.lastStation i = false ∧
        s.judgeStation i = s.setStation i (Station.judged s.sweep.lastStation i)) := by
  have hstay (h : (s.station i).judged s.sweep.lastStation i = s.station i) :
      s = s.setStation i (Station.judged s.sweep.lastStation i) := by
    have hset : s.plant.setStation i (Station.judged s.sweep.lastStation i) = s.plant := by
      unfold Plant.setStation
      rw [show Station.judged s.sweep.lastStation i s.plant.stations[i] = s.plant.stations[i] from h]
      simp
    change s = { s with plant := s.plant.setStation i (Station.judged s.sweep.lastStation i) }
    rw [hset]
  have hset (f : Station → Station) (h : f (s.station i) = (s.station i).judged s.sweep.lastStation i) :
      s.setStation i f = s.setStation i (Station.judged s.sweep.lastStation i) := by
    have : s.plant.setStation i f = s.plant.setStation i (Station.judged s.sweep.lastStation i) := by
      unfold Plant.setStation
      rw [show f s.plant.stations[i] = Station.judged s.sweep.lastStation i s.plant.stations[i] from h]
    change ({ s with plant := s.plant.setStation i f } : State) = { s with plant := _ }
    rw [this]
  unfold State.judgeStation State.goes
  dsimp only
  by_cases hstands : (s.station i).enabled = true ∧ i.val < s.sweep.lastStation
  · rw [if_pos hstands]
    refine .inr ⟨by simp [hstands.1, hstands.2], ?_⟩
    by_cases hlink : (s.station i).link = .excluded
    · rw [if_pos hlink]
      exact hset _ (by simp [Station.judged, hstands, hlink])
    · rw [if_neg hlink]
      exact hstay (by simp [Station.judged, hstands, hlink])
  · rw [if_neg hstands]
    by_cases hlink : (s.station i).link = .excluded
    · rw [if_pos hlink]
      exact .inr ⟨by simp [hlink], hstay (by simp [Station.judged, hstands, hlink])⟩
    · rw [if_neg hlink]
      refine .inl ⟨?_, rfl⟩
      rw [Bool.and_eq_true, Bool.not_eq_true', bne_iff_ne, ← Bool.not_eq_true, Bool.and_eq_true, decide_eq_true_iff]
      exact ⟨hlink, hstands⟩

theorem Station.judged_of_goes (h : s.goes s.sweep.lastStation i = true) :
    (s.station i).judged s.sweep.lastStation i =
      { s.station i with link := .excluded, slot := none, restartNoted := false } := by
  rw [State.goes, Bool.and_eq_true, Bool.not_eq_true', bne_iff_ne, ← Bool.not_eq_true, Bool.and_eq_true,
    decide_eq_true_iff] at h
  rw [Station.judged, if_neg h.2, if_neg h.1]

theorem contains_singleton_station (i j : StationId) : [i].contains j = (j == i) := by
  rw [Bool.eq_iff_iff]
  simp

theorem State.judges_judgeStation (i : StationId) (s : State) : s.Judges s.sweep.lastStation [i] (s.judgeStation i) := by
  rcases State.judgeStation_cases i s with ⟨hgoes, hjudge⟩ | ⟨-, hjudge⟩
  · rw [hjudge]
    obtain ⟨halerts, hbeacon⟩ := State.exclude_alerts i s
    refine ⟨fun j => ?_, State.exclude_beyond i s, ?_, halerts, hbeacon, ?_⟩
    · by_cases hj : j = i
      · subst hj
        rw [State.exclude_station_self, if_pos (List.mem_singleton_self j), Station.judged_of_goes hgoes]
      · rw [State.exclude_station_other hj, if_neg (by simpa using hj)]
    · rw [State.exclude_plant]
      exact State.dropStation_groups i (s.excluding i)
    · exact (State.dropStation_evolves i (s.excluding i)).trans (State.exclude_evolves i s)
  · rw [hjudge]
    refine ⟨fun j => ?_, ⟨rfl, rfl, rfl, rfl, rfl, rfl, rfl⟩, ⟨rfl, rfl⟩, rfl, id, .rfl⟩
    by_cases hj : j = i
    · subst hj
      rw [if_pos (List.mem_singleton_self j)]
      exact Plant.station_setStation_self _ _ _
    · rw [if_neg (by simpa using hj)]
      exact Plant.station_setStation_other _ hj _

theorem State.judgesLoads_judgeStation (hp : s.plant.sound) (hplaced : s.plant.placed) (i : StationId) :
    s.JudgesLoads s.sweep.lastStation [i] (s.judgeStation i) := by
  refine ⟨State.judges_judgeStation i s, ?_, ?_⟩
  all_goals rcases State.judgeStation_cases i s with ⟨hgoes, hjudge⟩ | ⟨hgoes, hjudge⟩
  · rw [hjudge, State.exclude_plant]
    have hdrop := State.loses_dropStation (State.excluding_sound hp i) (show (s.excluding i).plant.placed from hplaced) i
    refine (hdrop.of_same (p := s.plant) rfl rfl).congr fun j => ?_
    rw [contains_singleton_station]
    by_cases hj : j = i
    · subst hj
      simp [hgoes]
    · simp [hj]
  · rw [hjudge]
    refine Plant.Loses.congr (a := fun _ => false) ?_ fun j => ?_
    · have hset : (s.setStation i (Station.judged s.sweep.lastStation i)).plant.sound :=
        Plant.sound_of_same (p := s.plant) rfl rfl hp
      exact (Plant.Loses.rfl hset).of_same rfl rfl
    · rw [contains_singleton_station]
      by_cases hj : j = i
      · subst hj
        simp [hgoes]
      · simp [hj]
  · intro n l hl hin _ hbefore hafter hs he
    rw [hjudge]
    rw [contains_singleton_station, beq_iff_eq] at hin
    exact (State.exclude_evolves i s).shows
      (State.dropStation_shows (State.excluding_sound hp i) hplaced hl hin hbefore hafter hs he)
  · intro n l _ hin hgo
    rw [contains_singleton_station, beq_iff_eq] at hin
    rw [hin, hgoes] at hgo
    exact absurd hgo nofun

/-- The stations still to be judged are as they were. -/
theorem State.Judges.goes_other {last : Nat} {i j : StationId} {t : State} (h : s.Judges last [i] t) (hj : j ≠ i) :
    t.goes last j = s.goes last j := by
  have hsame := h.stations j
  rw [if_neg (by simpa using hj)] at hsame
  rw [State.goes, State.goes, hsame]

theorem State.Judges.trans {last : Nat} {i : StationId} {is : List StationId} {s t u : State} (hi : i ∉ is)
    (h : s.Judges last [i] t) (k : t.Judges last is u) : s.Judges last (i :: is) u := by
  obtain ⟨hgroups, hcurves⟩ := h.groups
  obtain ⟨kgroups, kcurves⟩ := k.groups
  refine ⟨fun j => ?_, State.sameBeyondPlant_trans h.beyond k.beyond,
    ⟨kgroups.trans hgroups, kcurves.trans hcurves⟩, ?_, fun hb => h.beacon (k.beacon hb), h.evolves.trans k.evolves⟩
  · rw [k.stations j, h.stations j]
    by_cases hj : j ∈ is
    · have hne : j ≠ i := fun h => hi (h ▸ hj)
      simp [hj, hne]
    · simp [hj]
  · rw [k.alerts, h.alerts]

theorem State.JudgesLoads.trans {last : Nat} {i : StationId} {is : List StationId} {s t u : State} (hi : i ∉ is)
    (h : s.JudgesLoads last [i] t) (k : t.JudgesLoads last is u) : s.JudgesLoads last (i :: is) u := by
  have hgoes (j : StationId) (hj : j ∈ is) : t.goes last j = s.goes last j :=
    h.toJudges.goes_other fun h => hi (h ▸ hj)
  refine ⟨h.toJudges.trans hi k.toJudges, (h.loses.trans k.loses).congr fun j => ?_,
    fun n l hl hin hgo hbefore hafter hs he => ?_⟩
  · rw [List.contains_cons]
    by_cases hj : j ∈ is
    · have hne : j ≠ i := fun h => hi (h ▸ hj)
      simp [hj, hgoes j hj, hne]
    · simp [hj, beq_eq_decide]
  · by_cases hji : l.cfg.station = i
    · exact k.evolves.shows (h.shows n l hl (by simp [hji]) hgo hbefore hafter hs he)
    · have hin' : is.contains l.cfg.station = true := by
        rw [List.contains_cons, Bool.or_eq_true, beq_iff_eq] at hin
        exact hin.resolve_left hji
      have hl' : t.load? n = some l := by
        rw [State.load?, h.loses.load? n, show s.plant.load? n = some l from hl]
        simp [Load.goes, hji]
      have hgo' : t.goes last l.cfg.station = true := by
        rw [hgoes _ (by simpa using hin')]
        exact hgo
      exact k.shows n l hl' hin' hgo' hbefore hafter (h.evolves.enabled.trans hs) he

theorem State.judges_all {is : List StationId} (his : is.Nodup) (s : State) :
    s.Judges s.sweep.lastStation is (is.foldl (fun s i => s.judgeStation i) s) := by
  induction is generalizing s with
  | nil => exact ⟨fun j => by simp, ⟨rfl, rfl, rfl, rfl, rfl, rfl, rfl⟩, ⟨rfl, rfl⟩, rfl, id, .rfl⟩
  | cons i is ih =>
    obtain ⟨hi, his⟩ := List.nodup_cons.mp his
    have hone := State.judges_judgeStation i s
    have hrest := ih his (s.judgeStation i)
    rw [hone.beyond.2.1] at hrest
    exact hone.trans hi hrest

theorem State.judgesLoads_all {is : List StationId} (his : is.Nodup) {s : State} (hp : s.plant.sound)
    (hplaced : s.plant.placed) :
    s.JudgesLoads s.sweep.lastStation is (is.foldl (fun s i => s.judgeStation i) s) := by
  induction is generalizing s with
  | nil => exact ⟨State.judges_all his s, (Plant.Loses.rfl hp).congr fun j => by simp, fun n l hl hin => absurd hin (by simp)⟩
  | cons i is ih =>
    obtain ⟨hi, his⟩ := List.nodup_cons.mp his
    have hone := State.judgesLoads_judgeStation hp hplaced i
    have hrest := ih his hone.loses.sound (hone.loses.placed hplaced)
    rw [hone.beyond.2.1] at hrest
    exact hone.trans hi hrest

theorem mem_stationIds (i : StationId) : i ∈ stationIds := by
  unfold stationIds
  fin_cases i <;> simp

theorem stationIds_nodup : stationIds.Nodup := by decide +kernel

/-- The state in which a round's stations are judged (R126). It is not to be unfolded station by station. -/
@[irreducible] def State.roundJudged (s : State) : State :=
  stationIds.foldl (fun s i => s.judgeStation i) (s.setSweep Sweep.takePending)

/-- The state in which a round starts, before its first slot (R126). -/
def State.roundOpened (s : State) : State := s.roundJudged.flagRound (fun _ => .clear)

/-- The first slot of a round begins: that of the lowest station to be visited, or the round's one empty slot (R127). -/
def State.firstSlot (s : State) : State :=
  match s.nextVisit 0 with
  | some i => s.beginVisit i
  | none => s.setSweep (fun w => { w with line := .emptySlot })

theorem State.startRound_eq (s : State) : s.startRound = s.roundOpened.firstSlot := by
  unfold State.startRound State.roundOpened State.roundJudged
  dsimp only
  split
  · next i h => rw [State.firstSlot, h]
  · next h => rw [State.firstSlot, h]

theorem State.firstSlot_setSweep (s : State) :
    ∃ line : LinePhase, s.firstSlot = s.setSweep (fun w => { w with line }) := by
  unfold State.firstSlot
  split
  · exact ⟨.slot (s.visitOf _), rfl⟩
  · exact ⟨.emptySlot, rfl⟩

theorem State.judges_round (s : State) :
    (s.setSweep Sweep.takePending).Judges (s.sweep.pendingLast.getD s.sweep.lastStation) stationIds s.roundJudged := by
  unfold State.roundJudged
  exact State.judges_all stationIds_nodup (s.setSweep Sweep.takePending)

theorem State.judgesLoads_round (hp : s.plant.sound) (hplaced : s.plant.placed) :
    (s.setSweep Sweep.takePending).JudgesLoads (s.sweep.pendingLast.getD s.sweep.lastStation) stationIds s.roundJudged := by
  unfold State.roundJudged
  exact State.judgesLoads_all (s := s.setSweep Sweep.takePending) stationIds_nodup hp hplaced

end

end Sys2Proof.Machine
end

section
/-!
PROOFS. Rounds (R122, R126, R127): which station is visited next, what the start of a round leaves, and the statements
about round starts and the loads they take from excluded stations.
-/

namespace Sys2Proof.Machine

/-! ## The next visit (R127) -/

theorem stationIds_ascending : stationIds.Pairwise (· < ·) := by decide +kernel

theorem State.nextVisit_some {s : State} {first : Nat} {i : StationId} (h : s.nextVisit first = some i) :
    first ≤ i.val ∧ s.isVisited i = true ∧ ∀ j : StationId, first ≤ j.val → j < i → s.isVisited j = false := by
  obtain ⟨hi, before, after, hsplit, hbefore⟩ := List.find?_eq_some_iff_append.mp h
  rw [Bool.and_eq_true, decide_eq_true_iff] at hi
  refine ⟨hi.1, hi.2, fun j hfirst hj => ?_⟩
  have hmem := mem_stationIds j
  have hpairs := stationIds_ascending
  rw [hsplit, List.pairwise_append, List.pairwise_cons] at hpairs
  rw [hsplit, List.mem_append, List.mem_cons] at hmem
  rcases hmem with hmem | rfl | hmem
  · simpa [hfirst] using hbefore j hmem
  · exact absurd hj (lt_irrefl _)
  · exact absurd hj (not_lt_of_gt (hpairs.2.1.1 j hmem))

theorem State.nextVisit_none {s : State} {first : Nat} : s.nextVisit first = none ↔
    ∀ j : StationId, first ≤ j.val → s.isVisited j = false := by
  rw [State.nextVisit, List.find?_eq_none]
  constructor
  · intro h j hj
    simpa [hj] using h j (mem_stationIds j)
  · intro h j _
    rw [Bool.and_eq_true, decide_eq_true_iff]
    rintro ⟨hj, hvisited⟩
    rw [h j hj] at hvisited
    exact absurd hvisited nofun

/-! ## The start of a round (R126) -/

/-- A round start depends on the stations, the round number and the digest before it, and on stations and sweep record
after it. -/
theorem roundBegins_congr {last : Nat} {s s' t t' : State} (h : roundBegins last s t)
    (hstations : s'.plant.stations = s.plant.stations) (hround : s'.sweep.roundNumber = s.sweep.roundNumber)
    (hdigest : s'.sweep.digest = s.sweep.digest) (hplant : t'.plant = t.plant) (hsweep : t'.sweep = t.sweep) :
    roundBegins last s' t' := by
  have hstation (i : StationId) : s'.station i = s.station i := Plant.station_of_stations hstations i
  have hstation' (i : StationId) : t'.station i = t.station i := by rw [State.station, hplant]; rfl
  have hvisited (i : StationId) : t'.isVisited i = t.isVisited i := by
    simp only [State.isVisited, hstation', hsweep]
  have hvisit (i : StationId) : t'.visitOf i = t.visitOf i := by
    simp only [State.visitOf, hstation']
  obtain ⟨h1, h2, h3, h4, h5, h6, h7⟩ := h
  refine ⟨hsweep ▸ h1, hsweep ▸ h2, hsweep ▸ h3, ?_, ?_, fun i => ?_, ?_⟩
  · rw [hsweep, h4, hround]
  · rw [hsweep, h5, hdigest]
  · rw [hstation, hstation']
    exact h6 i
  · rw [hsweep]
    cases hline : t.sweep.line with
    | slot v =>
      rw [hline] at h7
      simp only [hvisited, hvisit]
      exact h7
    | emptySlot =>
      rw [hline] at h7
      simp only [hvisited]
      exact h7
    | _ =>
      rw [hline] at h7
      exact h7

theorem State.roundOpened_sweep (s : State) :
    s.roundOpened.sweep = { s.sweep.takePending with flags := .clear } := by
  have hsweep := (State.judges_round s).beyond.2.1
  rw [State.roundOpened, State.flagRound_sweep, hsweep]
  rfl

theorem State.roundOpened_station (s : State) (i : StationId) :
    s.roundOpened.station i = (s.station i).judged (s.sweep.pendingLast.getD s.sweep.lastStation) i := by
  have hstation := (State.judges_round s).stations i
  rw [if_pos (mem_stationIds i)] at hstation
  exact hstation

theorem Station.judged_link {last : Nat} {i : StationId} (st : Station) :
    if st.enabled = true ∧ i.val < last then
      if st.link = .excluded then (st.judged last i).link = .unheard ∧ (st.judged last i).misses = 0
      else (st.judged last i).link = st.link ∧ (st.judged last i).misses = st.misses
    else (st.judged last i).link = .excluded ∧ (st.judged last i).misses = st.misses := by
  unfold Station.judged
  split
  · split
    · exact ⟨rfl, rfl⟩
    · exact ⟨rfl, rfl⟩
  · split
    · next h => exact ⟨h, rfl⟩
    · exact ⟨rfl, rfl⟩

theorem State.firstSlot_line (s : State) :
    match s.firstSlot.sweep.line with
    | .slot v => s.isVisited v.station = true ∧ (∀ j : StationId, j < v.station → s.isVisited j = false) ∧
        v = s.visitOf v.station
    | .emptySlot => ∀ j : StationId, s.isVisited j = false
    | _ => False := by
  unfold State.firstSlot
  cases h : s.nextVisit 0 with
  | none => exact fun j => State.nextVisit_none.mp h j (Nat.zero_le _)
  | some i =>
    obtain ⟨-, hvisited, hbefore⟩ := State.nextVisit_some h
    exact ⟨hvisited, fun j => hbefore j (Nat.zero_le _), rfl⟩

theorem State.startRound_begins (s : State) :
    roundBegins (s.sweep.pendingLast.getD s.sweep.lastStation) s s.startRound := by
  obtain ⟨line, hline⟩ := s.roundOpened.firstSlot_setSweep
  have hslot := s.roundOpened.firstSlot_line
  rw [State.startRound_eq]
  rw [hline] at hslot ⊢
  have hsweep := s.roundOpened_sweep
  refine ⟨?_, ?_, ?_, ?_, ?_, fun i => ?_, hslot⟩
  · rw [State.setSweep_sweep, hsweep]
    rfl
  · rw [State.setSweep_sweep, hsweep]
    rfl
  · rw [State.setSweep_sweep, hsweep]
  · rw [State.setSweep_sweep, hsweep]
    rfl
  · rw [State.setSweep_sweep, hsweep]
    rfl
  · have hstation : (s.roundOpened.setSweep (fun w => { w with line })).station i = _ := s.roundOpened_station i
    rw [hstation]
    exact Station.judged_link (s.station i)

theorem State.startRound_sweep (s : State) :
    s.startRound.sweep = { s.sweep.takePending with flags := .clear, line := s.startRound.sweep.line } := by
  obtain ⟨line, hline⟩ := s.roundOpened.firstSlot_setSweep
  rw [State.startRound_eq, hline, State.setSweep_sweep, s.roundOpened_sweep]

theorem State.startRound_plant (s : State) : s.startRound.plant = s.roundJudged.plant := by
  obtain ⟨line, hline⟩ := s.roundOpened.firstSlot_setSweep
  rw [State.startRound_eq, hline]
  rfl

theorem State.startRound_alerts (s : State) : s.startRound.alerts = s.roundJudged.alerts := by
  obtain ⟨line, hline⟩ := s.roundOpened.firstSlot_setSweep
  rw [State.startRound_eq, hline]
  rfl

theorem State.startRound_beyond (s : State) :
    s.startRound.calendar = s.calendar ∧ s.startRound.assent = s.assent ∧ s.startRound.link = s.link ∧
      s.startRound.inReset = s.inReset ∧ s.startRound.draws = s.draws ∧ s.startRound.pending = s.pending := by
  obtain ⟨line, hline⟩ := s.roundOpened.firstSlot_setSweep
  obtain ⟨hcalendar, -, hassent, hlink, hreset, hdraws, hpending⟩ := (State.judges_round s).beyond
  rw [State.startRound_eq, hline]
  exact ⟨hcalendar, hassent, hlink, hreset, hdraws, hpending⟩

/-! ## START_SWEEP and PAUSE_END (R122, R134) -/

theorem exec_startSweep (tag : Byte) (mode last : Nat) (s : State) :
    exec (.startSweep tag mode last) s = execStartSweep tag mode last s := rfl

theorem exec_pauseEnd (s : State) : exec .pauseEnd s = execPauseEnd s := rfl

theorem startMode?_code {m : SweepMode} (hm : m ≠ .stopped) : startMode? m.code = some m := by
  cases m with
  | stopped => exact absurd rfl hm
  | continuous => rfl
  | single => rfl

theorem startMode?_eq_none {mode : Nat} (h : ¬(1 ≤ mode ∧ mode ≤ 2)) : startMode? mode = none := by
  unfold startMode?
  split
  · exact absurd ⟨by decide, by decide⟩ h
  · exact absurd ⟨by decide, by decide⟩ h
  · rfl

theorem doStartSweep_range {mode last : Nat} (h : ¬(1 ≤ mode ∧ mode ≤ 2 ∧ 1 ≤ last ∧ last ≤ 40)) (s : State) :
    doStartSweep mode last s = s.refuse .range := by
  by_cases hmode : 1 ≤ mode ∧ mode ≤ 2
  · have hlast : ¬within 1 Config.stationCount last = true := by
      rw [within_iff]
      exact fun h' => h ⟨hmode.1, hmode.2, h'⟩
    simp only [doStartSweep]
    split
    · rfl
    · rw [if_pos hlast]
  · rw [doStartSweep, startMode?_eq_none hmode]

/-- The sweep is about to start in STOPPED (R122). -/
def State.starting (m : SweepMode) (last : Nat) (s : State) : State :=
  s.setSweep (fun w => { w with mode := m, lastStation := last })

/-- START SWEEP within its ranges, by the mode (R122). -/
theorem doStartSweep_inRange {m : SweepMode} (hm : m ≠ .stopped) {last : Nat} (h1 : 1 ≤ last) (h40 : last ≤ 40) (s : State) :
    doStartSweep m.code last s =
      match s.sweep.mode with
      | .stopped => (s.starting m last).startRound.accept
      | .continuous =>
        if m = .continuous then (s.setSweep (fun w => { w with pendingLast := some last })).accept else s.refuse .busy
      | .single => s.refuse .busy := by
  have hlast : ¬¬within 1 Config.stationCount last = true := not_not.mpr (within_iff.mpr ⟨h1, h40⟩)
  rw [doStartSweep, startMode?_code hm]
  dsimp only
  rw [if_neg hlast]
  rfl

theorem SweepMode.exists_code {mode : Nat} (h1 : 1 ≤ mode) (h2 : mode ≤ 2) : ∃ m : SweepMode, m ≠ .stopped ∧ mode = m.code := by
  interval_cases mode
  · exact ⟨.continuous, nofun, rfl⟩
  · exact ⟨.single, nofun, rfl⟩

theorem State.accept_fst (s : State) : s.accept.1 = s := rfl

theorem State.starting_last {s : State} (m : SweepMode) (last : Nat) (h : s.sweep.pendingLast = none) :
    (s.starting m last).sweep.pendingLast.getD (s.starting m last).sweep.lastStation = last := by
  rw [show (s.starting m last).sweep.pendingLast = none from h]
  rfl

/-- States with the same blocks agree in each of them. -/
theorem State.parts_of_blocks {s t : State} (h : t.blocks = s.blocks) : t.plant = s.plant ∧ t.calendar = s.calendar ∧
    t.sweep = s.sweep ∧ t.assent = s.assent ∧ t.alerts = s.alerts :=
  ⟨congrArg Blocks.plant h, congrArg Blocks.calendar h, congrArg Blocks.sweep h, congrArg Blocks.assent h,
    congrArg Blocks.alerts h⟩

theorem exec_startSweep_stopped {s : State} (hready : s.ready) (tag : Byte) {m : SweepMode} (hm : m ≠ .stopped) {last : Nat}
    (h1 : 1 ≤ last) (h40 : last ≤ 40) (hmode : s.sweep.mode = .stopped) :
    ∃ f t, exec (.startSweep tag m.code last) s = .next t ∧ t.answers 14 tag .done [] ∧
      t.blocks = (((s.holding f).starting m last).startRound).blocks := by
  rw [exec_startSweep, execStartSweep]
  obtain ⟨t, ht, hblocks, hanswers, -⟩ :=
    s.perform_request hready { kind := 14, tag, payload := [b8 m.code, b8 last] } (doStartSweep m.code last)
  refine ⟨{ kind := 14, tag, payload := [b8 m.code, b8 last] }, t, ht, ?_, ?_⟩
  · rw [doStartSweep_inRange hm h1 h40, State.holding_sweep, hmode] at hanswers
    exact hanswers
  · rw [doStartSweep_inRange hm h1 h40, State.holding_sweep, hmode] at hblocks
    dsimp only at hblocks
    rwa [State.accept_fst] at hblocks

theorem exec_pauseEnd_pausing {s : State} (hout : s.inReset = false) (hline : s.sweep.line = .pausing) :
    exec .pauseEnd s = .next s.endPause.settlePins := by
  rw [exec_pauseEnd, execPauseEnd, State.perform_out hout, hline]

theorem State.endPause_startRound {s : State} (hmode : s.sweep.mode = .continuous) (hstop : s.sweep.stopRequested = false) :
    s.endPause = s.startRound := by
  unfold State.endPause
  rw [hmode]
  dsimp only
  exact if_neg (by simp [hstop])

theorem State.startRound_calendar (s : State) : s.startRound.calendar = s.calendar := s.startRound_beyond.1

theorem State.startRound_assent (s : State) : s.startRound.assent = s.assent := s.startRound_beyond.2.1

theorem State.startRound_link (s : State) : s.startRound.link = s.link := s.startRound_beyond.2.2.1

theorem State.startRound_mode (s : State) : s.startRound.sweep.mode = s.sweep.mode ∧
    s.startRound.sweep.stopRequested = s.sweep.stopRequested ∧ s.startRound.sweep.rate = s.sweep.rate ∧
    s.startRound.sweep.pause = s.sweep.pause := by
  rw [s.startRound_sweep]
  exact ⟨rfl, rfl, rfl, rfl⟩

/-- Settles O22: the three refusals are tables of the mode; a round start is `startRound_begins`. -/
theorem roundsStart : Obligations.RoundsStart := by
  intro s hout
  refine ⟨fun tag mode last hlink => ?_, fun hline hmode hstop => ?_⟩
  · have hready : s.ready := ⟨hout, hlink⟩
    refine ⟨fun hrange => ?_, fun h1 h40 => ⟨?_, ?_, ?_⟩⟩
    · exact s.perform_refused hready _ _ .range (doStartSweep_range hrange _)
    · rintro m hm rfl hmode hpending
      obtain ⟨f, t, ht, hanswers, hblocks⟩ := exec_startSweep_stopped hready tag hm h1 h40 hmode
      obtain ⟨hplant, hcalendar, hsweep, hassent, -⟩ := State.parts_of_blocks hblocks
      obtain ⟨htmode, htstop, htrate, htpause⟩ := ((s.holding f).starting m last).startRound_mode
      have hbegins := ((s.holding f).starting m last).startRound_begins
      rw [State.starting_last (s := s.holding f) m last hpending] at hbegins
      refine ⟨t, ht, hanswers, (congrArg Sweep.mode hsweep).trans htmode, roundBegins_congr hbegins rfl rfl rfl hplant hsweep,
        (congrArg Sweep.stopRequested hsweep).trans htstop, (congrArg Sweep.rate hsweep).trans htrate,
        (congrArg Sweep.pause hsweep).trans htpause, hcalendar.trans (State.startRound_calendar _),
        hassent.trans (State.startRound_assent _)⟩
    · rintro rfl hmode
      obtain ⟨t, ht, hblocks, hanswers, -⟩ := s.perform_request hready
        { kind := 14, tag, payload := [b8 SweepMode.continuous.code, b8 last] }
        (doStartSweep SweepMode.continuous.code last)
      rw [doStartSweep_inRange (m := .continuous) (by decide) h1 h40, State.holding_sweep, hmode] at hblocks hanswers
      exact ⟨t, ht, hanswers, hblocks⟩
    · intro hmode1 hmode2 hbusy
      obtain ⟨m, hm, rfl⟩ := SweepMode.exists_code hmode1 hmode2
      refine s.perform_refused hready _ _ .busy ?_
      rw [doStartSweep_inRange hm h1 h40, State.holding_sweep]
      rcases hbusy with hmode | ⟨hcode, hmode⟩
      · rw [hmode]
      · rw [hmode]
        refine if_neg fun hc => ?_
        rw [hc] at hcode
        exact absurd hcode (by decide)
  · obtain ⟨htmode, htstop, htrate, htpause⟩ := s.startRound_mode
    refine ⟨s.startRound.settlePins, ?_, ?_⟩
    · rw [exec_pauseEnd_pausing hout hline, State.endPause_startRound hmode hstop]
    · have hbegins := s.startRound_begins
      have hcalendar := s.startRound_calendar
      have hassent := s.startRound_assent
      have hlink := s.startRound_link
      generalize s.startRound = r at *
      exact ⟨htmode.trans hmode, htstop.trans hstop, hbegins, htrate, htpause, hcalendar, hassent, hlink⟩

/-! ## The loads of the stations that go (R24, R110) -/

/-- What O25 says of a step by which these stations go, besides the notices, the fault count and the stations' link. -/
structure State.StationsGo (gone : StationId → Bool) (s t : State) : Prop where
  loads : ∀ n l, s.load? n = some l → t.load? n = some (if gone l.cfg.station = true then l.afterLoss else l)
  unbound : ∀ n, s.load? n = none → t.load? n = none
  feeders : ∀ i : FeederId, t.plant.feeder i = { s.plant.feeder i with
    queue := (s.plant.feeder i).queue.filter (fun e => !(s.load? e.load).any (fun l => gone l.cfg.station)) }

theorem Plant.Loses.stationsGo {gone : StationId → Bool} {s t : State} (h : s.plant.Loses gone t.plant) :
    s.StationsGo gone t := by
  refine ⟨fun n l hl => ?_, fun n hn => ?_, h.feeders⟩
  · exact (h.load? n).trans (by rw [show s.plant.load? n = some l from hl]; rfl)
  · exact (h.load? n).trans (by rw [show s.plant.load? n = none from hn]; rfl)

theorem State.goes_of_stationIds {last : Nat} {s : State} (i : StationId) :
    (stationIds.contains i && s.goes last i) = s.goes last i := by
  rw [List.contains_iff_mem.mpr (mem_stationIds i), Bool.true_and]

theorem State.roundJudged_station_order (s : State) (i : StationId) :
    (s.roundJudged.station i).slot =
        (if s.goes (s.sweep.pendingLast.getD s.sweep.lastStation) i = true then none else (s.station i).slot) ∧
      (s.roundJudged.station i).restartNoted =
        (if s.goes (s.sweep.pendingLast.getD s.sweep.lastStation) i = true then false else (s.station i).restartNoted) := by
  have hstation : s.roundJudged.station i = _ := s.roundOpened_station i
  rw [hstation]
  unfold Station.judged State.goes
  by_cases hstands : (s.station i).enabled = true ∧ i.val < s.sweep.pendingLast.getD s.sweep.lastStation
  · by_cases hlink : (s.station i).link = .excluded <;> simp [hstands, hlink]
  · have hgo : ((s.station i).enabled && decide (i.val < s.sweep.pendingLast.getD s.sweep.lastStation)) = false := by
      rwa [← Bool.not_eq_true, Bool.and_eq_true, decide_eq_true_iff]
    by_cases hlink : (s.station i).link = .excluded <;> simp [hstands, hlink, hgo]

/-- A round start by START_SWEEP or by PAUSE_END: the state whose round starts has the plant and alert block of the
state before, and the last station that is then in force. -/
theorem exec_roundStart {s : State} {c : Instr} {last : Nat} (hout : s.inReset = false)
    (hc : (∃ (tag : Byte) (m : SweepMode), c = .startSweep tag m.code last ∧ m ≠ .stopped ∧ s.link.reply = none ∧ 1 ≤ last ∧
        last ≤ 40 ∧ s.sweep.mode = .stopped ∧ s.sweep.pendingLast = none) ∨
      (c = .pauseEnd ∧ s.sweep.line = .pausing ∧ s.sweep.mode = .continuous ∧ s.sweep.stopRequested = false ∧
        last = s.sweep.pendingLast.getD s.sweep.lastStation)) :
    ∃ r t : State, exec c s = .next t ∧ r.plant = s.plant ∧ r.alerts = s.alerts ∧
      r.sweep.pendingLast.getD r.sweep.lastStation = last ∧ t.plant = r.roundJudged.plant ∧
      t.alerts = r.roundJudged.alerts := by
  rcases hc with ⟨tag, m, rfl, hm, hlink, h1, h40, hmode, hpending⟩ | ⟨rfl, hline, hmode, hstop, rfl⟩
  · obtain ⟨f, t, ht, -, hblocks⟩ := exec_startSweep_stopped ⟨hout, hlink⟩ tag hm h1 h40 hmode
    obtain ⟨hplant, -, -, -, halerts⟩ := State.parts_of_blocks hblocks
    exact ⟨(s.holding f).starting m last, t, ht, rfl, rfl, State.starting_last (s := s.holding f) m last hpending,
      hplant.trans (State.startRound_plant _), halerts.trans (State.startRound_alerts _)⟩
  · refine ⟨s, s.startRound.settlePins, ?_, rfl, rfl, rfl, ?_, ?_⟩
    · rw [exec_pauseEnd_pausing hout hline, State.endPause_startRound hmode hstop]
    · exact (State.settlePins_plant _).trans s.startRound_plant
    · exact (State.settlePins_alerts _).trans s.startRound_alerts

theorem roundStart_movesTheLoads {s : State} {c : Instr} {last : Nat} (hout : s.inReset = false) (hp : s.plant.sound)
    (hplaced : s.plant.placed)
    (hc : (∃ (tag : Byte) (m : SweepMode), c = .startSweep tag m.code last ∧ m ≠ .stopped ∧ s.link.reply = none ∧ 1 ≤ last ∧
        last ≤ 40 ∧ s.sweep.mode = .stopped ∧ s.sweep.pendingLast = none) ∨
      (c = .pauseEnd ∧ s.sweep.line = .pausing ∧ s.sweep.mode = .continuous ∧ s.sweep.stopRequested = false ∧
        last = s.sweep.pendingLast.getD s.sweep.lastStation)) :
    ∃ t, exec c s = .next t ∧ s.StationsGo (s.goes last) t ∧
      (∀ i, (t.station i).slot = (if s.goes last i = true then none else (s.station i).slot) ∧
        (t.station i).restartNoted = (if s.goes last i = true then false else (s.station i).restartNoted)) ∧
      t.alerts = { s.alerts with queue := t.alerts.queue, beacon := t.alerts.beacon } ∧
      (t.alerts.beacon = true → s.alerts.beacon = true) ∧
      ∀ n l, s.load? n = some l → s.goes last l.cfg.station = true → l.state ≠ .offline → l.afterLoss.state = .offline →
        s.alerts.enabled = true → l.cfg.events.getLsbD 6 = true → t.alerts.shows (.load n) 6 := by
  obtain ⟨r, t, ht, hrplant, hralerts, hlast, hplant, halerts⟩ := exec_roundStart hout hc
  have hstation (i : StationId) : r.station i = s.station i := congrArg (Plant.station · i) hrplant
  have hgoes (i : StationId) : r.goes last i = s.goes last i := by
    rw [State.goes, State.goes, hstation]
  have hjudges := State.judgesLoads_round (s := r) (hrplant ▸ hp) (hrplant ▸ hplaced)
  rw [hlast] at hjudges
  have hloses : s.plant.Loses (s.goes last) t.plant := by
    rw [hplant, ← hrplant]
    exact (hjudges.loses.of_same rfl rfl).congr fun i => (State.goes_of_stationIds i).trans (hgoes i)
  refine ⟨t, ht, hloses.stationsGo, fun i => ?_, ?_, ?_, ?_⟩
  · have horder := r.roundJudged_station_order i
    rw [hlast, hgoes, hstation] at horder
    have htstation : t.station i = r.roundJudged.station i := congrArg (Plant.station · i) hplant
    rw [htstation]
    exact horder
  · rw [halerts, ← hralerts]
    exact hjudges.alerts
  · rw [halerts, ← hralerts]
    exact hjudges.beacon
  · intro n l hl hgo hbefore hafter hs he
    rw [halerts]
    have hin : stationIds.contains l.cfg.station = true := List.contains_iff_mem.mpr (mem_stationIds _)
    refine hjudges.shows n l ?_ hin ((hgoes _).trans hgo) hbefore hafter (hralerts ▸ hs) he
    exact (congrArg (Plant.load? · n) hrplant).trans hl

theorem loss_movesTheLoads {s : State} {v : Visit} {c : Instr} (hout : s.inReset = false) (hline : s.sweep.line = .slot v)
    (hp : s.plant.sound) (hplaced : s.plant.placed)
    (hlink : (s.station v.station).link = .live ∨ (s.station v.station).link = .suspect ∨
      (s.station v.station).link = .unheard) (hmisses : 2 ≤ (s.station v.station).misses) (hc : missesVisit v c) :
    ∃ t, exec c s = .next t ∧ (t.station v.station).link = .lost ∧ s.StationsGo (· == v.station) t ∧
      (t.station v.station).slot = none ∧ (t.station v.station).restartNoted = false ∧
      s.alerts.faultCounted t.alerts ∧
      (s.alerts.enabled = true → s.alerts.stationSet.getLsbD 0 = true → t.alerts.shows (.station v.station) 0) ∧
      ∀ n l, s.load? n = some l → l.cfg.station = v.station → l.state ≠ .offline → l.afterLoss.state = .offline →
        s.alerts.enabled = true → l.cfg.events.getLsbD 6 = true → t.alerts.shows (.load n) 6 := by
  have hnow : (s.station v.station).isLostNow := by
    have hcount : ¬(s.station v.station).missCount < 3 := by
      unfold Station.missCount
      omega
    rcases hlink with h | h | h <;> simp [Station.isLostNow, h, LinkState.afterMiss, hcount]
  have hself := State.miss_station_self v.station (s.setPhase v .over)
  rw [show (s.setPhase v .over).station v.station = s.station v.station from rfl, if_pos hnow] at hself
  refine ⟨_, exec_missesVisit hout hline hc, ?_, ?_, ?_, ?_, ?_, ?_, ?_⟩
  · exact (congrArg Station.link hself).trans hnow.1
  · have hloses := State.loses_miss (s := s.setPhase v .over) hp hplaced hnow
    exact Plant.Loses.stationsGo (s := s) (t := (s.missVisit v).settlePins) hloses
  · exact congrArg Station.slot hself
  · exact congrArg Station.restartNoted hself
  · exact State.miss_lost (s := s.setPhase v .over) hnow
  · exact State.miss_shows_lost (s := s.setPhase v .over) hnow
  · exact fun n l hl hstation hbefore hafter hs he =>
      State.miss_shows_offline (s := s.setPhase v .over) hnow hp hplaced hl hstation hbefore hafter hs he

/-- Settles O25. -/
theorem lossMovesTheLoads : Obligations.LossMovesTheLoads := by
  refine ⟨fun s v c hout hline hp hplaced hlink hmisses hc => ?_, fun s c last hout hp hplaced hc => ?_⟩
  · obtain ⟨t, ht, hlost, hgo, hslot, hnoted, hfaults, hshows, hoffline⟩ :=
      loss_movesTheLoads hout hline hp hplaced hlink hmisses hc
    refine ⟨t, ht, hlost, fun n l hl => ?_, hgo.unbound, hslot, hnoted, hgo.feeders, hfaults, hshows, hoffline⟩
    rw [hgo.loads n l hl]
    simp only [beq_iff_eq]
  · obtain ⟨t, ht, hgo, hstations, halerts, hbeacon, hshows⟩ := roundStart_movesTheLoads hout hp hplaced hc
    exact ⟨t, ht, hgo.loads, hgo.unbound, hstations, hgo.feeders, halerts, hbeacon, hshows⟩

end Sys2Proof.Machine
end

section
/-!
PROOFS. The ends of slots, rounds and pauses (R127, R130, R131, R133, R134). Line, pause and pins are read by no load
and no station, so judgements of stations commute with changes of them.
-/

namespace Sys2Proof.Machine

/-! ## Line, pause and pins -/

/-- The line, the pause and the pins are changed, and nothing else. -/
def State.relined (line : LinePhase) (pause : Nat) (pins : Pins) (s : State) : State :=
  { s with sweep := { s.sweep with line, pause }, pins }

section

variable (line : LinePhase) (pause : Nat) (pins : Pins) (s : State) (i : StationId) (n : Nat)

theorem State.relined_offer (enabled : Bool) (event : Notice) :
    (s.relined line pause pins).offer enabled event = (s.offer enabled event).relined line pause pins := by
  unfold State.offer
  rw [show (s.relined line pause pins).alerts = s.alerts from rfl]
  split
  · rfl
  · rfl

theorem State.relined_raiseLoad (e : LoadEvent) :
    (s.relined line pause pins).raiseLoad n e = (s.raiseLoad n e).relined line pause pins := by
  unfold State.raiseLoad
  rw [show (s.relined line pause pins).load? n = s.load? n from rfl]
  split
  · rfl
  · exact State.relined_offer line pause pins s _ _

theorem State.relined_raiseStation (e : StationEvent) :
    (s.relined line pause pins).raiseStation i e = (s.raiseStation i e).relined line pause pins :=
  State.relined_offer line pause pins s _ _

theorem State.relined_raiseDevice (e : DeviceEvent) :
    (s.relined line pause pins).raiseDevice e = (s.raiseDevice e).relined line pause pins :=
  State.relined_offer line pause pins s _ _

theorem State.relined_evaluateBeacon :
    (s.relined line pause pins).evaluateBeacon = s.evaluateBeacon.relined line pause pins := by
  unfold State.evaluateBeacon
  rw [show (s.relined line pause pins).noFaultStands = s.noFaultStands from rfl,
    show (s.relined line pause pins).alerts = s.alerts from rfl]
  split
  · rfl
  · rfl

theorem State.relined_onPlant (f : Plant → Plant) :
    (s.relined line pause pins).onPlant f = (s.onPlant f).relined line pause pins := rfl

theorem State.relined_setLoad (f : Load → Load) :
    (s.relined line pause pins).setLoad n f = (s.setLoad n f).relined line pause pins := rfl

theorem State.relined_loseStation :
    (s.relined line pause pins).loseStation n = (s.loseStation n).relined line pause pins := by
  unfold State.loseStation
  rw [show (s.relined line pause pins).load? n = s.load? n from rfl]
  cases s.load? n with
  | none => rfl
  | some l =>
    dsimp only
    simp only [State.relined_onPlant, State.relined_setLoad, State.relined_raiseLoad]
    split <;> rfl

theorem State.relined_dropStation :
    (s.relined line pause pins).dropStation i = (s.dropStation i).relined line pause pins := by
  have hfold (ns : List Nat) (s : State) : ns.foldl (fun s n => s.loseStation n) (s.relined line pause pins) =
      (ns.foldl (fun s n => s.loseStation n) s).relined line pause pins := by
    induction ns generalizing s with
    | nil => rfl
    | cons n ns ih => rw [List.foldl_cons, List.foldl_cons, State.relined_loseStation, ih]
  exact hfold ((s.onPlant (Plant.dropOrders i)).plant.loadsOf i)
    ((s.onPlant (Plant.dropOrders i)).setStation i (fun st => { st with restartNoted := false }))

theorem State.relined_miss : (s.relined line pause pins).miss i = (s.miss i).relined line pause pins := by
  have hmissed : (s.relined line pause pins).missed i = (s.missed i).relined line pause pins := rfl
  have hraised : ((s.relined line pause pins).missed i).lossRaised i = ((s.missed i).lossRaised i).relined line pause pins := by
    rw [hmissed, State.lossRaised, State.relined_raiseStation]
    rfl
  rw [State.miss_eq, State.miss_eq, show (s.relined line pause pins).station i = s.station i from rfl]
  split
  · rw [State.stationLost_eq, State.stationLost_eq, hraised, State.relined_dropStation]
  · rfl

theorem State.relined_exclude : (s.relined line pause pins).exclude i = (s.exclude i).relined line pause pins := by
  have hexcluding : (s.relined line pause pins).excluding i = (s.excluding i).relined line pause pins := rfl
  rw [State.exclude_eq, State.exclude_eq, hexcluding, State.relined_dropStation, State.relined_evaluateBeacon,
    show (s.relined line pause pins).station i = s.station i from rfl]
  split <;> rfl

theorem State.relined_judgeStation :
    (s.relined line pause pins).judgeStation i = (s.judgeStation i).relined line pause pins := by
  unfold State.judgeStation
  rw [show (s.relined line pause pins).station i = s.station i from rfl, State.relined_exclude,
    show (s.relined line pause pins).sweep.lastStation = s.sweep.lastStation from rfl]
  dsimp only
  split
  · split <;> rfl
  · split <;> rfl

theorem State.relined_roundJudged :
    (s.relined line pause pins).roundJudged = s.roundJudged.relined line pause pins := by
  have hfold (is : List StationId) (s : State) : is.foldl (fun s i => s.judgeStation i) (s.relined line pause pins) =
      (is.foldl (fun s i => s.judgeStation i) s).relined line pause pins := by
    induction is generalizing s with
    | nil => rfl
    | cons i is ih => rw [List.foldl_cons, List.foldl_cons, State.relined_judgeStation, ih]
  unfold State.roundJudged
  exact hfold stationIds (s.setSweep Sweep.takePending)

end

section

variable {line : LinePhase} {pins : Pins} {s : State} {v : Visit} {i : StationId}

/-- The state with other pins. -/
def State.withPins (pins : Pins) (s : State) : State := { s with pins }

theorem State.withPins_eq (pins : Pins) (s : State) : s.withPins pins = s.relined s.sweep.line s.sweep.pause pins := rfl

theorem State.firstSlot_withPins (s : State) : (s.withPins pins).firstSlot = s.firstSlot.withPins pins := by
  unfold State.firstSlot
  rw [show (s.withPins pins).nextVisit 0 = s.nextVisit 0 from rfl]
  split <;> rfl

theorem State.roundOpened_withPins (s : State) : (s.withPins pins).roundOpened = s.roundOpened.withPins pins := by
  have hsweep : s.roundJudged.sweep = s.sweep.takePending := (State.judges_round s).beyond.2.1
  have hline : s.roundJudged.sweep.line = s.sweep.line := by rw [hsweep]; rfl
  have hpause : s.roundJudged.sweep.pause = s.sweep.pause := by rw [hsweep]; rfl
  rw [State.roundOpened, State.withPins_eq, State.relined_roundJudged, ← hline, ← hpause]
  rfl

theorem State.startRound_withPins (s : State) : (s.withPins pins).startRound = s.startRound.withPins pins := by
  rw [State.startRound_eq, State.startRound_eq, State.roundOpened_withPins, State.firstSlot_withPins]

theorem State.raiseDevice_withPins (e : DeviceEvent) (s : State) :
    (s.withPins pins).raiseDevice e = (s.raiseDevice e).withPins pins := by
  rw [State.withPins_eq, State.relined_raiseDevice, State.withPins_eq, State.raiseDevice_sweep]

theorem State.endPause_withPins (s : State) : (s.withPins pins).endPause = s.endPause.withPins pins := by
  unfold State.endPause
  rw [State.startRound_withPins, show (s.withPins pins).sweep = s.sweep from rfl]
  split
  · split <;> rfl
  · exact State.raiseDevice_withPins _ (s.setSweep Sweep.stopped)
  · rfl

theorem State.settlePins_withPins (s : State) : (s.withPins pins).settlePins = s.settlePins := rfl

/-! ## The end of a round (R133, R134) -/

/-- The round has ended and its pause begins (R133). -/
def State.roundEnded (s : State) : State :=
  ((s.setSweep (fun w =>
    { w with digest := { flags := w.flags, activity := s.plant.activity, parked := s.plant.parkedCount,
                         round := w.roundNumber } })).raiseDevice .digest).setSweep
    (fun w => { w with roundNumber := (w.roundNumber + 1) % 65536, line := .pausing })

theorem State.endRound_eq (s : State) :
    s.endRound = if s.sweep.pause = 0 then s.roundEnded.endPause else s.roundEnded := by
  have hpause : s.roundEnded.sweep.pause = s.sweep.pause := by simp [State.roundEnded]
  rw [← hpause]
  rfl

theorem exec_slotEnd (s : State) : exec .slotEnd s = s.perform State.endSlot := rfl

/-- The round is at its end: its empty slot is over, or a visit with no further one above it. -/
abbrev State.lastSlotOver (s : State) : Prop :=
  s.sweep.line = .emptySlot ∨
    ∃ v, s.sweep.line = .slot v ∧ v.phase = .over ∧ ∀ j : StationId, v.station < j → s.isVisited j = false

theorem State.endSlot_over (hline : s.sweep.line = .slot v) (hover : v.phase = .over) :
    s.endSlot = match s.nextVisit (v.station.val + 1) with
      | some i => s.beginVisit i
      | none => s.endRound := by
  rw [State.endSlot, hline]
  dsimp only
  rw [if_pos hover] <;> rfl

theorem State.endSlot_of_lastSlotOver (h : s.lastSlotOver) : s.endSlot = s.endRound := by
  rcases h with hline | ⟨v, hline, hover, hnone⟩
  · rw [State.endSlot, hline]
  · have hnext : s.nextVisit (v.station.val + 1) = none := State.nextVisit_none.mpr fun j hj => hnone j hj
    rw [State.endSlot_over hline hover, hnext]

theorem State.endSlot_idle (h : s.sweep.line = .pausing ∨ s.sweep.line = .idle) : s.endSlot = s := by
  rcases h with hline | hline <;> rw [State.endSlot, hline]

theorem exec_pauseEnd_other (hout : s.inReset = false) (hline : s.sweep.line ≠ .pausing) :
    exec .pauseEnd s = .next s.settlePins := by
  rw [exec_pauseEnd, execPauseEnd, State.perform_out hout]
  split
  · next h => exact absurd h hline
  · rfl

theorem Plant.activity_eq (p : Plant) : p.activity = ((p.loads.filter (fun l =>
    l.state == .active || l.state == .idling || l.state == .parkPending)).map Load.reported).sum := by
  have hfold (ls : List Load) (n : Nat) : ls.foldl (fun sum l => if l.isAssessed then sum + l.reported else sum) n =
      n + ((ls.filter Load.isAssessed).map Load.reported).sum := by
    induction ls generalizing n with
    | nil => rfl
    | cons l ls ih =>
      rw [List.foldl_cons, ih, List.filter_cons]
      split
      · rw [List.map_cons, List.sum_cons, Nat.add_assoc]
      · rfl
  have hassessed : Load.isAssessed = fun l => l.state == .active || l.state == .idling || l.state == .parkPending := by
    funext l
    unfold Load.isAssessed
    cases l.state <;> rfl
  rw [Plant.activity, hfold, Nat.zero_add, hassessed]

theorem State.raiseDevice_setSweep (f : Sweep → Sweep) (e : DeviceEvent) (s : State) :
    (s.setSweep f).raiseDevice e = (s.raiseDevice e).setSweep f := by
  unfold State.raiseDevice State.raiseDeviceWith State.offer
  rw [show (s.setSweep f).alerts = s.alerts from rfl]
  split <;> rfl

theorem State.raiseDevice_blocks (e : DeviceEvent) (s : State) :
    (s.raiseDevice e).blocks = { s.blocks with alerts := (s.raiseDevice e).alerts } :=
  (s.raiseDeviceWith_onlyNotices 0 0 e).blocks

theorem State.setSweep_blocks (f : Sweep → Sweep) (s : State) :
    (s.setSweep f).blocks = { s.blocks with sweep := f s.sweep } := rfl

theorem State.roundEnded_eq (s : State) : s.roundEnded = (s.raiseDevice .digest).setSweep (fun w =>
    { w with
      digest := { flags := w.flags, activity := s.plant.activity, parked := s.plant.parkedCount, round := w.roundNumber }
      roundNumber := (w.roundNumber + 1) % 65536
      line := .pausing }) := by
  rw [State.roundEnded, State.raiseDevice_setSweep]
  rfl

theorem State.endPause_stopped (hmode : s.sweep.mode = .single ∨ (s.sweep.mode = .continuous ∧ s.sweep.stopRequested = true)) :
    s.endPause = (if s.sweep.mode = .single then s.raiseDevice .sweepDone else s).setSweep Sweep.stopped := by
  rcases hmode with hmode | ⟨hmode, hstop⟩
  · rw [State.endPause, hmode]
    exact State.raiseDevice_setSweep _ _ _
  · rw [State.endPause, hmode]
    dsimp only
    rw [if_pos hstop]
    rfl

theorem State.roundEnded_relined (line : LinePhase) (pause : Nat) (pins : Pins) (s : State) :
    (s.relined line pause pins).roundEnded = s.roundEnded.relined .pausing pause pins := by
  rw [State.roundEnded_eq, State.roundEnded_eq, State.relined_raiseDevice]
  rfl

theorem State.roundEnded_pause (s : State) : s.roundEnded.sweep.pause = s.sweep.pause := by
  rw [State.roundEnded_eq, State.setSweep_sweep, State.raiseDevice_sweep]

theorem State.roundEnded_relined_pause (pins : Pins) (s : State) :
    s.roundEnded.relined .pausing s.sweep.pause pins = s.roundEnded.withPins pins := by
  rw [State.withPins_eq, State.roundEnded_pause]
  rfl

theorem State.endRound_relined (line : LinePhase) (pins : Pins) (s : State) :
    (s.relined line s.sweep.pause pins).endRound = s.endRound.withPins pins := by
  rw [State.endRound_eq, State.endRound_eq, State.roundEnded_relined, State.roundEnded_relined_pause,
    State.endPause_withPins]
  change (if s.sweep.pause = 0 then _ else _) = _
  split <;> rfl

/-- The end of the slot of a missed visit is the end of the slot of a visit that is over (R130, R131). -/
theorem State.endSlot_missed (hline : s.sweep.line = .slot v) (hphase : v.phase ≠ .over) (pins : Pins) :
    (((s.miss v.station).relined (.slot { v with phase := .over }) s.sweep.pause pins).endSlot).settlePins =
      s.endSlot.settlePins := by
  have hpause : s.sweep.pause = (s.miss v.station).sweep.pause := by rw [State.miss_sweep]
  rw [State.endSlot_over rfl rfl, State.endSlot, hline]
  dsimp only
  rw [if_neg hphase, hpause]
  generalize s.miss v.station = q
  rw [show (q.relined (.slot { v with phase := .over }) q.sweep.pause pins).nextVisit (v.station.val + 1) =
    q.nextVisit (v.station.val + 1) from rfl]
  cases q.nextVisit (v.station.val + 1)
  case some i => rfl
  case none =>
    dsimp only
    rw [State.endRound_relined]
    rfl

/-- Settles O23. -/
theorem slotsAndRoundsEnd : Obligations.SlotsAndRoundsEnd := by
  intro s hout
  refine ⟨fun v i hline hover hnext => ?_, fun hlast hpause => ?_, fun hline hmode => ?_, fun hline => ?_,
    fun hline => ?_, fun v hline hphase => ?_, fun hlast hpause => ?_⟩
  · obtain ⟨hlt, hvisited, hbefore⟩ := State.nextVisit_some hnext
    refine ⟨(s.beginVisit i).settlePins, ?_, rfl, hlt, hvisited, fun j hj => hbefore j hj, rfl⟩
    rw [exec_slotEnd, State.perform_out hout, State.endSlot_over hline hover, hnext]
  · refine ⟨s.roundEnded.settlePins, ?_, ?_, ?_, ?_, ?_⟩
    · rw [exec_slotEnd, State.perform_out hout, State.endSlot_of_lastSlotOver hlast, State.endRound_eq,
        if_neg (Nat.ne_of_gt hpause)]
    · rw [State.settlePins_link, State.roundEnded_eq, State.setSweep_link, State.raiseDevice_link]
    · rw [State.settlePins_alerts, State.roundEnded_eq, State.setSweep_alerts]
      exact s.raiseDeviceWith_alerts 0 0 .digest
    · rw [State.settlePins_alerts, State.roundEnded_eq, State.setSweep_alerts]
    · rw [State.settlePins_alerts, show s.roundEnded.settlePins.blocks = s.roundEnded.blocks from rfl,
        State.roundEnded_eq, State.setSweep_alerts,
        State.setSweep_blocks, State.raiseDevice_blocks, State.raiseDevice_sweep, Plant.activity_eq]
      rfl
  · refine ⟨s.endPause.settlePins, exec_pauseEnd_pausing hout hline, ?_, ?_, ?_, ?_⟩
    all_goals rw [State.endPause_stopped hmode]
    · change State.link (ite _ _ _) = _
      split
      · exact State.raiseDevice_link _ _
      · rfl
    · change Alerts.sameButQueue _ (State.alerts (ite _ _ _))
      split
      · exact s.raiseDeviceWith_alerts 0 0 .sweepDone
      · rfl
    · rfl
    · rw [State.settlePins_alerts, State.setSweep_alerts]
      change ((ite _ _ _ : State).setSweep Sweep.stopped).blocks = _
      rw [State.setSweep_blocks]
      split
      · rw [State.raiseDevice_blocks, State.raiseDevice_sweep]
        rfl
      · rfl
  · exact ⟨s.settlePins, by rw [exec_slotEnd, State.perform_out hout, State.endSlot_idle hline], rfl, rfl⟩
  · exact ⟨s.settlePins, exec_pauseEnd_other hout hline, rfl, rfl⟩
  · refine ⟨_, exec_missesVisit (v := { v with phase := .receiving }) hout rfl (.inr (.inl ⟨rfl, .inr rfl⟩)), ?_⟩
    have hmiss := State.relined_miss (.slot { v with phase := .over }) s.sweep.pause s.pins s v.station
    rw [exec_slotEnd, exec_slotEnd, State.perform_out hout, State.perform_out]
    · congr 1
      symm
      change State.settlePins (State.endSlot (((s.relined _ _ _).miss v.station).settlePins)) = _
      rw [hmiss]
      exact State.endSlot_missed hline hphase _
    · change ((s.relined (.slot { v with phase := .over }) s.sweep.pause s.pins).miss v.station).inReset = false
      rw [hmiss]
      exact (State.miss_beyond v.station s).2.2.2.1.trans hout
  · have hshort : (s.relined s.sweep.line 1 s.pins).endSlot = s.roundEnded.relined .pausing 1 s.pins := by
      have hlast' : (s.relined s.sweep.line 1 s.pins).lastSlotOver := hlast
      rw [State.endSlot_of_lastSlotOver hlast', State.endRound_eq, if_neg nofun, State.roundEnded_relined]
    refine ⟨(s.roundEnded.relined .pausing 1 s.pins).settlePins, ?_, rfl, ?_⟩
    · rw [← hshort]
      exact State.perform_out (s := s.relined s.sweep.line 1 s.pins) hout _
    · have hout' : s.roundEnded.inReset = false := by
        rw [State.roundEnded_eq, State.setSweep_inReset, State.raiseDevice_inReset, hout]
      rw [exec_slotEnd, State.perform_out hout, State.endSlot_of_lastSlotOver hlast, State.endRound_eq, if_pos hpause]
      have hpins := State.roundEnded_relined_pause
        (s.roundEnded.relined .pausing 1 s.pins).settlePins.pins s
      rw [hpause] at hpins
      symm
      change exec .pauseEnd (s.roundEnded.relined .pausing 0 _) = _
      generalize (s.roundEnded.relined .pausing 1 s.pins).settlePins.pins = pins at hpins ⊢
      rw [hpins, exec_pauseEnd_pausing (s := s.roundEnded.withPins pins) hout' rfl, State.endPause_withPins,
        State.settlePins_withPins]

end

end Sys2Proof.Machine
end

section
/-!
PROOFS. The advance of the clock (R93), the part of a seconds event that completes a dwell (R39), and the phases of a
visit's slot (R129, R130).
-/

namespace Sys2Proof.Machine

/-! ## One second of the calendar (R93) -/

/-- The last day of the calendar, after which the clock wraps (R93). -/
def Date.lastDay : Date := { year := 2099, month := 12, day := 31 }

theorem Date.next_valid {d : Date} (h : d.valid = true) : d.next.valid = true := by
  obtain ⟨⟨hy, hy'⟩, ⟨hm, hm'⟩, hd, hd'⟩ := Date.valid_iff.mp h
  have hdays (y m : Nat) : 1 ≤ daysInMonth y m := by
    unfold daysInMonth
    split <;> split <;> omega
  rw [Date.next]
  split
  · exact Date.valid_iff.mpr ⟨⟨hy, hy'⟩, ⟨hm, hm'⟩, by dsimp only; omega, by dsimp only; omega⟩
  · split
    · exact Date.valid_iff.mpr ⟨⟨hy, hy'⟩, ⟨by dsimp only; omega, by dsimp only; omega⟩, le_refl 1, hdays _ _⟩
    · split
      · exact Date.valid_iff.mpr ⟨⟨by dsimp only; omega, by dsimp only; omega⟩, ⟨le_refl 1, Nat.le_add_left 1 11⟩, le_refl 1, hdays _ _⟩
      · exact Date.valid_iff.mpr (by decide)

theorem Date.dayNumber_next {d : Date} (h : d.valid = true) :
    d.next.dayNumber = if d = Date.lastDay then 0 else d.dayNumber + 1 := by
  obtain ⟨⟨hy, hy'⟩, ⟨hm, hm'⟩, hd, hd'⟩ := Date.valid_iff.mp h
  have hlast : d = Date.lastDay ↔ d.year = 2099 ∧ d.month = 12 ∧ d.day = 31 := by
    obtain ⟨y, m, k⟩ := d
    simp [Date.lastDay]
  have hmonth : daysBefore d.year (d.month + 1) = daysBefore d.year d.month + daysInMonth d.year d.month := by
    rw [daysBefore, if_neg (by omega)]
  have hdecember (y : Nat) : daysInMonth y 12 = 31 := rfl
  have hmidyear : d.day < daysInMonth d.year d.month ∨ d.month < 12 → d ≠ Date.lastDay := by
    rintro hmid hl
    obtain ⟨-, h12, h31⟩ := hlast.mp hl
    rw [h12, h31, hdecember] at hmid
    omega
  unfold Date.next
  split
  · next hday =>
    rw [if_neg (hmidyear (.inl hday))]
    unfold Date.dayNumber
    dsimp only
    omega
  · split
    · next hmore =>
      rw [if_neg (hmidyear (.inr hmore))]
      unfold Date.dayNumber
      dsimp only
      omega
    · next hday hmore =>
      have h12 : d.month = 12 := by omega
      have hyear := daysBefore_thirteen d.year
      rw [h12] at hmonth hd'
      rw [hmonth, hdecember] at hyear
      rw [h12, hdecember] at hday
      rw [hdecember] at hd'
      split
      · rw [if_neg fun hl => by have := (hlast.mp hl).1; omega]
        simp only [Date.dayNumber, show daysBefore (d.year + 1) 1 = 0 from rfl, h12]
        split at hyear <;> omega
      · rw [if_pos (hlast.mpr ⟨by omega, h12, by omega⟩)]
        rfl

/-- Settles O13. -/
theorem clockAdvancesByOneSecond : Obligations.ClockAdvancesByOneSecond := by
  intro k hsound
  have hbounds := hsound
  simp only [Clock.sound, Bool.and_eq_true, within_iff] at hbounds
  obtain ⟨⟨hdate, hday, hday'⟩, -, hseconds⟩ := hbounds
  have hnext : nextDayOfWeek k.dayOfWeek = k.dayOfWeek % 7 + 1 := by
    unfold nextDayOfWeek
    split <;> omega
  unfold Clock.advance
  by_cases hlast : k.seconds = 86399
  · rw [if_pos hlast, if_pos hlast]
    refine ⟨?_, ?_, hnext⟩
    · simp only [Clock.sound, Bool.and_eq_true, within_iff]
      exact ⟨⟨Date.next_valid hdate, by omega, by omega⟩, by omega, by omega⟩
    · simp only [Clock.stamp, Stamp.absolute, Date.dayNumber_next hdate, hlast, true_and]
      rw [show ({ year := 2099, month := 12, day := 31 } : Date) = Date.lastDay from rfl]
      by_cases hwrap : k.date = Date.lastDay
      · rw [if_pos hwrap, if_pos hwrap]
      · rw [if_neg hwrap, if_neg hwrap]
        omega
  · rw [if_neg hlast, if_neg hlast, if_neg fun h => hlast h.1]
    refine ⟨?_, ?_, rfl⟩
    · simp only [Clock.sound, Bool.and_eq_true, within_iff]
      exact ⟨⟨hdate, hday, hday'⟩, by omega, by omega⟩
    · simp only [Clock.stamp, Stamp.absolute]
      omega

/-! ## The end of a dwell (R39) -/

/-- The load after the second that may complete its dwell (R39). -/
def Load.dwellEnded (l : Load) : Load :=
  if l.state = .idling ∧ l.isFresh ∧ l.cfg.idleDwell ≤ l.dwell + 1 then l.countDwell else l

theorem exec_dwellComplete (n : Nat) (s : State) :
    exec (.dwellComplete n) s = s.perform (State.setLoad n Load.dwellEnded) := rfl

/-- Counting the dwell changes the state from IDLING alone, and keeps number and configuration (R39). -/
theorem Load.countDwell_num (l : Load) : l.countDwell.num = l.num ∧ l.countDwell.cfg = l.cfg := by
  unfold Load.countDwell
  split
  · split <;> exact ⟨rfl, rfl⟩
  · exact ⟨rfl, rfl⟩

theorem Load.dwellEnded_num (l : Load) : l.dwellEnded.num = l.num := by
  unfold Load.dwellEnded
  split
  · exact l.countDwell_num.1
  · rfl

theorem Load.isFresh_iff {l : Load} : l.isFresh = true ↔ ∃ a, l.sampleAge = some a ∧ a ≤ 30 := by
  unfold Load.isFresh
  cases l.sampleAge <;> simp

/-- Settles O15. -/
theorem dwellCompleteEndsTheDwell : Obligations.DwellCompleteEndsTheDwell := by
  intro s n hout
  refine ⟨fun l a hl hstate hage ha hdwell => ?_, fun hnumbered hnot => ?_⟩
  · have hfresh : l.isFresh = true := Load.isFresh_iff.mpr ⟨a, hage, ha⟩
    have hchange : l.dwellEnded = { l with state := .parkPending, dwell := l.cfg.idleDwell, manual := false } := by
      rw [Load.dwellEnded, if_pos ⟨hstate, hfresh, hdwell.ge⟩, Load.countDwell, if_pos ⟨hstate, hfresh⟩, if_pos hdwell.ge]
    obtain ⟨hload, hother⟩ := Plant.setLoad_bound hl Load.dwellEnded Load.dwellEnded_num
    rw [hchange] at hload
    refine ⟨_, (exec_dwellComplete n s).trans (State.perform_out hout _), hload, hother, rfl, rfl, rfl, rfl, rfl, rfl, rfl, rfl,
      rfl, rfl⟩
  · have hsame : s.plant.setLoad n Load.dwellEnded = s.plant := by
      refine Plant.setLoad_eq_self hnumbered fun l hl => if_neg ?_
      rintro ⟨hstate, hfresh, hdwell⟩
      rcases hnot l hl with h | h | h
      · exact h hstate
      · exact absurd (h ▸ hfresh) nofun
      · omega
    refine ⟨_, (exec_dwellComplete n s).trans (State.perform_out hout _), ?_, rfl⟩
    change { s.blocks with plant := s.plant.setLoad n Load.dwellEnded } = s.blocks
    rw [hsame]
    rfl

/-! ## The phases of a slot (R129, R130) -/

theorem exec_visitFrameSent (s : State) : exec .visitFrameSent s = s.perform State.frameSent := rfl

theorem exec_replyStartBit (s : State) : exec .replyStartBit s = s.perform State.replyBegins := rfl

theorem State.frameSent_sending {s : State} {v : Visit} (hline : s.sweep.line = .slot v) (hphase : v.phase = .sending) :
    s.frameSent = s.setPhase v .listening := by
  rw [State.frameSent, hline]
  exact if_pos hphase

theorem State.frameSent_other {s : State} (h : ∀ v, s.sweep.line = .slot v → v.phase ≠ .sending) : s.frameSent = s := by
  unfold State.frameSent
  split
  · next v hline => exact if_neg (h v hline)
  · rfl

theorem State.replyBegins_listening {s : State} {v : Visit} (hline : s.sweep.line = .slot v) (hphase : v.phase = .listening) :
    s.replyBegins = s.setPhase v .receiving := by
  rw [State.replyBegins, hline]
  exact if_pos hphase

theorem State.replyBegins_other {s : State} (h : ∀ v, s.sweep.line = .slot v → v.phase ≠ .listening) :
    s.replyBegins = s := by
  unfold State.replyBegins
  split
  · next v hline => exact if_neg (h v hline)
  · rfl

/-- Settles O31. -/
theorem slotPhasesFollowTheLine : Obligations.SlotPhasesFollowTheLine := by
  intro s hout
  refine ⟨fun v hline hphase => ?_, fun v hline hphase => ?_, fun hother => ?_, fun hother => ?_⟩
  · refine ⟨(s.setPhase v .listening).settlePins, ?_, ?_, rfl, rfl⟩
    · rw [exec_visitFrameSent, State.perform_out hout, State.frameSent_sending hline hphase]
    · rw [State.settlePins_pins, State.pinLevels, if_neg (by rw [State.setPhase, State.setSweep_inReset, hout]; nofun)]
      rfl
  · exact ⟨(s.setPhase v .receiving).settlePins,
      by rw [exec_replyStartBit, State.perform_out hout, State.replyBegins_listening hline hphase], rfl, rfl⟩
  · exact ⟨s.settlePins, by rw [exec_visitFrameSent, State.perform_out hout, State.frameSent_other hother], rfl, rfl⟩
  · exact ⟨s.settlePins, by rw [exec_replyStartBit, State.perform_out hout, State.replyBegins_other hother], rfl, rfl⟩

end Sys2Proof.Machine
end

section
/-!
PROOFS. A station restart (R65, R87, R117): the sequences of the station's loads are ended one after another, each with
its event or its returned units; grants between them change WAKE_QUEUED loads alone.
-/

namespace Sys2Proof.Machine

section

variable {s : State} {l x : Load} {i : StationId}

/-! ## One sequence (R65, R87) -/

/-- A load whose sequence a station restart has ended (R65, R87). -/
def Load.sequenceEnded (l : Load) : Load :=
  match l.state with
  | .parking _ => { l with state := .offline, timer := none, manual := false, wakeDue := false }
  | .waking _ => { l with state := .offline, timer := none }
  | _ => l

@[simp] theorem Load.sequenceEnded_num (l : Load) : l.sequenceEnded.num = l.num := by
  unfold Load.sequenceEnded
  split <;> rfl

theorem Load.sequenceEnded_state {l : Load} (h : l.state ≠ .wakeQueued) : l.sequenceEnded.state ≠ .wakeQueued := by
  unfold Load.sequenceEnded
  split
  · nofun
  · nofun
  · exact h

/-- The restart ends the sequence of a load whose state and configuration are still those captured. -/
theorem State.becomes_endSequence (hp : s.plant.sound) (hx : s.load? l.num = some x) (hstate : x.state = l.state)
    (hcfg : x.cfg = l.cfg) : Plant.Becomes l.num Load.sequenceEnded s.plant (s.endSequence l).plant := by
  have hset {f : Load → Load} (hf : f x = x.sequenceEnded) :
      s.plant.setLoad l.num f = s.plant.setLoad l.num Load.sequenceEnded :=
    Plant.setLoad_congr hp.numbered fun y hy => by
      rw [show s.plant.load? l.num = some x from hx] at hy
      cases hy
      exact hf
  have hstay (h : x.sequenceEnded = x) : Plant.Becomes l.num Load.sequenceEnded s.plant s.plant := by
    rw [Plant.Becomes, ← hset (f := id) h.symm, Plant.setLoad_id]
    exact .rfl (fun _ => .rfl) hp
  unfold State.endSequence
  cases hl : l.state with
  | parking step =>
    have hended : x.sequenceEnded = { x with state := .offline, timer := none, manual := false, wakeDue := false } := by
      simp [Load.sequenceEnded, hstate, hl]
    rw [State.raiseLoad_plant, Plant.Becomes, ← hset
      (f := fun l => { l with state := .offline, timer := none, manual := false, wakeDue := false }) hended.symm]
    exact Plant.becomes_rests hp hx (Load.rests_of_parking (Load.isParking_iff.mpr ⟨step, hstate.trans hl⟩)) (fun _ => rfl)
      (Load.rests_of_state nofun nofun) rfl rfl
  | waking w =>
    have hended : x.sequenceEnded = { x with state := .offline, timer := none } := by
      simp [Load.sequenceEnded, hstate, hl]
    rw [State.returnUnits_plant, Plant.Becomes, ← hset (f := fun l => { l with state := .offline, timer := none })
      hended.symm, ← hcfg]
    have hrests : ({ x with state := .offline, timer := none } : Load).rests := Load.rests_of_state nofun nofun
    exact Plant.becomes_returnUnits hp hx (Load.isWaking_iff.mpr ⟨w, hstate.trans hl⟩) hrests rfl rfl _
  | _ => exact hstay (by simp [Load.sequenceEnded, hstate, hl])

/-! ## All sequences of a list of captured loads -/

/-- What the ends of some loads' sequences make of a load: a WAKE_QUEUED one may have been granted its units. -/
def Load.EndedBy (ends : Nat → Bool) (x y : Load) : Prop :=
  if x.state = .wakeQueued then x.Calm y else y = if ends x.num then x.sequenceEnded else x

theorem Load.EndedBy.num {ends : Nat → Bool} : KeepsNum (Load.EndedBy ends) := by
  intro x y h
  unfold Load.EndedBy at h
  split at h
  · exact Load.Calm.num x y h
  · rw [h]
    split <;> simp

/-- The sequences of several captured loads are ended, one after another. -/
def State.endAll (ls : List Load) (s : State) : State := ls.foldl (fun s l => s.endSequence l) s

theorem State.works_endAll (ls : List Load) (s : State) : s.Works (s.endAll ls) :=
  .foldl (fun s l => s.works_endSequence l) ls s

theorem Load.EndedBy.step {done : Nat → Bool} {n : Nat} (hn : done n = false) {x y z : Load} (h : x.EndedBy done y)
    (hx : x.num = n → x.state ≠ .wakeQueued) (k : (if y.num == n then y.sequenceEnded else y).Calm z) :
    x.EndedBy (fun m => done m || m == n) z := by
  have hnum := Load.EndedBy.num x y h
  unfold Load.EndedBy at h ⊢
  by_cases hq : x.state = .wakeQueued
  · have hne : ¬(y.num == n) = true := by
      rw [beq_iff_eq, hnum]
      exact fun he => hx he hq
    rw [if_neg hne] at k
    rw [if_pos hq] at h ⊢
    exact Load.Calm.trans _ _ _ h k
  · rw [if_neg hq] at h ⊢
    subst h
    rw [hnum] at k
    by_cases he : x.num = n
    · simp only [he, hn, Bool.false_eq_true, if_false, beq_self_eq_true, if_true, Bool.false_or] at k ⊢
      exact k.eq (Load.sequenceEnded_state hq)
    · simp only [beq_iff_eq, he, if_false, Bool.or_eq_true, or_false] at k ⊢
      refine k.eq ?_
      split
      · exact Load.sequenceEnded_state hq
      · exact hq

/-- The loads of the plant before are those that a relation is about. -/
theorem Plant.Loads.mem {R : Load → Load → Prop} {p q : Plant} (h : p.Loads R q) :
    p.Loads (fun a b => a ∈ p.loads ∧ R a b) q := by
  obtain ⟨hlength, hzip⟩ := List.forall₂_iff_zip.mp h
  exact List.forall₂_iff_zip.mpr ⟨hlength, fun hab => ⟨(List.of_mem_zip hab).1, hzip hab⟩⟩

/-- A load still as it was captured in the plant `p`. -/
abbrev Plant.holdsStill (p : Plant) (l : Load) : Prop := ∃ x, p.load? l.num = some x ∧ x.state = l.state ∧ x.cfg = l.cfg

theorem State.moves_endSequence {p : Plant} {done : Nat → Bool} (hp : p.numbered) (hnew : done l.num = false)
    (hcaptured : p.holdsStill l) (h : p.Moves (Load.EndedBy done) s.plant) :
    p.Moves (Load.EndedBy (fun m => done m || m == l.num)) (s.endSequence l).plant := by
  obtain ⟨x, hx, hstate, hcfg⟩ := hcaptured
  have honly {y : Load} (hy : y ∈ p.loads) (hn : y.num = l.num) : y = x := by
    have := Plant.load?_of_mem hp hy
    rw [hn, hx] at this
    exact (Option.some.inj this).symm
  by_cases hq : l.state = .wakeQueued
  · have hsame : s.endSequence l = s := by simp [State.endSequence, hq]
    rw [hsame]
    refine ⟨h.loads.mem.mono ?_, h.sound⟩
    rintro a b ⟨ha, hab⟩
    by_cases hn : a.num = l.num
    · have haq : a.state = .wakeQueued := by rw [honly ha hn, hstate, hq]
      unfold Load.EndedBy at hab ⊢
      rwa [if_pos haq] at hab ⊢
    · simpa [Load.EndedBy, hn] using hab
  · obtain ⟨y, hy, hended⟩ := h.loads.bound Load.EndedBy.num hx
    have hyx : y = x := by
      unfold Load.EndedBy at hended
      rwa [if_neg (by rw [hstate]; exact hq), Plant.load?_num hx, hnew, if_neg nofun] at hended
    subst hyx
    have hbecomes := State.becomes_endSequence h.sound hy hstate hcfg
    have hset : s.plant.Loads (fun a b => b = if a.num == l.num then a.sequenceEnded else a)
        (s.plant.setLoad l.num Load.sequenceEnded) := Plant.Loads.map (fun _ _ => rfl) rfl
    have hstep : s.plant.Loads (fun a b => (if a.num == l.num then a.sequenceEnded else a).Calm b) (s.endSequence l).plant := by
      refine hset.trans ?_ hbecomes.loads
      rintro a b c rfl hbc
      exact hbc
    refine ⟨h.loads.mem.trans ?_ hstep, hbecomes.sound⟩
    rintro a b c ⟨ha, hab⟩ hbc
    exact hab.step hnew (fun hn => by rw [honly ha hn, hstate]; exact hq) hbc

theorem State.moves_endAll {p : Plant} {done : Nat → Bool} {ls : List Load} (hp : p.numbered) (hls : (ls.map Load.num).Nodup)
    (hnew : ∀ l ∈ ls, done l.num = false) (hcaptured : ∀ l ∈ ls, p.holdsStill l)
    (h : p.Moves (Load.EndedBy done) s.plant) :
    p.Moves (Load.EndedBy (fun m => done m || (ls.map Load.num).contains m)) (s.endAll ls).plant := by
  induction ls generalizing s done with
  | nil =>
    have hsame : (fun m => done m || (List.map Load.num []).contains m) = done := by simp
    rwa [hsame]
  | cons l ls ih =>
    rw [List.map_cons, List.nodup_cons] at hls
    have hone := State.moves_endSequence hp (hnew l List.mem_cons_self) (hcaptured l List.mem_cons_self) h
    have hrest := ih hls.2 (fun m hm => ?_) (fun m hm => hcaptured m (List.mem_cons_of_mem l hm)) hone
    · simp only [List.map_cons, List.contains_cons]
      simp only [Bool.or_assoc] at hrest
      exact hrest
    · rw [hnew m (List.mem_cons_of_mem l hm), Bool.false_or, beq_eq_false_iff_ne]
      exact fun hn => hls.1 (hn ▸ List.mem_map_of_mem hm)

/-! ## The restart of a station (R117) -/

/-- The plant as it is when the sequences of a restarted station's loads have been ended. -/
def State.sequencesEnded (i : StationId) (s : State) : State :=
  (s.onPlant (Plant.dropOrders i)).endAll (s.plant.recordsOf i)

theorem State.restartStation_eq (i : StationId) (s : State) :
    s.restartStation i = (((s.sequencesEnded i).onPlant (Plant.markLoads i)).setStation i
      (fun st => { st with restartNoted := true })).raiseStation i .restarted := rfl

theorem Plant.dropOrders_load? (i : StationId) (n : Nat) (p : Plant) :
    (p.dropOrders i).load? n = (p.load? n).map (fun l => if l.cfg.station == i then l.undue else l) :=
  Plant.load?_map (q := p.dropOrders i) (fun l => by split <;> rfl) rfl n

theorem State.moves_sequencesEnded (hp : s.plant.sound) (i : StationId) :
    (s.plant.dropOrders i).Moves (Load.EndedBy ((s.plant.recordsOf i).map Load.num).contains)
      (s.sequencesEnded i).plant := by
  have hdropped : (s.plant.dropOrders i).sound := (Plant.sameUnits_dropOrders i s.plant).sound hp
  have hnone : (s.plant.dropOrders i).Moves (Load.EndedBy (fun _ => false)) (s.plant.dropOrders i) := by
    refine .rfl (fun x => ?_) hdropped
    unfold Load.EndedBy
    split
    · exact .rfl
    · rfl
  have hcaptured (l : Load) (hl : l ∈ s.plant.recordsOf i) : (s.plant.dropOrders i).holdsStill l := by
    obtain ⟨hmem, hstation⟩ := Plant.mem_recordsOf_of hl
    refine ⟨l.undue, ?_, rfl, rfl⟩
    rw [Plant.dropOrders_load?, Plant.load?_of_mem hp.numbered hmem, Option.map_some, if_pos (beq_iff_eq.mpr hstation)]
  have hnodup : ((s.plant.recordsOf i).map Load.num).Nodup := by
    rw [← Plant.loadsOf_eq]
    exact Plant.loadsOf_nodup hp.numbered i
  have hall := State.moves_endAll (s := s.onPlant (Plant.dropOrders i)) hdropped.numbered hnodup (fun _ _ => rfl) hcaptured
    hnone
  simp only [Bool.false_or] at hall
  exact hall

/-- Marking the loads of a station leaves start queues and units: no marked load waits or has units (R117). -/
theorem Plant.sameUnits_markLoads (i : StationId) (p : Plant) : p.SameUnits (p.markLoads i) := by
  refine Plant.sameUnits_loads (fun l => ?_) p
  split
  · next h =>
    have hmarked : l.state.isMarked = true := by
      rw [Bool.and_eq_true] at h
      exact h.2
    unfold LoadState.isMarked at hmarked
    cases hl : l.state <;> simp_all [Load.unitView, Load.isWaking]
  · rfl

end

end Sys2Proof.Machine
end

section
/-!
PROOFS. The load table when a record is bound or made UNBOUND (R1, R8, R11), and the plant after a soft restart (R26,
R91, R119).
-/

namespace Sys2Proof.Machine

/-! ## Binding (R8) -/

theorem insertLoad_perm {l : Load} {ls : List Load} (h : ∀ x ∈ ls, x.num ≠ l.num) : (insertLoad l ls).Perm (l :: ls) := by
  induction ls with
  | nil => exact .refl _
  | cons x ls ih =>
    have hx : l.num ≠ x.num := (h x List.mem_cons_self).symm
    rw [insertLoad, if_neg hx]
    split
    · exact .refl _
    · exact ((ih fun y hy => h y (List.mem_cons_of_mem x hy)).cons x).trans (.swap l x ls)

theorem insertLoad_pairwise {l : Load} {ls : List Load} (hls : ls.Pairwise (fun a b => a.num < b.num))
    (h : ∀ x ∈ ls, x.num ≠ l.num) : (insertLoad l ls).Pairwise (fun a b => a.num < b.num) := by
  induction ls with
  | nil => exact List.pairwise_singleton _ l
  | cons x ls ih =>
    obtain ⟨hfirst, hrest⟩ := List.pairwise_cons.mp hls
    have hx : l.num ≠ x.num := (h x List.mem_cons_self).symm
    have hrest' (y : Load) (hy : y ∈ ls) : y.num ≠ l.num := h y (List.mem_cons_of_mem x hy)
    rw [insertLoad, if_neg hx]
    split
    · next hlt =>
      refine List.pairwise_cons.mpr ⟨fun y hy => ?_, hls⟩
      rcases List.mem_cons.mp hy with rfl | hy
      · exact hlt
      · exact hlt.trans (hfirst y hy)
    · refine List.pairwise_cons.mpr ⟨fun y hy => ?_, ih hrest hrest'⟩
      rcases List.mem_cons.mp ((insertLoad_perm hrest').mem_iff.mp hy) with rfl | hy
      · omega
      · exact hfirst y hy

section

variable {p q : Plant} {l : Load} {n : Nat}

theorem Plant.bind_perm (hnone : p.load? l.num = none) : (p.bind l).loads.Perm (l :: p.loads) :=
  insertLoad_perm (Plant.load?_eq_none.mp hnone)

theorem Plant.bind_numbered (hp : p.numbered) (hnone : p.load? l.num = none) (h1 : 1 ≤ l.num) (h96 : l.num ≤ 96) :
    (p.bind l).numbered := by
  refine ⟨insertLoad_pairwise hp.1 (Plant.load?_eq_none.mp hnone), fun x hx => ?_⟩
  rcases List.mem_cons.mp ((Plant.bind_perm hnone).mem_iff.mp hx) with rfl | hx
  · exact ⟨h1, h96⟩
  · exact hp.2 x hx

/-- Two numbered plants with the same loads beside one number agree on every other number. -/
theorem Plant.load?_congr_of_mem (hq : q.numbered) {m : Nat}
    (h : ∀ x : Load, x.num = m → (x ∈ q.loads ↔ x ∈ p.loads)) : q.load? m = p.load? m := by
  cases hpm : p.load? m with
  | none =>
    exact Plant.load?_eq_none.mpr fun x hx hm => Plant.load?_eq_none.mp hpm x ((h x hm).mp hx) hm
  | some x =>
    have hm := Plant.load?_num hpm
    have := Plant.load?_of_mem hq ((h x hm).mpr (Plant.mem_of_load? hpm))
    rwa [hm] at this

theorem Plant.load?_bind_self (hp : p.numbered) (hnone : p.load? l.num = none) (h1 : 1 ≤ l.num) (h96 : l.num ≤ 96) :
    (p.bind l).load? l.num = some l :=
  Plant.load?_of_mem (Plant.bind_numbered hp hnone h1 h96) ((Plant.bind_perm hnone).mem_iff.mpr List.mem_cons_self)

theorem Plant.load?_bind_other (hp : p.numbered) (hnone : p.load? l.num = none) (h1 : 1 ≤ l.num) (h96 : l.num ≤ 96)
    {m : Nat} (hm : m ≠ l.num) : (p.bind l).load? m = p.load? m := by
  refine Plant.load?_congr_of_mem (Plant.bind_numbered hp hnone h1 h96) fun x hx => ?_
  rw [(Plant.bind_perm hnone).mem_iff, List.mem_cons]
  exact or_iff_right fun h => hm (hx ▸ h ▸ rfl)

/-- A number that is not bound is in no queue. -/
theorem Plant.sound.unbound_not_mem (hp : p.sound) (hnone : p.load? n = none) (i : FeederId) : n ∉ p.queueOf i := fun hn => by
  obtain ⟨x, hx, -⟩ := (hp.queuesMatch i n).mp hn
  rw [hnone] at hx
  cases hx

theorem Plant.bind_sound (hp : p.sound) (hnone : p.load? l.num = none) (h1 : 1 ≤ l.num) (h96 : l.num ≤ 96)
    (hrests : l.rests) : (p.bind l).sound := by
  obtain ⟨hnum, hnodup, hmatch, hbalanced⟩ := p.sound_iff.mp hp
  refine (p.bind l).sound_iff.mpr ⟨Plant.bind_numbered hnum hnone h1 h96, hnodup, fun i m => ?_, fun i => ?_⟩
  · by_cases hm : m = l.num
    · subst hm
      rw [Plant.load?_bind_self hnum hnone h1 h96]
      refine iff_of_false (hp.unbound_not_mem hnone i) ?_
      rintro ⟨x, hx, hwaits⟩
      cases hx
      exact hrests.not_waitsAt i hwaits
    · rw [Plant.load?_bind_other hnum hnone h1 h96 hm]
      exact hmatch i m
  · have hsum : ((p.bind l).loads.map (Load.unitsAt i)).sum = (p.loads.map (Load.unitsAt i)).sum := by
      rw [((Plant.bind_perm hnone).map _).sum_eq, List.map_cons, List.sum_cons, hrests.unitsAt, Nat.zero_add]
    rw [hsum]
    exact hbalanced i

/-! ## Unbinding (R11) -/

theorem Plant.unbind_split (hp : p.numbered) (hl : p.load? n = some l) :
    ∃ a b, p.loads = a ++ l :: b ∧ (p.unbind n).loads = a ++ b := by
  obtain ⟨a, b, hsplit, ha, hb⟩ := Plant.loads_split hp hl
  have hsame (c : List Load) (hc : ∀ x ∈ c, x.num ≠ n) : c.filter (fun x => x.num != n) = c :=
    List.filter_eq_self.mpr fun x hx => by simpa using hc x hx
  refine ⟨a, b, hsplit, ?_⟩
  rw [Plant.unbind, hsplit]
  simp [hsame a ha, hsame b hb, Plant.load?_num hl]

theorem Plant.unbind_numbered (hp : p.numbered) (n : Nat) : (p.unbind n).numbered :=
  ⟨hp.1.sublist List.filter_sublist, fun x hx => hp.2 x (List.mem_filter.mp hx).1⟩

theorem Plant.load?_unbind_self (n : Nat) (p : Plant) : (p.unbind n).load? n = none :=
  Plant.load?_eq_none.mpr fun x hx => by
    have := (List.mem_filter.mp hx).2
    simpa using this

theorem Plant.load?_unbind_other (hp : p.numbered) {m : Nat} (hm : m ≠ n) : (p.unbind n).load? m = p.load? m := by
  refine Plant.load?_congr_of_mem (Plant.unbind_numbered hp n) fun x hx => ?_
  rw [Plant.unbind, List.mem_filter]
  exact and_iff_left (by simpa [hx] using hm)

theorem Plant.queueOf_unbind (n : Nat) (p : Plant) (i : FeederId) : (p.unbind n).queueOf i = p.queueOf i := rfl

theorem Plant.unbind_sound (hp : p.sound) (hl : p.load? n = some l) (hrests : l.rests) : (p.unbind n).sound := by
  obtain ⟨hnum, hnodup, hmatch, hbalanced⟩ := p.sound_iff.mp hp
  refine (p.unbind n).sound_iff.mpr ⟨Plant.unbind_numbered hnum n,
    fun i => (p.queueOf_unbind n i).symm ▸ hnodup i, fun i m => ?_, fun i => ?_⟩
  · rw [Plant.queueOf_unbind]
    by_cases hm : m = n
    · subst hm
      rw [Plant.load?_unbind_self]
      exact iff_of_false (hp.not_mem_queueOf hl hrests.1 i) fun ⟨x, hx, _⟩ => Option.some_ne_none x hx.symm
    · rw [Plant.load?_unbind_other hnum hm]
      exact hmatch i m
  · obtain ⟨a, b, hsplit, hgone⟩ := Plant.unbind_split hnum hl
    have hbefore := hbalanced i
    rw [hsplit] at hbefore
    rw [hgone]
    simp only [List.map_append, List.map_cons, List.sum_append, List.sum_cons, hrests.unitsAt] at hbefore ⊢
    rw [Plant.feeder_of_feeders (Plant.unbind_feeders p n)]
    omega

end

/-! ## Changes of every feeder and of every station -/

section

variable {p : Plant}

theorem Plant.foldl_setFeeder (f : Feeder → Feeder) {is : List FeederId} (his : is.Nodup) (p : Plant) (j : FeederId) :
    (is.foldl (fun q i => q.setFeeder i f) p).feeder j = if j ∈ is then f (p.feeder j) else p.feeder j := by
  induction is generalizing p with
  | nil => simp
  | cons i is ih =>
    obtain ⟨hi, his⟩ := List.nodup_cons.mp his
    rw [List.foldl_cons, ih his]
    by_cases hj : j = i
    · subst hj
      simp [hi]
    · rw [Plant.feeder_setFeeder_other p hj]
      simp [hj]

theorem Plant.foldl_setFeeder_rest (f : Feeder → Feeder) (is : List FeederId) (p : Plant) :
    (is.foldl (fun q i => q.setFeeder i f) p).loads = p.loads ∧ (is.foldl (fun q i => q.setFeeder i f) p).stations = p.stations ∧
      (is.foldl (fun q i => q.setFeeder i f) p).groups = p.groups ∧
      (is.foldl (fun q i => q.setFeeder i f) p).curves = p.curves := by
  induction is generalizing p with
  | nil => exact ⟨rfl, rfl, rfl, rfl⟩
  | cons i is ih => exact ih _

theorem Plant.foldl_setStation (f : Station → Station) {is : List StationId} (his : is.Nodup) (p : Plant) (j : StationId) :
    (is.foldl (fun q i => q.setStation i f) p).station j = if j ∈ is then f (p.station j) else p.station j := by
  induction is generalizing p with
  | nil => simp
  | cons i is ih =>
    obtain ⟨hi, his⟩ := List.nodup_cons.mp his
    rw [List.foldl_cons, ih his]
    by_cases hj : j = i
    · subst hj
      simp [hi]
    · rw [Plant.station_setStation_other p hj]
      simp [hj]

theorem Plant.foldl_setStation_rest (f : Station → Station) (is : List StationId) (p : Plant) :
    (is.foldl (fun q i => q.setStation i f) p).loads = p.loads ∧ (is.foldl (fun q i => q.setStation i f) p).feeders = p.feeders ∧
      (is.foldl (fun q i => q.setStation i f) p).groups = p.groups ∧
      (is.foldl (fun q i => q.setStation i f) p).curves = p.curves := by
  induction is generalizing p with
  | nil => exact ⟨rfl, rfl, rfl, rfl⟩
  | cons i is ih => exact ih _

theorem feederIds_nodup : feederIds.Nodup := by decide

theorem mem_feederIds (i : FeederId) : i ∈ feederIds := by
  unfold feederIds
  fin_cases i <;> simp

/-! ## The plant after a soft restart (R26, R91, R119) -/

/-- The plant with its feeders and loads restarted, before its stations. -/
def Plant.unloaded (p : Plant) : Plant :=
  { (feederIds.foldl (fun q i => q.setFeeder i Feeder.restart) p) with loads := p.loads.map Load.restart }

theorem Plant.restart_eq (p : Plant) : p.restart = stationIds.foldl (fun q i => q.setStation i Station.restart) p.unloaded :=
  rfl

theorem Plant.unloaded_station (p : Plant) (i : StationId) : p.unloaded.station i = p.station i :=
  Plant.station_of_stations (Plant.foldl_setFeeder_rest Feeder.restart feederIds p).2.1 i

theorem Plant.unloaded_feeder (p : Plant) (i : FeederId) : p.unloaded.feeder i = (p.feeder i).restart :=
  (Plant.foldl_setFeeder _ feederIds_nodup p i).trans (if_pos (mem_feederIds i))

theorem Plant.restart_loads (p : Plant) : p.restart.loads = p.loads.map Load.restart := by
  rw [Plant.restart_eq, (Plant.foldl_setStation_rest Station.restart stationIds _).1]
  rfl

theorem Plant.restart_feeder (p : Plant) (i : FeederId) : p.restart.feeder i = (p.feeder i).restart := by
  rw [Plant.restart_eq, Plant.feeder_of_feeders (Plant.foldl_setStation_rest Station.restart stationIds _).2.1,
    Plant.unloaded_feeder]

theorem Plant.restart_station (p : Plant) (i : StationId) : p.restart.station i = (p.station i).restart := by
  rw [Plant.restart_eq, Plant.foldl_setStation _ stationIds_nodup, if_pos (mem_stationIds i), Plant.unloaded_station]

theorem Plant.restart_curves (p : Plant) : p.restart.curves = p.curves := by
  rw [Plant.restart_eq, (Plant.foldl_setStation_rest Station.restart stationIds _).2.2.2]
  exact (Plant.foldl_setFeeder_rest Feeder.restart feederIds p).2.2.2

theorem Plant.restart_sound (hp : p.sound) : p.restart.sound := by
  have hrests (l : Load) : l.restart.rests := Load.rests_of_state nofun nofun
  have hload? (m : Nat) : p.restart.load? m = (p.load? m).map Load.restart :=
    Plant.load?_map (f := Load.restart) (fun _ => rfl) p.restart_loads m
  refine p.restart.sound_iff.mpr ⟨Plant.numbered_congr ?_ hp.numbered, fun i => ?_, fun i m => ?_, fun i => ?_⟩
  · rw [Plant.restart_loads, List.map_map]
    rfl
  · rw [Plant.queueOf, Plant.restart_feeder]
    exact List.nodup_nil
  · rw [Plant.queueOf, Plant.restart_feeder, hload?]
    refine iff_of_false List.not_mem_nil ?_
    rintro ⟨x, hx, hwaits⟩
    obtain ⟨y, -, rfl⟩ := Option.map_eq_some_iff.mp hx
    exact (hrests y).not_waitsAt i hwaits
  · have hzero : (p.restart.loads.map (Load.unitsAt i)).sum = 0 := by
      rw [Plant.restart_loads, List.map_map]
      refine List.sum_eq_zero fun k hk => ?_
      obtain ⟨y, -, rfl⟩ := List.mem_map.mp hk
      exact (hrests y).unitsAt i
    rw [hzero, Plant.restart_feeder]
    rfl

theorem Station.restart_linkSound {st : Station} (h : st.linkSound = true) : st.restart.linkSound = true := by
  unfold Station.restart Station.linkSound
  cases st.enabled with
  | true => rfl
  | false =>
    unfold Station.linkSound at h
    cases hlink : st.link <;> simp [hlink, within] at h ⊢ <;> omega

end

end Sys2Proof.Machine
end

section
/-!
PROOFS. What every operation keeps sound: start queues and units, link states and miss counts, the notice queue, the link
port. This file has the notions, and the steps of a valid reply (R108).
-/

namespace Sys2Proof.Machine

/-! ## The notions -/

/-- Plant, stations and notice queue stay sound, and of the link port the frames, the reply and the deframer stay. -/
structure State.Upkeep (s t : State) : Prop where
  plant : s.plant.sound → t.plant.sound
  stations : ∀ i, (s.station i).linkSound = true → (t.station i).linkSound = true
  alerts : s.alerts.queueSound → t.alerts.queueSound
  port : t.link = { s.link with errors := t.link.errors }
  errors : s.link.errors ≤ 65535 → t.link.errors ≤ 65535
  inReset : t.inReset = s.inReset
  pending : t.pending = s.pending

/-- Every block stays sound. -/
structure State.Keeps (s t : State) : Prop extends State.Upkeep s t where
  calendar : s.calendar.sound → t.calendar.sound
  sweep : s.sweep.sound → t.sweep.sound
  assent : s.assent.sound → t.assent.sound

section

variable {s t u : State} {i : StationId} {n : Nat}

theorem State.Upkeep.rfl : s.Upkeep s := ⟨id, fun _ => id, id, Eq.refl _, id, Eq.refl _, Eq.refl _⟩

theorem State.Upkeep.trans (h : s.Upkeep t) (k : t.Upkeep u) : s.Upkeep u := by
  refine ⟨fun hp => k.plant (h.plant hp), fun i hi => k.stations i (h.stations i hi), fun ha => k.alerts (h.alerts ha), ?_,
    fun he => k.errors (h.errors he), k.inReset.trans h.inReset, k.pending.trans h.pending⟩
  rw [k.port, h.port]

theorem State.Keeps.rfl : s.Keeps s := ⟨.rfl, id, id, id⟩

theorem State.Keeps.trans (h : s.Keeps t) (k : t.Keeps u) : s.Keeps u :=
  ⟨h.toUpkeep.trans k.toUpkeep, fun hc => k.calendar (h.calendar hc), fun hw => k.sweep (h.sweep hw),
    fun ha => k.assent (h.assent ha)⟩

theorem State.Upkeep.keeps (h : s.Upkeep t) (hcalendar : t.calendar = s.calendar) (hsweep : t.sweep = s.sweep)
    (hassent : t.assent = s.assent) : s.Keeps t :=
  ⟨h, fun hc => hcalendar ▸ hc, fun hw => hsweep ▸ hw, fun ha => hassent ▸ ha⟩

theorem Station.linkSound_core (st : Station) : st.core.linkSound = st.linkSound := rfl

theorem State.Works.upkeep (h : s.Works t) (hp : s.plant.sound → t.plant.sound) : s.Upkeep t := by
  obtain ⟨-, -, -, hlink, hreset, -, hpending⟩ := h.beyond
  refine ⟨hp, fun i hi => ?_, h.alerts.queueSound, by rw [hlink], fun he => hlink ▸ he, hreset, hpending⟩
  have hcore : (t.station i).core = (s.station i).core := h.plant.stations i
  rw [← Station.linkSound_core, hcore, Station.linkSound_core]
  exact hi

theorem State.Works.keeps (h : s.Works t) (hp : s.plant.sound → t.plant.sound) : s.Keeps t :=
  (h.upkeep hp).keeps h.beyond.1 h.beyond.2.1 h.beyond.2.2.1

/-- Changes of calendar, sweep and assent records alone. -/
theorem State.upkeep_of_same (hplant : t.plant = s.plant) (halerts : t.alerts = s.alerts) (hlink : t.link = s.link)
    (hreset : t.inReset = s.inReset) (hpending : t.pending = s.pending) : s.Upkeep t :=
  ⟨fun hp => hplant ▸ hp, fun i hi => by rw [State.station, hplant]; exact hi, fun ha => halerts ▸ ha, by rw [hlink],
    fun he => hlink ▸ he, hreset, hpending⟩

theorem State.upkeep_setSweep (f : Sweep → Sweep) (s : State) : s.Upkeep (s.setSweep f) :=
  State.upkeep_of_same rfl rfl rfl rfl rfl

theorem State.upkeep_flagRound (f : RoundFlags → RoundFlags) (s : State) : s.Upkeep (s.flagRound f) :=
  State.upkeep_of_same rfl rfl rfl rfl rfl

theorem State.upkeep_setAssent (f : Assent → Assent) (s : State) : s.Upkeep (s.setAssent f) :=
  State.upkeep_of_same rfl rfl rfl rfl rfl

theorem State.upkeep_setCalendar (f : Calendar → Calendar) (s : State) : s.Upkeep (s.setCalendar f) :=
  State.upkeep_of_same rfl rfl rfl rfl rfl

theorem State.upkeep_setStation (i : StationId) (f : Station → Station)
    (hf : (s.station i).linkSound = true → (f (s.station i)).linkSound = true) : s.Upkeep (s.setStation i f) := by
  refine ⟨(Plant.sameUnits_setStation i f _).sound, fun j hj => ?_, id, rfl, id, rfl, rfl⟩
  by_cases hij : j = i
  · subst hij
    rw [State.station, State.setStation_plant, Plant.station_setStation_self]
    exact hf hj
  · rw [State.station, State.setStation_plant, Plant.station_setStation_other _ hij]
    exact hj

/-- A plant with the same loads and feeders. -/
theorem State.upkeep_raiseStation (i : StationId) (e : StationEvent) (s : State) : s.Upkeep (s.raiseStation i e) :=
  (s.works_raiseStation i e).upkeep fun hp => by rwa [State.raiseStation_plant]

theorem State.upkeep_raiseDevice (e : DeviceEvent) (s : State) : s.Upkeep (s.raiseDevice e) :=
  (s.works_raiseDeviceWith 0 0 e).upkeep fun hp => by rwa [State.raiseDeviceWith_plant]

theorem State.upkeep_evaluateBeacon (s : State) : s.Upkeep s.evaluateBeacon :=
  s.works_evaluateBeacon.upkeep fun hp => by rwa [State.evaluateBeacon_plant]

theorem State.works_grantAll (s : State) : s.Works (s.onPlantNow Plant.grantAll) :=
  State.works_onPlantNow (f := Plant.grantAll) (Plant.sameFrame_grantAll s.calendar.clock s.plant).frame

theorem State.grantAll_sound (hp : s.plant.sound) : (s.onPlantNow Plant.grantAll).plant.sound := by
  rw [State.onPlantNow_plant]
  exact (Plant.moves_grantAll s.calendar.clock hp).sound

theorem State.upkeep_wakeAll (ns : List Nat) (s : State) : s.Upkeep (s.wakeAll ns) :=
  (s.works_wakeAll ns).upkeep fun hp => (Plant.moves_wakeAll _ ns hp).sound

/-! ## A valid reply, step by step (R108) -/

/-- What happens in a visit whose reply is handled: beside the plant, only notices, faults, the beacon, and NEW_CALL. -/
structure State.Visits (s t : State) : Prop where
  calendar : t.calendar = s.calendar
  assent : t.assent = s.assent
  link : t.link = s.link
  inReset : t.inReset = s.inReset
  pending : t.pending = s.pending
  sweep : t.sweep = { s.sweep with flags := { s.sweep.flags with newCall := t.sweep.flags.newCall } }
  alerts : s.alerts.Evolves t.alerts

theorem State.Visits.rfl : s.Visits s := ⟨Eq.refl _, Eq.refl _, Eq.refl _, Eq.refl _, Eq.refl _, Eq.refl _, .rfl⟩

theorem State.Visits.trans (h : s.Visits t) (k : t.Visits u) : s.Visits u := by
  refine ⟨k.calendar.trans h.calendar, k.assent.trans h.assent, k.link.trans h.link, k.inReset.trans h.inReset,
    k.pending.trans h.pending, ?_, h.alerts.trans k.alerts⟩
  rw [k.sweep, h.sweep]

theorem State.Works.visits (h : s.Works t) : s.Visits t := by
  obtain ⟨hcalendar, hsweep, hassent, hlink, hreset, -, hpending⟩ := h.beyond
  exact ⟨hcalendar, hassent, hlink, hreset, hpending, by rw [hsweep], h.alerts⟩

theorem State.visits_setStation (i : StationId) (f : Station → Station) (s : State) : s.Visits (s.setStation i f) :=
  ⟨rfl, rfl, rfl, rfl, rfl, rfl, .rfl⟩

/-- The steps of the link health after the station's record (R108): BACK, the beacon's release, and the grants. -/
def State.raiseBack (before : LinkState) (i : StationId) (s : State) : State :=
  if before = .lost ∨ before = .unheard then s.raiseStation i .back else s

def State.releaseLost (before : LinkState) (s : State) : State := if before = .lost then s.evaluateBeacon else s

def State.grantLive (before : LinkState) (s : State) : State :=
  if before = .live then s else s.onPlantNow Plant.grantAll

/-- The station's record once it has been heard (R108). -/
def Station.heardNow (st : Station) : Station := { st with link := .live, misses := 0 }

theorem State.heard_eq (i : StationId) (s : State) : s.heard i =
    (((s.setStation i Station.heardNow).raiseBack (s.station i).link i).releaseLost (s.station i).link).grantLive
      (s.station i).link := rfl

theorem State.works_raiseBack (before : LinkState) (i : StationId) (s : State) : s.Works (s.raiseBack before i) := by
  unfold State.raiseBack
  split
  · exact s.works_raiseStation i .back
  · exact .rfl

theorem State.raiseBack_plant (before : LinkState) (i : StationId) (s : State) : (s.raiseBack before i).plant = s.plant := by
  unfold State.raiseBack
  split
  · exact State.raiseStation_plant _ _ _
  · rfl

theorem State.works_releaseLost (before : LinkState) (s : State) : s.Works (s.releaseLost before) := by
  unfold State.releaseLost
  split
  · exact s.works_evaluateBeacon
  · exact .rfl

theorem State.releaseLost_plant (before : LinkState) (s : State) : (s.releaseLost before).plant = s.plant := by
  unfold State.releaseLost
  split
  · exact State.evaluateBeacon_plant _
  · rfl

theorem State.works_grantLive (before : LinkState) (s : State) : s.Works (s.grantLive before) := by
  unfold State.grantLive
  split
  · exact .rfl
  · exact s.works_grantAll

theorem State.grantLive_sound (before : LinkState) (hp : s.plant.sound) : (s.grantLive before).plant.sound := by
  unfold State.grantLive
  split
  · exact hp
  · exact State.grantAll_sound hp

/-- Link health beyond the station's own record is load control. -/
theorem State.works_heard (i : StationId) (s : State) : (s.setStation i Station.heardNow).Works (s.heard i) := by
  rw [State.heard_eq]
  exact ((State.works_raiseBack _ i _).trans (State.works_releaseLost _ _)).trans (State.works_grantLive _ _)

theorem State.heard_sound_of (hp : (s.setStation i Station.heardNow).plant.sound) : (s.heard i).plant.sound := by
  rw [State.heard_eq]
  refine State.grantLive_sound _ ?_
  rwa [State.releaseLost_plant, State.raiseBack_plant]

theorem State.visits_heard (i : StationId) (s : State) : s.Visits (s.heard i) :=
  (State.visits_setStation i _ s).trans (State.works_heard i s).visits

theorem State.upkeep_heard (i : StationId) (s : State) : s.Upkeep (s.heard i) :=
  (s.upkeep_setStation i Station.heardNow (fun _ => rfl)).trans ((State.works_heard i s).upkeep State.heard_sound_of)

/-! ## The echo (R113) -/

theorem State.refillSlot_sound (hp : s.plant.sound) (i : StationId) : (s.onPlant (Plant.refillSlot i)).plant.sound :=
  (Plant.sameUnits_refillSlot i s.plant).sound hp

theorem State.takeEcho_sound (hp : s.plant.sound) (i : StationId) (e : Echo) : (s.takeEcho i e).plant.sound := by
  have hemptied : (s.setStation i (fun st => { st with slot := none })).plant.sound :=
    (Plant.sameUnits_setStation i (fun st => { st with slot := none }) s.plant).sound hp
  unfold State.takeEcho
  split
  · exact hp
  · split
    · dsimp only
      split
      · exact State.refillSlot_sound hemptied i
      · next l _ =>
        refine State.refillSlot_sound (State.passEcho_sound ?_ _ _ _) i
        exact (Plant.sameUnits_setLoad l.num (fun l => { l with due := none }) _).sound hemptied
    · exact hp

theorem State.upkeep_takeEcho (i : StationId) (e : Echo) (s : State) : s.Upkeep (s.takeEcho i e) :=
  (s.works_takeEcho i e).upkeep fun hp => State.takeEcho_sound hp i e

/-! ## Inquiries (R114, R115) -/

theorem Station.store_link (r : Results) (st : Station) : (st.store r).link = st.link ∧ (st.store r).misses = st.misses := by
  cases r <;> exact ⟨rfl, rfl⟩

theorem Station.linkSound_congr {a b : Station} (hlink : b.link = a.link) (hmisses : b.misses = a.misses) :
    b.linkSound = a.linkSound := by
  rw [Station.linkSound, hlink, hmisses]
  rfl

theorem Station.afterInquiry_link (st : Station) : st.afterInquiry.link = st.link ∧ st.afterInquiry.misses = st.misses := by
  unfold Station.afterInquiry
  split
  · split <;> exact ⟨rfl, rfl⟩
  · split <;> exact ⟨rfl, rfl⟩

theorem Station.afterRoutine_link (st : Station) : st.afterRoutine.link = st.link ∧ st.afterRoutine.misses = st.misses := by
  unfold Station.afterRoutine
  split <;> exact ⟨rfl, rfl⟩

theorem State.upkeep_setStation_keeping (i : StationId) {f : Station → Station}
    (hf : ∀ st, (f st).link = st.link ∧ (f st).misses = st.misses) (s : State) : s.Upkeep (s.setStation i f) :=
  s.upkeep_setStation i f fun h => by
    rwa [Station.linkSound_congr (hf _).1 (hf _).2]

theorem State.upkeep_takeResults (v : Visit) (r : Results) (s : State) : s.Upkeep (s.takeResults v r) := by
  have hstored := (State.upkeep_setStation_keeping v.station (Station.store_link r) s).trans
    (State.upkeep_raiseStation v.station .inquiryDone _)
  unfold State.takeResults
  split
  · split
    · exact .rfl
    · exact State.upkeep_setStation_keeping v.station Station.afterRoutine_link s
  · dsimp only
    split
    · exact hstored
    · exact hstored.trans (State.upkeep_setStation_keeping v.station Station.afterInquiry_link _)

theorem State.visits_takeResults (v : Visit) (r : Results) (s : State) : s.Visits (s.takeResults v r) := by
  have hstored := (State.visits_setStation v.station (Station.store r) s).trans
    (State.works_raiseStation v.station .inquiryDone _).visits
  unfold State.takeResults
  split
  · split
    · exact .rfl
    · exact State.visits_setStation _ _ s
  · dsimp only
    split
    · exact hstored
    · exact hstored.trans (State.visits_setStation _ _ _)

/-! ## The restart flag (R117, R118) -/

theorem Plant.frame_loads_map (i : StationId) (p : Plant) : p.Frame (p.markLoads i) := Plant.frame_loads p _

/-- A station restart up to the restart-noted mark, which is the station's own field. -/
theorem State.works_marked (i : StationId) (s : State) : s.Works ((s.sequencesEnded i).onPlant (Plant.markLoads i)) :=
  ((State.works_onPlant (Plant.sameFrame_dropOrders i _).frame).trans (State.works_endAll _ _)).trans
    (State.works_onPlant (Plant.frame_loads_map i _))

theorem State.upkeep_setNoted (i : StationId) (noted : Bool) (s : State) :
    s.Upkeep (s.setStation i (fun st => { st with restartNoted := noted })) :=
  State.upkeep_setStation_keeping (f := fun st => { st with restartNoted := noted }) i (fun _ => ⟨rfl, rfl⟩) s

theorem State.upkeep_restartStation (i : StationId) (s : State) : s.Upkeep (s.restartStation i) := by
  have hended : (s.plant.sound → ((s.sequencesEnded i).onPlant (Plant.markLoads i)).plant.sound) := fun hp => by
    rw [State.onPlant_plant]
    exact (Plant.sameUnits_markLoads i _).sound (State.moves_sequencesEnded hp i).sound
  rw [State.restartStation_eq]
  exact (((State.works_marked i s).upkeep hended).trans
    (State.upkeep_setNoted i true _)).trans (State.upkeep_raiseStation i .restarted _)

theorem State.visits_restartStation (i : StationId) (s : State) : s.Visits (s.restartStation i) := by
  rw [State.restartStation_eq]
  exact ((State.works_marked i s).visits.trans (State.visits_setStation i _ _)).trans
    (State.works_raiseStation i .restarted _).visits

theorem State.upkeep_judgeRestart (i : StationId) (flag : Bool) (s : State) : s.Upkeep (s.judgeRestart i flag) := by
  unfold State.judgeRestart
  split
  · exact s.upkeep_restartStation i
  · split
    · exact .rfl
    · exact State.upkeep_setNoted i false s

theorem State.visits_judgeRestart (i : StationId) (flag : Bool) (s : State) : s.Visits (s.judgeRestart i flag) := by
  unfold State.judgeRestart
  split
  · exact s.visits_restartStation i
  · split
    · exact .rfl
    · exact State.visits_setStation i _ s

/-! ## The channel reports and the gate checks (R46, R116) -/

/-- The station's last call and last lockout of a channel are as reported (R5, R116). -/
def Station.reported (c : Channel) (r : Report) (st : Station) : Station :=
  { st with lastCall := st.lastCall.set c r.call, lastLockout := st.lastLockout.set c r.lockout }

/-- A report's channel values are noted, and NEW_CALL set by a call that was off (R116, R132). -/
def State.noteReport (i : StationId) (c : Channel) (r : Report) (s : State) : State :=
  if r.call && !(s.station i).lastCall[c] then
    (s.setStation i (Station.reported c r)).flagRound (fun f => { f with newCall := true })
  else s.setStation i (Station.reported c r)

theorem State.takeChannel_eq (i : StationId) (mark : RestartMark) (c : Channel) (r : Report) (s : State) :
    s.takeChannel i mark c r = match s.plant.loadAt? i c with
      | none => s.noteReport i c r
      | some l => (s.noteReport i c r).takeReport l.num (adoptionOf mark l.num) (s.station i).lastCall[c]
        (s.station i).lastLockout[c] r := by
  rw [State.takeChannel] <;> rfl

theorem State.upkeep_noteReport (i : StationId) (c : Channel) (r : Report) (s : State) : s.Upkeep (s.noteReport i c r) := by
  have hkept := State.upkeep_setStation_keeping (f := Station.reported c r) i (fun _ => ⟨rfl, rfl⟩) s
  unfold State.noteReport
  split
  · exact hkept.trans (State.upkeep_flagRound _ _)
  · exact hkept

theorem State.visits_noteReport (i : StationId) (c : Channel) (r : Report) (s : State) : s.Visits (s.noteReport i c r) := by
  unfold State.noteReport
  split
  · exact ⟨rfl, rfl, rfl, rfl, rfl, rfl, .rfl⟩
  · exact State.visits_setStation i _ s

theorem State.upkeep_takeReport (n : Nat) (how : Adoption) (lastCall lastLockout : Bool) (r : Report) (s : State) :
    s.Upkeep (s.takeReport n how lastCall lastLockout r) :=
  (State.works_takeReport n how lastCall lastLockout r s).upkeep fun hp => State.takeReport_sound hp n how lastCall lastLockout r

theorem State.upkeep_takeChannel (i : StationId) (mark : RestartMark) (c : Channel) (r : Report) (s : State) :
    s.Upkeep (s.takeChannel i mark c r) := by
  rw [State.takeChannel_eq]
  split
  · exact s.upkeep_noteReport i c r
  · exact (s.upkeep_noteReport i c r).trans (State.upkeep_takeReport _ _ _ _ _ _)

theorem State.visits_takeChannel (i : StationId) (mark : RestartMark) (c : Channel) (r : Report) (s : State) :
    s.Visits (s.takeChannel i mark c r) := by
  rw [State.takeChannel_eq]
  split
  · exact s.visits_noteReport i c r
  · exact (s.visits_noteReport i c r).trans (State.works_takeReport _ _ _ _ _ _).visits

theorem State.upkeep_takeChannels (i : StationId) (mark : RestartMark) (cs : List Channel) (rs : List Report) (s : State) :
    s.Upkeep (s.takeChannels i mark cs rs) := by
  induction cs generalizing rs s with
  | nil => exact .rfl
  | cons c cs ih =>
    cases rs with
    | nil => exact .rfl
    | cons r rs =>
      rw [State.takeChannels]
      split
      · exact (s.upkeep_takeChannel i mark c r).trans (ih rs _)
      · exact ih rs s

theorem State.visits_takeChannels (i : StationId) (mark : RestartMark) (cs : List Channel) (rs : List Report) (s : State) :
    s.Visits (s.takeChannels i mark cs rs) := by
  induction cs generalizing rs s with
  | nil => exact .rfl
  | cons c cs ih =>
    cases rs with
    | nil => exact .rfl
    | cons r rs =>
      rw [State.takeChannels]
      split
      · exact (s.visits_takeChannel i mark c r).trans (ih rs _)
      · exact ih rs s

theorem State.upkeep_gateChecks (i : StationId) (s : State) : s.Upkeep (s.gateChecks i) :=
  (s.works_gateChecks i).upkeep fun hp => State.gateChecks_sound hp i

/-! ## The whole reply (R108) -/

/-- Steps 1 to 3 of a valid reply. -/
def State.resultsTaken (v : Visit) (r : Reply) (s : State) : State :=
  (match r.echo with
    | none => s.heard v.station
    | some e => (s.heard v.station).takeEcho v.station e).takeResults v r.results

theorem State.validReply_eq (v : Visit) (r : Reply) (s : State) : s.validReply v r =
    (((s.resultsTaken v r).judgeRestart v.station r.restart).takeChannels v.station
      ((s.resultsTaken v r).restartMark v.station r.restart) channelIds r.reports).gateChecks v.station := rfl

theorem State.upkeep_resultsTaken (v : Visit) (r : Reply) (s : State) : s.Upkeep (s.resultsTaken v r) := by
  unfold State.resultsTaken
  refine State.Upkeep.trans ?_ (State.upkeep_takeResults v r.results _)
  split
  · exact s.upkeep_heard v.station
  · exact (s.upkeep_heard v.station).trans (State.upkeep_takeEcho _ _ _)

theorem State.visits_resultsTaken (v : Visit) (r : Reply) (s : State) : s.Visits (s.resultsTaken v r) := by
  unfold State.resultsTaken
  refine State.Visits.trans ?_ (State.visits_takeResults v r.results _)
  split
  · exact s.visits_heard v.station
  · exact (s.visits_heard v.station).trans (State.works_takeEcho _ _ _).visits

theorem State.upkeep_validReply (v : Visit) (r : Reply) (s : State) : s.Upkeep (s.validReply v r) := by
  rw [State.validReply_eq]
  exact (((s.upkeep_resultsTaken v r).trans (State.upkeep_judgeRestart _ _ _)).trans
    (State.upkeep_takeChannels _ _ _ _ _)).trans (State.upkeep_gateChecks _ _)

theorem State.visits_validReply (v : Visit) (r : Reply) (s : State) : s.Visits (s.validReply v r) := by
  rw [State.validReply_eq]
  exact (((s.visits_resultsTaken v r).trans (State.visits_judgeRestart _ _ _)).trans
    (State.visits_takeChannels _ _ _ _ _)).trans (State.works_gateChecks _ _).visits

end

end Sys2Proof.Machine
end

section
/-!
PROOFS. What rounds, visits, timers and seconds keep sound.
-/

namespace Sys2Proof.Machine

section

variable {s t u : State} {i : StationId} {n : Nat}

theorem State.Upkeep.foldl {α : Type} {f : State → α → State} (h : ∀ s a, State.Upkeep s (f s a)) (as : List α) (s : State) :
    s.Upkeep (as.foldl f s) := by
  induction as generalizing s with
  | nil => exact .rfl
  | cons a as ih => exact (h s a).trans (ih _)

/-! ## Misses and exclusions (R107, R109, R110) -/

theorem Station.linkSound_misses {st : Station} (h : st.linkSound = true) : st.misses ≤ 7 := by
  unfold Station.linkSound at h
  cases hlink : st.link <;> simp [hlink, within] at h <;> omega

/-- The table of misses keeps link state and miss count in agreement (R109). -/
theorem Station.missed_linkSound {st : Station} (h : st.linkSound = true) : st.missed.linkSound = true := by
  unfold Station.linkSound at h
  have hmissed : st.missed.linkSound =
      ({ st with misses := min 7 (st.misses + 1), link := st.link.afterMiss (min 7 (st.misses + 1)) } : Station).linkSound := rfl
  rw [hmissed]
  cases hlink : st.link with
  | live =>
    simp only [hlink, beq_iff_eq] at h
    simp [h, LinkState.afterMiss, Station.linkSound, within]
  | unheard =>
    simp only [hlink, decide_eq_true_iff] at h
    interval_cases st.misses <;> rfl
  | suspect =>
    simp only [hlink, within_iff] at h
    obtain ⟨h1, h2⟩ := h
    interval_cases st.misses <;> rfl
  | lost =>
    simp only [hlink, within_iff] at h
    simp only [LinkState.afterMiss, Station.linkSound, within_iff]
    omega
  | excluded =>
    simp only [LinkState.afterMiss, Station.linkSound, decide_eq_true_iff]
    omega

theorem State.upkeep_dropStation (i : StationId) (s : State) : s.Upkeep (s.dropStation i) := by
  obtain ⟨-, -, -, hlink, hreset, -, hpending⟩ := State.dropStation_beyond i s
  refine ⟨fun hp => State.dropStation_sound hp i, fun j hj => ?_, (State.dropStation_evolves i s).queueSound, by rw [hlink],
    fun he => hlink ▸ he, hreset, hpending⟩
  by_cases hij : j = i
  · subst hij
    rw [State.dropStation_station_self]
    exact hj
  · rwa [State.dropStation_station_other hij]

theorem State.upkeep_countFault (s : State) : s.Upkeep s.countFault := s.works_countFault.upkeep id

theorem State.upkeep_miss (i : StationId) (s : State) : s.Upkeep (s.miss i) := by
  have hmissed : s.Upkeep (s.missed i) :=
    (s.upkeep_setStation i Station.missed Station.missed_linkSound).trans (State.upkeep_flagRound _ _)
  have hraised : (s.missed i).Upkeep ((s.missed i).lossRaised i) :=
    ((State.upkeep_raiseStation i .lost _).trans (State.upkeep_countFault _)).trans (State.upkeep_flagRound _ _)
  rw [State.miss_eq]
  split
  · exact (hmissed.trans hraised).trans (State.upkeep_dropStation i _)
  · exact hmissed

theorem State.upkeep_exclude (i : StationId) (s : State) : s.Upkeep (s.exclude i) := by
  have hexcluding : s.Upkeep (s.excluding i) :=
    s.upkeep_setStation i (fun st => { st with link := .excluded }) fun h => by
      have := Station.linkSound_misses h
      simpa [Station.linkSound] using this
  rw [State.exclude_eq]
  split
  · exact (hexcluding.trans (State.upkeep_dropStation i _)).trans (State.upkeep_evaluateBeacon _)
  · exact hexcluding.trans (State.upkeep_dropStation i _)

theorem Station.judged_linkSound {st : Station} {last : Nat} (h : st.linkSound = true) :
    (st.judged last i).linkSound = true := by
  have hmisses := Station.linkSound_misses h
  unfold Station.judged
  split_ifs
  · rfl
  · exact h
  · exact h
  · simpa [Station.linkSound] using hmisses

theorem State.upkeep_judgeStation (i : StationId) (s : State) : s.Upkeep (s.judgeStation i) := by
  rcases State.judgeStation_cases i s with ⟨-, hjudge⟩ | ⟨-, hjudge⟩
  · rw [hjudge]
    exact s.upkeep_exclude i
  · rw [hjudge]
    exact s.upkeep_setStation i _ Station.judged_linkSound

/-! ## Rounds and visits (R126 to R134) -/

theorem State.upkeep_startRound (s : State) : s.Upkeep s.startRound := by
  obtain ⟨line, hline⟩ := s.roundOpened.firstSlot_setSweep
  have hjudged : s.Upkeep s.roundJudged := by
    unfold State.roundJudged
    exact (s.upkeep_setSweep Sweep.takePending).trans (.foldl (fun s i => s.upkeep_judgeStation i) _ _)
  rw [State.startRound_eq, hline]
  exact (hjudged.trans (State.upkeep_flagRound _ _)).trans (State.upkeep_setSweep _ _)

theorem Sweep.stopped_sound {w : Sweep} (h : w.sound) : w.stopped.sound := by
  obtain ⟨hlast, hpending, hround, -, -⟩ := h
  refine ⟨?_, rfl, hround, fun _ => ⟨rfl, rfl, rfl⟩, iff_of_true rfl rfl⟩
  cases hp : w.pendingLast with
  | none => simpa [Sweep.stopped, Sweep.takePending, hp] using hlast
  | some k => simpa [Sweep.stopped, Sweep.takePending, hp] using hpending

theorem State.firstSlot_line_ne (s : State) : s.firstSlot.sweep.line ≠ .idle := by
  have hslot := s.firstSlot_line
  intro h
  rw [h] at hslot
  exact hslot

theorem State.startRound_line (s : State) : s.startRound.sweep.line ≠ .idle := by
  rw [State.startRound_eq]
  exact State.firstSlot_line_ne _

/-- The numbers of the sweep record keep their ranges (R121). -/
abbrev Sweep.inRange (w : Sweep) : Prop :=
  within 1 40 w.lastStation = true ∧ w.pendingLast.all (within 1 40) = true ∧ w.roundNumber < 65536

theorem Sweep.sound.inRange {w : Sweep} (h : w.sound) : w.inRange := ⟨h.1, h.2.1, h.2.2.1⟩

/-- While the sweep runs, soundness is that of its numbers and a line that is not idle. -/
theorem Sweep.sound_of_running {w : Sweep} (h : w.inRange) (hmode : w.mode ≠ .stopped) (hline : w.line ≠ .idle) : w.sound :=
  ⟨h.1, h.2.1, h.2.2, fun h => absurd h hmode, iff_of_false hmode hline⟩

theorem Sweep.sound.mode_ne {w : Sweep} (h : w.sound) (hline : w.line ≠ .idle) : w.mode ≠ .stopped :=
  fun hm => hline (h.2.2.2.2.mp hm)

theorem Sweep.takePending_inRange {w : Sweep} (h : w.inRange) : w.takePending.inRange := by
  obtain ⟨hlast, hpending, hround⟩ := h
  refine ⟨?_, rfl, hround⟩
  cases hp : w.pendingLast with
  | none => simpa [Sweep.takePending, hp] using hlast
  | some k => simpa [Sweep.takePending, hp] using hpending

theorem State.startRound_sweep_sound (h : s.sweep.inRange) (hmode : s.sweep.mode ≠ .stopped) : s.startRound.sweep.sound := by
  have hrange := Sweep.takePending_inRange h
  refine Sweep.sound_of_running ?_ ?_ s.startRound_line
  · rw [s.startRound_sweep]
    exact hrange
  · rw [s.startRound_mode.1]
    exact hmode

theorem State.keeps_startRound (hmode : s.sweep.mode ≠ .stopped) : s.Keeps s.startRound :=
  { toUpkeep := s.upkeep_startRound
    calendar := fun hc => by rwa [State.startRound_calendar]
    sweep := fun hw => State.startRound_sweep_sound hw.inRange hmode
    assent := fun ha => by rwa [State.startRound_assent] }

theorem State.keeps_raiseDevice (e : DeviceEvent) (s : State) : s.Keeps (s.raiseDevice e) :=
  (s.works_raiseDeviceWith 0 0 e).keeps fun hp => by rwa [State.raiseDeviceWith_plant]

theorem State.keeps_setSweep {f : Sweep → Sweep} (hf : s.sweep.sound → (f s.sweep).sound) : s.Keeps (s.setSweep f) :=
  ⟨State.upkeep_setSweep f s, id, hf, id⟩

theorem State.keeps_endPause (s : State) : s.Keeps s.endPause := by
  unfold State.endPause
  split
  · next hmode =>
    split
    · exact State.keeps_setSweep Sweep.stopped_sound
    · exact State.keeps_startRound (by rw [hmode]; nofun)
  · exact (State.keeps_setSweep Sweep.stopped_sound).trans (State.keeps_raiseDevice _ _)
  · exact .rfl

theorem State.keeps_roundEnded (hline : s.sweep.line ≠ .idle) : s.Keeps s.roundEnded := by
  rw [State.roundEnded_eq]
  refine (State.keeps_raiseDevice .digest s).trans (State.keeps_setSweep fun hw => ?_)
  rw [State.raiseDevice_sweep] at hw ⊢
  exact Sweep.sound_of_running ⟨hw.1, hw.2.1, Nat.mod_lt _ (by decide)⟩ (hw.mode_ne hline) nofun

theorem State.keeps_endRound (hline : s.sweep.line ≠ .idle) : s.Keeps s.endRound := by
  rw [State.endRound_eq]
  split
  · exact (State.keeps_roundEnded hline).trans (State.keeps_endPause _)
  · exact State.keeps_roundEnded hline

/-- While the line is not idle, changes of the round flags leave the sweep record sound. -/
theorem Sweep.sound.flags {w : Sweep} (hw : w.sound) (hline : w.line ≠ .idle) (flags : RoundFlags) :
    ({ w with flags } : Sweep).sound :=
  Sweep.sound_of_running hw.inRange (hw.mode_ne hline) hline

/-- The line moves on in a running sweep. -/
theorem Sweep.sound.line {w : Sweep} (hw : w.sound) (hline : w.line ≠ .idle) {line : LinePhase} (hline' : line ≠ .idle) :
    ({ w with line } : Sweep).sound :=
  Sweep.sound_of_running hw.inRange (hw.mode_ne hline) hline'

theorem State.keeps_setPhase {v w : Visit} (hline : s.sweep.line = .slot w) (phase : SlotPhase) :
    s.Keeps (s.setPhase v phase) :=
  State.keeps_setSweep fun hw => hw.line (by rw [hline]; nofun) nofun

theorem State.keeps_miss (hline : s.sweep.line ≠ .idle) (i : StationId) : s.Keeps (s.miss i) := by
  obtain ⟨hcalendar, hassent, -⟩ := State.miss_beyond i s
  refine ⟨s.upkeep_miss i, fun hc => hcalendar ▸ hc, fun hw => ?_, fun ha => hassent ▸ ha⟩
  rw [State.miss_sweep]
  exact hw.flags hline _

theorem State.keeps_missVisit {v : Visit} (hline : s.sweep.line = .slot v) : s.Keeps (s.missVisit v) :=
  (State.keeps_setPhase hline .over).trans (State.keeps_miss (s := s.setPhase v .over) (fun h => LinePhase.noConfusion h) v.station)

theorem State.keeps_validReply (hline : s.sweep.line ≠ .idle) (v : Visit) (r : Reply) : s.Keeps (s.validReply v r) := by
  have hvisits := s.visits_validReply v r
  refine ⟨s.upkeep_validReply v r, fun hc => hvisits.calendar ▸ hc, fun hw => ?_, fun ha => hvisits.assent ▸ ha⟩
  rw [hvisits.sweep]
  exact hw.flags hline _

theorem State.keeps_beginVisit (hline : s.sweep.line ≠ .idle) (i : StationId) : s.Keeps (s.beginVisit i) :=
  State.keeps_setSweep fun hw => hw.line hline nofun

theorem State.keeps_endSlot (s : State) : s.Keeps s.endSlot := by
  have hnext {t : State} (hline : t.sweep.line ≠ .idle) (k : Nat) : t.Keeps (match t.nextVisit k with
      | some i => t.beginVisit i
      | none => t.endRound) := by
    split
    · exact State.keeps_beginVisit hline _
    · exact State.keeps_endRound hline
  unfold State.endSlot
  split
  · next v hline =>
    have hrunning : s.sweep.line ≠ .idle := by rw [hline]; nofun
    dsimp only
    by_cases hphase : v.phase = .over
    · rw [if_pos hphase]
      exact hnext hrunning _
    · rw [if_neg hphase]
      refine (State.keeps_miss hrunning v.station).trans (hnext ?_ _)
      rw [State.miss_sweep]
      exact hrunning
  · next hline => exact State.keeps_endRound (by rw [hline]; nofun)
  · exact .rfl
  · exact .rfl

theorem State.keeps_frameSent (s : State) : s.Keeps s.frameSent := by
  unfold State.frameSent
  split
  · next v hline =>
    split
    · exact State.keeps_setPhase hline _
    · exact .rfl
  · exact .rfl

theorem State.keeps_replyBegins (s : State) : s.Keeps s.replyBegins := by
  unfold State.replyBegins
  split
  · next v hline =>
    split
    · exact State.keeps_setPhase hline _
    · exact .rfl
  · exact .rfl

theorem State.keeps_startLimitPasses (s : State) : s.Keeps s.startLimitPasses := by
  unfold State.startLimitPasses
  split
  · next v hline =>
    split
    · exact State.keeps_missVisit hline
    · exact .rfl
  · exact .rfl

theorem State.keeps_replyFault (s : State) : s.Keeps s.replyFault := by
  unfold State.replyFault
  split
  · next v hline =>
    split
    · exact State.keeps_missVisit hline
    · exact .rfl
  · exact .rfl

theorem State.keeps_replyEnds (chars : List Byte) (s : State) : s.Keeps (s.replyEnds chars) := by
  unfold State.replyEnds
  split
  · next v hline =>
    split
    · split
      · exact (State.keeps_setPhase hline .over).trans (State.keeps_validReply (s := s.setPhase v .over)
          (fun h => LinePhase.noConfusion h) v _)
      · exact State.keeps_missVisit hline
    · exact .rfl
  · exact .rfl

end

end Sys2Proof.Machine
end

section
/-!
PROOFS. What the assent monitor keeps sound (R139 to R152).
-/

namespace Sys2Proof.Machine

/-! ## The record (R139, R141, R142, R150) -/

section

variable {a : Assent} {next : AssentState}

/-- PERMIT judged at a count is set only at the low threshold (R150). -/
theorem Assent.permitAt_low (ha : a.params.sound) {trust : Nat} (h : a.permitAt trust = true) :
    a.params.lowThreshold ≤ trust := by
  obtain ⟨-, -, -, -, -, hlow, -⟩ := ha
  unfold Assent.permitAt at h
  split at h
  · exact of_decide_eq_true h
  · have := of_decide_eq_true h
    omega

/-- A sound record that moves to another running state with another count. -/
theorem Assent.moved_sound (ha : a.sound) {trust : Nat} (htrust : trust ≤ 15) (flags : AssentFlags) {token : Nat}
    (htoken : token < 65536) (hwindow : ({ a with state := next } : Assent).windowRuns = true) (hruns : next.runs = true) :
    ({ a with trust, permit := a.permitAt trust, state := next, flags, token } : Assent).sound := by
  obtain ⟨hparams, -, hlapses, -, -, -, -⟩ := ha
  refine ⟨hparams, htrust, hlapses, htoken, hwindow, fun h => ?_, Assent.permitAt_low hparams⟩
  rw [show ({ a with trust, permit := a.permitAt trust, state := next, flags, token } : Assent).state = next from rfl,
    hruns] at h
  exact absurd h nofun

theorem Assent.afterLapse_sound (ha : a.sound) (byCount : Bool) : (a.afterLapse byCount).sound :=
  ⟨ha.1, Nat.zero_le _, min_le_left _ _, ha.2.2.2.1, rfl, fun _ => ⟨rfl, rfl⟩, fun h => absurd h nofun⟩

theorem Assent.sound_flags (ha : a.sound) (flags : AssentFlags) : ({ a with flags } : Assent).sound := ha

theorem Assent.afterBad_sound (ha : a.sound) (hwindow : ({ a with state := next } : Assent).windowRuns = true)
    (hruns : next.runs = true) : (a.afterBad next).sound := by
  rw [Assent.afterBad_eq]
  split
  · exact Assent.afterLapse_sound ha true
  · exact Assent.moved_sound ha ((Nat.sub_le _ _).trans ha.2.1) a.flags ha.2.2.2.1 hwindow hruns

theorem Assent.flagged_afterBad_sound (ha : a.sound) (flags : AssentFlags)
    (hwindow : ({ a with state := next } : Assent).windowRuns = true) (hruns : next.runs = true) :
    (({ a with flags } : Assent).afterBad next).sound :=
  Assent.afterBad_sound (a := { a with flags }) (Assent.sound_flags ha flags) hwindow hruns

theorem Assent.afterGood_sound (ha : a.sound) {token : Nat} (htoken : token < 65536)
    (hwindow : ({ a with state := next } : Assent).windowRuns = true) (hruns : next.runs = true) :
    ({ a.afterGood next with token } : Assent).sound :=
  Assent.moved_sound ha (min_le_left _ _) a.flags htoken hwindow hruns

/-- A window that has just been started runs: its close delta is at least 1 (R140, R141). -/
theorem Assent.answerWindow_runs (ha : a.sound) : ({ a with state := .awaitAnswer 0 } : Assent).windowRuns = true := by
  obtain ⟨hclose, -⟩ := ha.1
  refine decide_eq_true ?_
  dsimp only
  unfold AssentParams.answerEnd
  omega

theorem Assent.requestWindow_runs (ha : a.sound) : ({ a with state := .awaitChallenge 0 } : Assent).windowRuns = true := by
  obtain ⟨-, hclose, -⟩ := ha.1
  refine decide_eq_true ?_
  dsimp only
  unfold AssentParams.requestEnd
  omega

/-- A record in another window state, PERMIT and count as before. -/
theorem Assent.setState_sound (ha : a.sound)
    (hwindow : ({ a with state := next } : Assent).windowRuns = true) (hruns : next.runs = true) :
    ({ a with state := next } : Assent).sound := by
  obtain ⟨hparams, htrust, hlapses, htoken, -, -, hpermit⟩ := ha
  refine ⟨hparams, htrust, hlapses, htoken, hwindow, fun h => ?_, hpermit⟩
  rw [show ({ a with state := next } : Assent).state = next from rfl, hruns] at h
  exact absurd h nofun

theorem Assent.afterChallenge_sound (ha : a.sound) : a.afterChallenge.sound := by
  have hwindow := Assent.answerWindow_runs ha
  have hstarted : a.started.sound := by
    obtain ⟨-, -, -, hcount, -⟩ := ha.1
    exact Assent.moved_sound ha hcount a.flags ha.2.2.2.1 hwindow rfl
  unfold Assent.afterChallenge
  cases hstate : a.state with
  | dormant => exact hstarted
  | lapsed => exact hstarted
  | awaitAnswer e => exact Assent.afterBad_sound ha hwindow rfl
  | awaitChallenge e =>
    dsimp only
    unfold Assent.afterRequest
    split_ifs
    · exact Assent.setState_sound ha hwindow rfl
    · exact Assent.flagged_afterBad_sound ha _ hwindow rfl
    · exact Assent.afterGood_sound (token := a.token) ha ha.2.2.2.1 hwindow rfl
    · exact Assent.flagged_afterBad_sound ha _ hwindow rfl

theorem Assent.afterJudged_sound (ha : a.sound) (j : Judgement) : (a.afterJudged j).sound := by
  have hwindow := Assent.requestWindow_runs ha
  cases j with
  | early => exact Assent.flagged_afterBad_sound ha _ hwindow rfl
  | late => exact Assent.flagged_afterBad_sound ha _ hwindow rfl
  | wrong => exact Assent.flagged_afterBad_sound ha _ hwindow rfl
  | inWindow => exact Assent.afterGood_sound ha (Nat.mod_lt _ (by decide)) hwindow rfl

/-- The record after a timeout, by its action (R148, R149). -/
def Assent.afterTimeout (restarted : AssentState) (a : Assent) : Assent :=
  if a.params.timeoutLapse then a.afterLapse false else a.afterBad restarted

theorem Assent.afterTimeout_sound (ha : a.sound) (flags : AssentFlags)
    (hwindow : ({ a with state := next } : Assent).windowRuns = true) (hruns : next.runs = true) :
    (({ a with flags } : Assent).afterTimeout next).sound := by
  unfold Assent.afterTimeout
  split
  · exact Assent.afterLapse_sound (a := { a with flags }) (Assent.sound_flags ha flags) false
  · exact Assent.flagged_afterBad_sound ha flags hwindow hruns

end

/-! ## The monitor's operations -/

section

variable {s t : State}

theorem State.upkeep_judgePermit (s : State) : s.Upkeep s.judgePermit := by
  unfold State.judgePermit
  split_ifs
  · exact (s.upkeep_setAssent _).trans (State.upkeep_raiseDevice _ _)
  · exact (s.upkeep_setAssent _).trans (State.upkeep_raiseDevice _ _)
  · exact .rfl

theorem State.upkeep_goodStep (s : State) : s.Upkeep s.goodStep := (s.upkeep_setAssent _).trans (State.upkeep_judgePermit _)

theorem State.upkeep_badStep (s : State) : s.Upkeep s.badStep := (s.upkeep_setAssent _).trans (State.upkeep_judgePermit _)

theorem State.upkeep_lapse (byCount : Bool) (s : State) : s.Upkeep (s.lapse byCount) := by
  have hclear (s : State) : s.Upkeep s.clearPermit := by
    unfold State.clearPermit
    split
    · exact (s.upkeep_setAssent _).trans (State.upkeep_raiseDevice _ _)
    · exact .rfl
  rw [State.lapse_eq]
  have hbegun : s.Upkeep (s.lapseBegun byCount) :=
    (((s.upkeep_setAssent _).trans (hclear _)).trans (State.upkeep_setAssent _ _)).trans (State.upkeep_raiseDevice _ _)
  exact (hbegun.trans (State.upkeep_countFault _)).trans (State.upkeep_wakeAll _ _)

theorem State.upkeep_badStepThen (next : AssentState) (s : State) : s.Upkeep (s.badStepThen next) := by
  unfold State.badStepThen
  split
  · exact s.upkeep_badStep.trans (State.upkeep_lapse _ _)
  · exact s.upkeep_badStep.trans (State.upkeep_setAssent _ _)

/-- A step of the monitor keeps every block sound when it leaves a sound record. -/
theorem State.Upkeep.keeps_moved {a : Assent} (h : s.Upkeep t) (k : s.blocks.Moved a t.blocks)
    (ha : s.assent.sound → a.sound) : s.Keeps t := by
  have hblocks := k.blocks
  exact
    { toUpkeep := h
      calendar := fun hc => by
        have : t.calendar = s.calendar := congrArg Blocks.calendar hblocks
        rwa [this]
      sweep := fun hw => by
        have : t.sweep = s.sweep := congrArg Blocks.sweep hblocks
        rwa [this]
      assent := fun hs => by
        have : t.assent = a := congrArg Blocks.assent hblocks
        rw [this]
        exact ha hs }

theorem State.keeps_badStepThen {next : AssentState} (hnext : next ≠ .lapsed) (hruns : next.runs = true)
    (hwindow : s.assent.sound → ({ s.assent with state := next } : Assent).windowRuns = true) :
    s.Keeps (s.badStepThen next) :=
  (s.upkeep_badStepThen next).keeps_moved (State.badStepThen_moved hnext s)
    fun ha => Assent.afterBad_sound ha (hwindow ha) hruns

theorem State.upkeep_judgeRequest (elapsed : Nat) (s : State) : s.Upkeep (s.judgeRequest elapsed) := by
  unfold State.judgeRequest
  split
  · split
    · exact (s.upkeep_setAssent _).trans (State.upkeep_badStepThen _ _)
    · exact s.upkeep_goodStep.trans (State.upkeep_setAssent _ _)
    · exact (s.upkeep_setAssent _).trans (State.upkeep_badStepThen _ _)
  · exact s.upkeep_setAssent _

theorem State.upkeep_startMonitor (s : State) : s.Upkeep s.startMonitor := by
  have hstarted := (s.upkeep_setAssent (fun a => { a with trust := a.params.startCount, state := .awaitAnswer 0 })).trans
    (State.upkeep_judgePermit _)
  unfold State.startMonitor
  dsimp only
  split
  · exact hstarted.trans (State.upkeep_evaluateBeacon _)
  · exact hstarted

theorem State.keeps_challenged (s : State) : s.Keeps s.challenged := by
  have hupkeep : s.Upkeep s.challenged := by
    unfold State.challenged
    split
    · exact s.upkeep_startMonitor
    · exact s.upkeep_startMonitor
    · exact s.upkeep_judgeRequest _
    · exact s.upkeep_badStepThen _
  have hblocks := s.challenged_blocks.blocks
  exact
    { toUpkeep := hupkeep
      calendar := fun hc => by
        have : s.challenged.calendar = s.calendar := congrArg Blocks.calendar hblocks
        rwa [this]
      sweep := fun hw => by
        have : s.challenged.sweep = s.sweep := congrArg Blocks.sweep hblocks
        rwa [this]
      assent := fun ha => by
        have : s.challenged.assent = s.assent.afterChallenge := congrArg Blocks.assent hblocks
        rw [this]
        exact Assent.afterChallenge_sound ha }

theorem State.upkeep_answered (j : Judgement) (s : State) : s.Upkeep (s.answered j) := by
  cases j with
  | early => exact (s.upkeep_setAssent _).trans (State.upkeep_badStepThen _ _)
  | late => exact (s.upkeep_setAssent _).trans (State.upkeep_badStepThen _ _)
  | wrong => exact (s.upkeep_setAssent _).trans (State.upkeep_badStepThen _ _)
  | inWindow =>
    unfold State.answered
    exact s.upkeep_goodStep.trans (State.upkeep_setAssent _ _)

theorem State.keeps_answered (j : Judgement) (s : State) : s.Keeps (s.answered j) :=
  (s.upkeep_answered j).keeps_moved (State.answered_moved j s) fun ha => Assent.afterJudged_sound ha j

theorem keeps_doAnswer (echo value : Nat) (s : State) : s.Keeps (doAnswer echo value s).1 := by
  cases hstate : s.assent.state with
  | dormant =>
    rw [doAnswer_resting (.inl hstate)]
    exact .rfl
  | lapsed =>
    rw [doAnswer_resting (.inr hstate)]
    exact .rfl
  | awaitAnswer e =>
    rw [doAnswer_awaitAnswer hstate]
    exact s.keeps_answered _
  | awaitChallenge e =>
    rw [doAnswer_awaitChallenge hstate]
    refine State.keeps_badStepThen nofun rfl fun ha => ?_
    have hwindow := ha.2.2.2.2.1
    rwa [show ({ s.assent with state := .awaitChallenge e } : Assent) = s.assent from by rw [← hstate]]

/-! ## The timeouts (R141, R148, R149) -/

theorem State.timeOut_moved {restarted : AssentState} (h : restarted ≠ .lapsed) (s : State) :
    s.blocks.Moved (s.assent.afterTimeout restarted) (s.timeOut restarted).blocks := by
  unfold State.timeOut Assent.afterTimeout
  split
  · exact s.lapse_moved false
  · exact State.badStepThen_moved h s

theorem State.upkeep_timeOut (restarted : AssentState) (s : State) : s.Upkeep (s.timeOut restarted) := by
  unfold State.timeOut
  split
  · exact s.upkeep_lapse false
  · exact s.upkeep_badStepThen restarted

/-- The record with the answer timeout flag set (R148). -/
def Assent.answerOverdue (a : Assent) : Assent := { a with flags := { a.flags with answerTimeout := true } }

/-- The record with the request timeout flag set (R149). -/
def Assent.requestOverdue (a : Assent) : Assent := { a with flags := { a.flags with requestTimeout := true } }

theorem State.answerTimesOut_moved (s : State) :
    s.blocks.Moved (s.assent.answerOverdue.afterTimeout (.awaitAnswer 0)) s.answerTimesOut.blocks :=
  (s.setAssent_stepped Assent.answerOverdue).moved
    (State.timeOut_moved AssentState.awaitAnswer_ne_lapsed (s.setAssent Assent.answerOverdue))

theorem State.requestTimesOut_moved (s : State) :
    s.blocks.Moved (s.assent.requestOverdue.afterTimeout (.awaitChallenge 0)) s.requestTimesOut.blocks :=
  (s.setAssent_stepped Assent.requestOverdue).moved
    (State.timeOut_moved AssentState.awaitChallenge_ne_lapsed (s.setAssent Assent.requestOverdue))

theorem State.keeps_answerTimesOut (s : State) : s.Keeps s.answerTimesOut :=
  ((s.upkeep_setAssent _).trans (State.upkeep_timeOut _ _)).keeps_moved s.answerTimesOut_moved
    fun ha => Assent.afterTimeout_sound ha _ (Assent.answerWindow_runs ha) rfl

theorem State.keeps_requestTimesOut (s : State) : s.Keeps s.requestTimesOut :=
  ((s.upkeep_setAssent _).trans (State.upkeep_timeOut _ _)).keeps_moved s.requestTimesOut_moved
    fun ha => Assent.afterTimeout_sound ha _ (Assent.requestWindow_runs ha) rfl

theorem State.keeps_setAssent {f : Assent → Assent} (hf : s.assent.sound → (f s.assent).sound) : s.Keeps (s.setAssent f) :=
  ⟨s.upkeep_setAssent f, id, id, hf⟩

theorem State.keeps_quarterPasses (s : State) : s.Keeps s.quarterPasses := by
  unfold State.quarterPasses
  split
  · split
    · exact s.keeps_answerTimesOut
    · next hbefore =>
      refine State.keeps_setAssent fun ha => Assent.setState_sound ha ?_ rfl
      exact decide_eq_true (not_le.mp hbefore)
  · split
    · exact s.keeps_requestTimesOut
    · next hbefore =>
      refine State.keeps_setAssent fun ha => Assent.setState_sound ha ?_ rfl
      exact decide_eq_true (not_le.mp hbefore)
  · exact .rfl
  · exact .rfl

end

end Sys2Proof.Machine
end

section
/-!
PROOFS. What the calendar, the seconds event and the timers keep sound (R30, R39, R55 to R61, R79, R83, R86, R93, R98).
-/

namespace Sys2Proof.Machine

/-! ## The calendar through a second (R93, R98 to R100) -/

/-- The calendar after the advance of a set clock, before an evaluation: the clock, and the purge at midnight. -/
def Calendar.advanced (c : Calendar) : Calendar :=
  match c.clock with
  | none => c
  | some k =>
    if k.seconds = 86399 then ({ c with clock := some k.advance } : Calendar).purge k.advance.date
    else { c with clock := some k.advance }

/-- An evaluation holds the values of the profiles (R100). -/
def Calendar.evaluated (c : Calendar) : Calendar := { c with held := c.values }

/-- The clock stands at a slot boundary. -/
def Calendar.atBoundary (c : Calendar) : Bool :=
  match c.clock with
  | none => false
  | some k => k.seconds % 1800 == 0

/-- The calendar after a seconds event (R93, R100). -/
def Calendar.secondLater (c : Calendar) : Calendar :=
  if c.advanced.atBoundary then c.advanced.evaluated else c.advanced

theorem Calendar.advanced_clock (c : Calendar) : c.advanced.clock = c.clock.map Clock.advance := by
  unfold Calendar.advanced
  cases h : c.clock with
  | none => exact h
  | some k =>
    dsimp only
    split <;> rfl

theorem Calendar.advanced_held (c : Calendar) : c.advanced.held = c.held ∧ c.advanced.profiles = c.profiles := by
  unfold Calendar.advanced
  split
  · exact ⟨rfl, rfl⟩
  · split <;> exact ⟨rfl, rfl⟩

theorem Calendar.advanced_holidays (c : Calendar) : c.advanced.holidays = match c.clock with
    | none => c.holidays
    | some k =>
      if k.seconds = 86399 then c.holidays.filter (fun h => !h.date.before k.date.next) else c.holidays := by
  unfold Calendar.advanced
  split
  · rfl
  · next k _ =>
    split
    · next hlast =>
      rw [Clock.advance, if_pos hlast]
      rfl
    · rfl

theorem Clock.advance_sound {k : Clock} (h : k.sound = true) : k.advance.sound = true := (clockAdvancesByOneSecond k h).1

theorem Calendar.clockSound_iff {c : Calendar} : c.clockSound = true ↔ ∀ k, c.clock = some k → k.sound = true := by
  unfold Calendar.clockSound
  cases c.clock <;> simp

theorem Calendar.advanced_listSound {c : Calendar} (h : c.listSound) : c.advanced.listSound := by
  obtain ⟨hsorted, hlength, hvalid⟩ := h
  unfold Calendar.advanced
  split
  · exact ⟨hsorted, hlength, hvalid⟩
  · split
    · exact ⟨hsorted.sublist List.filter_sublist, (List.length_filter_le _ _).trans hlength,
        fun x hx => hvalid x (List.mem_filter.mp hx).1⟩
    · exact ⟨hsorted, hlength, hvalid⟩

theorem Calendar.advanced_clockSound {c : Calendar} (h : c.clockSound = true) : c.advanced.clockSound = true := by
  rw [Calendar.clockSound_iff] at h ⊢
  rw [Calendar.advanced_clock]
  intro k hk
  obtain ⟨k', hk', rfl⟩ := Option.map_eq_some_iff.mp hk
  exact Clock.advance_sound (h k' hk')

/-- Away from a slot boundary the second just passed changes no profile's value. -/
theorem Calendar.advanced_values {c : Calendar} (h : c.advanced.atBoundary = false) : c.advanced.values = c.values := by
  cases hclock : c.clock with
  | none => rw [Calendar.advanced, hclock]
  | some k =>
    have hclock' : c.advanced.clock = some k.advance := by rw [Calendar.advanced_clock, hclock]; rfl
    rw [Calendar.atBoundary, hclock'] at h
    have hslot : k.advance.seconds % 1800 ≠ 0 := by simpa using h
    have hlast : k.seconds ≠ 86399 := by
      rintro hlast
      rw [Clock.advance, if_pos hlast] at hslot
      exact hslot rfl
    have hadvance : k.advance = { k with seconds := k.seconds + 1 } := if_neg hlast
    have hsame : (k.seconds + 1) / 1800 = k.seconds / 1800 := by
      rw [hadvance] at hslot
      dsimp only at hslot
      omega
    have hvalue (p : ProfileId) : ({ c with clock := some k.advance } : Calendar).value p = c.value p := by
      simp only [Calendar.value, hclock, hadvance, hsame]
      rfl
    rw [Calendar.advanced, hclock]
    dsimp only
    rw [if_neg hlast]
    simp only [Calendar.values, hvalue]

theorem Calendar.secondLater_sound {c : Calendar} (h : c.sound) : c.secondLater.sound := by
  obtain ⟨hlist, hclock, hheld⟩ := h
  unfold Calendar.secondLater
  split
  · exact ⟨Calendar.advanced_listSound hlist, Calendar.advanced_clockSound hclock, rfl⟩
  · next hb =>
    refine ⟨Calendar.advanced_listSound hlist, Calendar.advanced_clockSound hclock, ?_⟩
    rw [c.advanced_held.1, Calendar.advanced_values (Bool.eq_false_of_not_eq_true hb), hheld]

theorem Calendar.evaluated_sound {c : Calendar} (hlist : c.listSound) (hclock : c.clockSound = true) : c.evaluated.sound :=
  ⟨hlist, hclock, rfl⟩

/-! ## The seconds event (R30, R39, R79, R93) -/

section

variable {s t : State} {i : StationId} {n : Nat}

/-- The load one second on: its timer and its sample's age (R30, log entry 5). -/
def Load.secondOlder (l : Load) : Load := { l.ageSample with timer := l.timer.map Timer.tick }

/-- The feeder one second on. -/
def Feeder.secondOlder (f : Feeder) : Feeder := { f with spacingTimer := f.spacingTimer.map Timer.tick }

theorem Plant.ageAll_eq (p : Plant) : p.ageAll =
    feederIds.foldl (fun q i => q.setFeeder i Feeder.secondOlder) { p with loads := p.loads.map Load.secondOlder } := rfl

theorem Plant.ageAll_loads (p : Plant) : p.ageAll.loads = p.loads.map Load.secondOlder := by
  rw [Plant.ageAll_eq, (Plant.foldl_setFeeder_rest Feeder.secondOlder feederIds _).1]

theorem Plant.ageAll_feeder (p : Plant) (i : FeederId) : p.ageAll.feeder i = (p.feeder i).secondOlder := by
  rw [Plant.ageAll_eq, Plant.foldl_setFeeder _ feederIds_nodup, if_pos (mem_feederIds i)]
  rfl

theorem Plant.sameUnits_ageAll (p : Plant) : p.SameUnits p.ageAll := by
  refine ⟨?_, fun i => ?_⟩
  · rw [Plant.ageAll_loads, List.map_map]
    rfl
  · rw [Plant.ageAll_feeder]
    rfl

theorem Plant.frame_ageAll (p : Plant) : p.Frame p.ageAll := by
  obtain ⟨-, hstations, hgroups, hcurves⟩ := Plant.foldl_setFeeder_rest Feeder.secondOlder feederIds
    { p with loads := p.loads.map Load.secondOlder }
  refine ⟨fun i => congrArg Station.core (Plant.station_of_stations hstations i), fun i => ?_, hgroups, hcurves⟩
  rw [Plant.ageAll_feeder]
  rfl

theorem Load.countDwell_unitView (l : Load) : l.countDwell.unitView = l.unitView := by
  unfold Load.countDwell
  split
  · next h =>
    split
    · simp [Load.unitView, Load.isWaking, h.1]
    · rfl
  · rfl

theorem Load.dwellEnded_unitView (l : Load) : l.dwellEnded.unitView = l.unitView := by
  unfold Load.dwellEnded
  split
  · exact l.countDwell_unitView
  · rfl

theorem State.keeps_dwellComplete (n : Nat) (s : State) : s.Keeps (s.setLoad n Load.dwellEnded) :=
  (s.works_setLoad n _).keeps fun hp => (Plant.sameUnits_setLoad n _ s.plant Load.dwellEnded_unitView).sound hp

/-- A stop time that lies later than the reading becomes the reading (R79). -/
def Load.stopBy (t : Stamp) (l : Load) : Load :=
  { l with stopTime := l.stopTime.map (fun stop => if t.absolute < stop.absolute then t else stop) }

theorem State.adjustStopTimes_eq (s : State) : s.adjustStopTimes = match s.now with
    | none => s
    | some t => s.onPlant (fun p => { p with loads := p.loads.map (Load.stopBy t) }) := rfl

theorem State.keeps_adjustStopTimes (s : State) : s.Keeps s.adjustStopTimes := by
  rw [State.adjustStopTimes_eq]
  split
  · exact .rfl
  · next t _ =>
    exact (State.works_onPlant (Plant.frame_loads s.plant _)).keeps
      fun hp => (Plant.sameUnits_loads (f := Load.stopBy t) (fun _ => rfl) s.plant).sound hp

theorem State.adjustStopTimes_calendar (s : State) : s.adjustStopTimes.calendar = s.calendar := by
  unfold State.adjustStopTimes
  split <;> rfl

theorem State.advanceClock_calendar (s : State) : s.advanceClock.calendar = s.calendar.advanced := by
  unfold State.advanceClock Calendar.advanced
  cases hclock : s.calendar.clock with
  | none => rfl
  | some k =>
    dsimp only
    have hadjusted : (if k.isWrap then (s.setCalendar (fun c => { c with clock := some k.advance })).adjustStopTimes
        else s.setCalendar (fun c => { c with clock := some k.advance })).calendar =
        { s.calendar with clock := some k.advance } := by
      split
      · rw [State.adjustStopTimes_calendar]
        rfl
      · rfl
    split
    · rw [State.setCalendar_calendar, hadjusted]
    · exact hadjusted

theorem State.upkeep_advanceClock (s : State) : s.Upkeep s.advanceClock := by
  unfold State.advanceClock
  split
  · exact .rfl
  · dsimp only
    have hadjusted (k : Clock) : s.Upkeep
        (if k.isWrap then (s.setCalendar (fun c => { c with clock := some k.advance })).adjustStopTimes
        else s.setCalendar (fun c => { c with clock := some k.advance })) := by
      split
      · exact (s.upkeep_setCalendar _).trans (State.keeps_adjustStopTimes _).toUpkeep
      · exact s.upkeep_setCalendar _
    split
    · exact (hadjusted _).trans (State.upkeep_setCalendar _ _)
    · exact hadjusted _

theorem State.upkeep_takeProfiles (s : State) : s.Upkeep s.takeProfiles := by
  have hchange (before : Vector Bool 4) (s : State) (p : ProfileId) : s.Upkeep (s.raiseChange before p) := by
    have hwith (o c : BitVec 4) (e : DeviceEvent) : s.Upkeep (s.raiseDeviceWith o c e) :=
      (s.works_raiseDeviceWith o c e).upkeep fun hp => by rwa [State.raiseDeviceWith_plant]
    unfold State.raiseChange
    split
    · exact .rfl
    · split
      · exact hwith _ _ _
      · exact hwith _ _ _
  exact (s.upkeep_setCalendar (fun c => { c with held := c.values })).trans
    (.foldl (fun t p => hchange s.calendar.held t p) profileIds _)

theorem State.takeProfiles_calendar (s : State) : s.takeProfiles.calendar = s.calendar.evaluated :=
  s.takeProfiles_onlyNotices.calendar

theorem Plant.sameFrame_attemptFor (clock : Option Clock) (ls : List Load) (p : Plant) :
    p.SameFrame (p.attemptFor clock ls) := by
  refine .foldl (fun q i => ?_) _ _
  split
  · exact Plant.sameFrame_grantAttempt clock i q
  · exact .rfl

theorem State.works_lookOff (waiting : List Nat) (s : State) : s.Works (s.lookOff waiting) :=
  State.works_onPlantNow (f := fun c p => p.attemptFor c (p.offElapsed c waiting))
    (Plant.sameFrame_attemptFor s.calendar.clock _ s.plant).frame

theorem State.lookOff_sound (hp : s.plant.sound) (waiting : List Nat) : (s.lookOff waiting).plant.sound := by
  rw [State.lookOff, State.onPlantNow_plant]
  exact (Plant.moves_attemptFor s.calendar.clock _ hp).sound

theorem State.wakeAll_sound (hp : s.plant.sound) (ns : List Nat) : (s.wakeAll ns).plant.sound := by
  rw [State.wakeAll_plant]
  exact (Plant.moves_wakeAll _ ns hp).sound

theorem State.works_lookAndWake (waiting batch : List Nat) (s : State) : s.Works (s.lookAndWake waiting batch) := by
  unfold State.lookAndWake
  split
  · exact s.works_lookOff waiting
  · split
    · exact s.works_wakeAll batch
    · split
      · exact (s.works_lookOff waiting).trans (State.works_wakeAll batch _)
      · exact (s.works_wakeAll batch).trans (State.works_lookOff waiting _)

theorem State.lookAndWake_sound (hp : s.plant.sound) (waiting batch : List Nat) :
    (s.lookAndWake waiting batch).plant.sound := by
  unfold State.lookAndWake
  split
  · exact State.lookOff_sound hp waiting
  · split
    · exact State.wakeAll_sound hp batch
    · split
      · exact State.wakeAll_sound (State.lookOff_sound hp waiting) batch
      · exact State.lookOff_sound (State.wakeAll_sound hp batch) waiting

/-- The state after a seconds event's clock and evaluation (R93, R100). -/
def State.clockTaken (s : State) : State :=
  if (s.onPlant Plant.ageAll).advanceClock.atBoundary then (s.onPlant Plant.ageAll).advanceClock.takeProfiles
  else (s.onPlant Plant.ageAll).advanceClock

/-- The loads that a seconds event wakes because their profile closed (R102). -/
def State.secondBatch (s : State) : List Nat :=
  if (s.onPlant Plant.ageAll).advanceClock.atBoundary then s.clockTaken.closeBatch s.calendar.held else []

/-- The state after the wakes and the minimum-off look of a seconds event, before the dwell (R79, R102). -/
def State.secondWoken (s : State) : State :=
  s.clockTaken.lookAndWake (s.plant.waitingOff s.calendar.clock) s.secondBatch

theorem State.secondPasses_eq (s : State) : s.secondPasses =
    { s.secondWoken.onPlant Plant.dwellAll with draws := (s.secondWoken.onPlant Plant.dwellAll).draws + 1 } := rfl

theorem State.atBoundary_eq (s : State) : s.atBoundary = s.calendar.atBoundary := by
  unfold State.atBoundary Calendar.atBoundary
  cases s.calendar.clock <;> rfl

theorem State.clockTaken_calendar (s : State) : s.clockTaken.calendar = s.calendar.secondLater := by
  unfold State.clockTaken Calendar.secondLater
  rw [State.atBoundary_eq, State.advanceClock_calendar, State.onPlant_calendar]
  split
  · rw [State.takeProfiles_calendar, State.advanceClock_calendar, State.onPlant_calendar]
  · rw [State.advanceClock_calendar, State.onPlant_calendar]

theorem State.works_ageAll (s : State) : s.Works (s.onPlant Plant.ageAll) := State.works_onPlant (Plant.frame_ageAll _)

theorem State.upkeep_clockTaken (s : State) : s.Upkeep s.clockTaken := by
  have haged : s.Upkeep (s.onPlant Plant.ageAll).advanceClock :=
    (s.works_ageAll.upkeep (Plant.sameUnits_ageAll s.plant).sound).trans (State.upkeep_advanceClock _)
  unfold State.clockTaken
  split
  · exact haged.trans (State.upkeep_takeProfiles _)
  · exact haged

theorem State.clockTaken_sweep (s : State) : s.clockTaken.sweep = s.sweep ∧ s.clockTaken.assent = s.assent := by
  have hadvance (t : State) : t.advanceClock.sweep = t.sweep ∧ t.advanceClock.assent = t.assent := by
    unfold State.advanceClock
    split
    · exact ⟨rfl, rfl⟩
    · dsimp only
      unfold State.adjustStopTimes
      split_ifs <;> (try split) <;> exact ⟨rfl, rfl⟩
  have hprofiles (t : State) : t.takeProfiles.sweep = t.sweep ∧ t.takeProfiles.assent = t.assent :=
    have hblocks := t.takeProfiles_onlyNotices.blocks
    ⟨congrArg Blocks.sweep hblocks, congrArg Blocks.assent hblocks⟩
  unfold State.clockTaken
  split
  · exact ⟨(hprofiles _).1.trans (hadvance _).1, (hprofiles _).2.trans (hadvance _).2⟩
  · exact hadvance _

theorem State.works_secondWoken (s : State) : s.clockTaken.Works s.secondWoken := State.works_lookAndWake _ _ _

theorem State.upkeep_secondPasses (s : State) : s.Upkeep s.secondPasses := by
  have hwoken : s.clockTaken.Upkeep s.secondWoken := s.works_secondWoken.upkeep fun hp => State.lookAndWake_sound hp _ _
  have hdwelt : s.secondWoken.Upkeep (s.secondWoken.onPlant Plant.dwellAll) :=
    (State.works_onPlant (Plant.frame_loads _ _)).upkeep
      fun hp => (Plant.sameUnits_loads Load.countDwell_unitView s.secondWoken.plant).sound hp
  rw [State.secondPasses_eq]
  exact ((s.upkeep_clockTaken.trans hwoken).trans hdwelt).trans (State.upkeep_of_same rfl rfl rfl rfl rfl)

theorem State.secondPasses_calendar (s : State) : s.secondPasses.calendar = s.calendar.secondLater :=
  s.works_secondWoken.beyond.1.trans s.clockTaken_calendar

theorem State.keeps_secondPasses (s : State) : s.Keeps s.secondPasses :=
  { toUpkeep := s.upkeep_secondPasses
    calendar := fun hc => by
      rw [State.secondPasses_calendar]
      exact Calendar.secondLater_sound hc
    sweep := fun hw => by
      have : s.secondPasses.sweep = s.sweep := s.works_secondWoken.beyond.2.1.trans s.clockTaken_sweep.1
      rwa [this]
    assent := fun ha => by
      have : s.secondPasses.assent = s.assent := s.works_secondWoken.beyond.2.2.1.trans s.clockTaken_sweep.2
      rwa [this] }

/-! ## Evaluations on request (R94 to R97) -/

theorem State.upkeep_evaluate (s : State) : s.Upkeep s.evaluate := s.upkeep_takeProfiles.trans (State.upkeep_wakeAll _ _)

/-- A change of the calendar that keeps list and clock sound, and then an evaluation. -/
theorem State.keeps_setCalendar_evaluate {f : Calendar → Calendar}
    (hf : s.calendar.sound → (f s.calendar).listSound ∧ (f s.calendar).clockSound = true) :
    s.Keeps (s.setCalendar f).evaluate := by
  have hblocks := (s.setCalendar f).evaluate_blocks
  exact
    { toUpkeep := (s.upkeep_setCalendar f).trans (State.upkeep_evaluate _)
      calendar := fun hc => by
        rw [State.evaluate_calendar]
        exact Calendar.evaluated_sound (hf hc).1 (hf hc).2
      sweep := fun hw => by
        have : (s.setCalendar f).evaluate.sweep = s.sweep := congrArg Blocks.sweep hblocks
        rwa [this]
      assent := fun ha => by
        have : (s.setCalendar f).evaluate.assent = s.assent := congrArg Blocks.assent hblocks
        rwa [this] }

/-! ## The timers (R55 to R61, R83, R86) -/

theorem State.keeps_ifLoad {test : Load → Bool} {f : State → State}
    (hf : ∀ l, s.load? n = some l → test l = true → s.Keeps (f s)) : s.Keeps (s.ifLoad n test f) := by
  unfold State.ifLoad
  split
  · exact .rfl
  · next l hl =>
    split
    · next h => exact hf l hl h
    · exact .rfl

theorem Load.isParking_of_timesStep {test : ParkStep → Bool} {l : Load} (h : l.timesStep test = true) : l.isParking = true := by
  unfold Load.timesStep at h
  unfold Load.isParking
  cases hl : l.state <;> simp [hl] at h ⊢

theorem State.keeps_enterFaulted {l : Load} (hl : s.load? n = some l) (hstate : l.isParking = true ∨ l.isWaking = true) :
    s.Keeps (s.enterFaulted n) :=
  (s.works_enterFaulted n).keeps fun hp => (State.becomes_enterFaulted hp hl hstate).sound

theorem State.keeps_beginStep {l : Load} (hl : s.load? n = some l) (hparking : l.isParking = true) (step : ParkStep) :
    s.Keeps (s.beginStep n step) :=
  (s.works_beginStep n step).keeps fun hp => (State.becomes_beginStep hp hl (Load.rests_of_parking hparking) step).sound

theorem State.keeps_settleExpired {l : Load} (hl : s.load? n = some l) (hwaking : l.isWaking = true) :
    s.Keeps (s.settleExpired n) :=
  (s.works_settleExpired n).keeps fun hp => (State.becomes_settleExpired hp hl hwaking).sound

theorem Plant.spacingExpired_sound {p : Plant} (hp : p.sound) (clock : Option Clock) (i : FeederId) :
    (p.spacingExpired clock i).sound := by
  unfold Plant.spacingExpired
  split
  · exact (Plant.moves_grantAttempt clock i
      ((Plant.sameUnits_setFeeder (f := fun f => { f with spacingTimer := none }) (fun _ => rfl) p).sound hp)).sound
  · exact hp

theorem Plant.sameFrame_spacingExpired (clock : Option Clock) (i : FeederId) (p : Plant) :
    p.SameFrame (p.spacingExpired clock i) := by
  unfold Plant.spacingExpired
  split
  · exact (Plant.sameFrame_setFeeder i (fun f => { f with spacingTimer := none }) (fun _ => rfl)).trans (Plant.sameFrame_grantAttempt clock i _)
  · exact .rfl

theorem State.keeps_spacingExpired (i : FeederId) (s : State) :
    s.Keeps (s.onPlantNow (fun c => Plant.spacingExpired c i)) :=
  (State.works_onPlantNow (f := fun c => Plant.spacingExpired c i)
    (Plant.sameFrame_spacingExpired s.calendar.clock i s.plant).frame).keeps fun hp => by
      rw [State.onPlantNow_plant]
      exact Plant.spacingExpired_sound hp s.calendar.clock i

/-- The minimum-off part of a seconds event (R79, log entry 7). -/
def State.minimumOffPasses (s : State) : State :=
  s.onPlantNow (fun c p => p.attemptFor c (p.loads.filter (fun l => l.isQueuedCompressor && minimumOffElapses c l)))

theorem State.keeps_minimumOffPasses (s : State) : s.Keeps s.minimumOffPasses :=
  (State.works_onPlantNow (f := fun c p =>
      p.attemptFor c (p.loads.filter (fun l => l.isQueuedCompressor && minimumOffElapses c l)))
    (Plant.sameFrame_attemptFor s.calendar.clock _ s.plant).frame).keeps fun hp => by
      rw [State.onPlantNow_plant]
      exact (Plant.moves_attemptFor s.calendar.clock _ hp).sound

end

end Sys2Proof.Machine
end

section
/-!
PROOFS. What binding and unbinding keep sound (R7 to R12): the record itself, and the fan recheck that follows.
-/

namespace Sys2Proof.Machine

section

variable {s : State} {p : Plant} {n : Nat} {l : Load}

/-! ## The fan recheck (R12) -/

theorem Plant.calm_recheckZone (clock : Option Clock) (z : Nat) {p : Plant} (hp : p.sound) :
    p.Moves Load.Calm (p.recheckZone clock z) := by
  unfold Plant.recheckZone
  split
  · have hcleared := Plant.calm_clearAwaiting z hp
    exact hcleared.trans Load.Calm.trans (Plant.calm_grantAll clock hcleared.sound)
  · exact .rfl (fun _ => .rfl) hp

theorem Plant.sameFrame_recheckZone (clock : Option Clock) (z : Nat) (p : Plant) : p.SameFrame (p.recheckZone clock z) := by
  unfold Plant.recheckZone
  split
  · exact (Plant.sameFrame_clearAwaiting z p).trans (Plant.sameFrame_grantAll clock _)
  · exact .rfl

/-- The recheck of every zone (R12). -/
def Plant.recheckAll (clock : Option Clock) (p : Plant) : Plant :=
  ([1, 2, 3, 4, 5, 6, 7, 8, 9, 10, 11, 12] : List Nat).foldl (fun p z => p.recheckZone clock z) p

theorem State.recheckFans_eq (s : State) : s.recheckFans = s.onPlantNow Plant.recheckAll := rfl

theorem Plant.calm_recheckAll (clock : Option Clock) {p : Plant} (hp : p.sound) : p.Moves Load.Calm (p.recheckAll clock) :=
  .foldl (fun _ => .rfl) Load.Calm.trans (fun _ z hq => Plant.calm_recheckZone clock z hq) _ hp

theorem Plant.sameFrame_recheckAll (clock : Option Clock) (p : Plant) : p.SameFrame (p.recheckAll clock) :=
  .foldl (fun q z => Plant.sameFrame_recheckZone clock z q) _ _

theorem State.works_recheckFans (s : State) : s.Works s.recheckFans :=
  State.works_onPlantNow (f := Plant.recheckAll) (Plant.sameFrame_recheckAll s.calendar.clock s.plant).frame

theorem State.recheckFans_plant (s : State) : s.recheckFans.plant = s.plant.recheckAll s.calendar.clock := by
  rw [State.recheckFans_eq, State.onPlantNow_plant]

theorem State.recheckFans_sound (hp : s.plant.sound) : s.recheckFans.plant.sound := by
  rw [State.recheckFans_plant]
  exact (Plant.calm_recheckAll s.calendar.clock hp).sound

/-! ## The record (R8 to R11) -/

theorem Load.inFlight_iff {l : Load} :
    l.inFlight = true ↔ (∃ step, l.state = .parking step) ∨ l.state = .wakeQueued ∨ ∃ w, l.state = .waking w := by
  unfold Load.inFlight Load.isParking Load.isWaking
  cases l.state <;> simp

theorem Load.rests_of_notInFlight {l : Load} (h : l.inFlight = false) : l.rests := by
  have hnot : ¬l.inFlight = true := by simp [h]
  rw [Load.inFlight_iff] at hnot
  push Not at hnot
  exact Load.rests_of_state hnot.2.1 hnot.2.2

theorem Load.reconfigure_state (c : LoadConfig) (l : Load) :
    (Load.reconfigure c l).state = l.state ∨ (Load.reconfigure c l).state = .parkPending := by
  unfold Load.reconfigure
  dsimp only
  split
  · exact .inr rfl
  · exact .inl rfl

theorem Load.reconfigure_rests (c : LoadConfig) (h : l.rests) : (Load.reconfigure c l).rests := by
  obtain ⟨hq, hw⟩ := h
  rcases l.reconfigure_state c with hstate | hstate
  · rw [Load.rests, Load.isWaking, hstate]
    exact ⟨hq, hw⟩
  · exact Load.rests_of_state (by rw [hstate]; nofun) (by rw [hstate]; nofun)

/-- A load that has just been bound elsewhere, in the record of the same number (R9). -/
def Plant.reboundAs (p : Plant) (c : LoadConfig) (l x : Load) : Load :=
  { Load.bound x.num c (p.holdAt c l.hold.byHost) with stopTime := c.keepStop l.stopTime }

theorem Plant.rebindElsewhere_eq (hp : p.numbered) (c : LoadConfig) (l : Load) :
    p.rebindElsewhere c l = (p.withdraw l.num).setLoad l.num (p.reboundAs c l) := by
  have hnum : (p.withdraw l.num).numbered := Plant.numbered_congr
    (by rw [Plant.withdraw_loads hp, Plant.setLoad_nums l.num Load.undue p]) hp
  unfold Plant.rebindElsewhere
  refine Plant.setLoad_congr hnum fun x hx => ?_
  rw [Plant.reboundAs, Plant.load?_num hx]

theorem Plant.rebindElsewhere_sound (hp : p.sound) (hl : p.load? l.num = some l) (hrests : l.rests) (c : LoadConfig) :
    (p.rebindElsewhere c l).sound := by
  rw [Plant.rebindElsewhere_eq hp.numbered]
  exact Plant.sound_setLoad_rests ((Plant.sameUnits_withdraw l.num hp.numbered).sound hp)
    (Plant.load?_withdraw_self hp.numbered hl) hrests (fun _ => rfl) (Load.rests_of_state nofun nofun)

theorem Plant.frame_rebindElsewhere (c : LoadConfig) (l : Load) (p : Plant) : p.Frame (p.rebindElsewhere c l) :=
  (Plant.sameFrame_withdraw l.num p).frame.trans (Plant.frame_loads _ _)

theorem State.works_bindLoad (n : Nat) (c : LoadConfig) (s : State) : s.Works (s.bindLoad n c) := by
  unfold State.bindLoad
  split
  · exact State.works_onPlant (Plant.frame_loads _ _)
  · next l _ =>
    have hrebound : s.Works (s.onPlant (Plant.rebindElsewhere c l)) :=
      State.works_onPlant (Plant.frame_rebindElsewhere c l s.plant)
    split
    · exact s.works_setLoad n _
    · split
      · exact hrebound.trans (State.works_evaluateBeacon _)
      · exact hrebound

theorem State.bindLoad_sound (hp : s.plant.sound) (h1 : 1 ≤ n) (h96 : n ≤ 96) (c : LoadConfig)
    (hbusy : ¬(s.load? n).any Load.inFlight = true) : (s.bindLoad n c).plant.sound := by
  unfold State.bindLoad
  split
  · next hnone =>
    exact Plant.bind_sound (l := Load.bound n c (s.plant.holdAt c false)) hp hnone h1 h96
      (Load.rests_of_state nofun nofun)
  · next l hl =>
    have hrests : l.rests := Load.rests_of_notInFlight (by simpa [hl] using hbusy)
    have hnum : l.num = n := Plant.load?_num hl
    have hrebound : (s.plant.rebindElsewhere c l).sound :=
      Plant.rebindElsewhere_sound hp (hnum ▸ hl) hrests c
    split
    · exact Plant.sound_setLoad_rests hp hl hrests (fun _ => rfl) (Load.reconfigure_rests c hrests)
    · split
      · rw [State.evaluateBeacon_plant]
        exact hrebound
      · exact hrebound

/-- The plant without a load (R11). -/
def Plant.unbindOrdered (n : Nat) (p : Plant) : Plant := (p.withdraw n).unbind n

theorem State.unbindLoad_plant (l : Load) (s : State) : (s.unbindLoad l).plant = s.plant.unbindOrdered l.num := by
  unfold State.unbindLoad
  dsimp only
  split
  · rw [State.evaluateBeacon_plant]
    rfl
  · rfl

theorem Plant.unbindOrdered_sound (hp : p.sound) (hl : p.load? n = some l) (hrests : l.rests) :
    (p.unbindOrdered n).sound :=
  Plant.unbind_sound ((Plant.sameUnits_withdraw n hp.numbered).sound hp) (Plant.load?_withdraw_self hp.numbered hl) hrests

theorem State.works_unbindLoad (l : Load) (s : State) : s.Works (s.unbindLoad l) := by
  have hgone : s.Works ((s.withdraw l.num).onPlant (Plant.unbind l.num)) :=
    (s.works_withdraw l.num).trans (State.works_onPlant (Plant.frame_loads _ _))
  unfold State.unbindLoad
  dsimp only
  split
  · exact hgone.trans (State.works_evaluateBeacon _)
  · exact hgone

/-! ## The requests -/

theorem State.keeps_forLoad {f : Load → State × Answer} (hf : ∀ l, 1 ≤ n → n ≤ 96 → s.load? n = some l → s.Keeps (f l).1) :
    s.Keeps (s.forLoad n f).1 := by
  unfold State.forLoad
  split
  · next hrange =>
    obtain ⟨h1, h96⟩ := within_iff.mp hrange
    split
    · exact .rfl
    · next l hl => exact hf l h1 h96 hl
  · exact .rfl

theorem keeps_doBindLoad (n : Nat) (fields : BindFields) (s : State) : s.Keeps (doBindLoad n fields s).1 := by
  unfold doBindLoad
  split
  · exact .rfl
  · next hrange =>
    obtain ⟨h1, h96⟩ := within_iff.mp (not_not.mp hrange)
    split
    · exact .rfl
    · next c _ =>
      split
      · exact .rfl
      · next hbusy =>
        split
        · exact .rfl
        · exact ((s.works_bindLoad n c).trans (State.works_recheckFans _)).keeps fun hp =>
            State.recheckFans_sound (State.bindLoad_sound hp h1 h96 c hbusy)

theorem keeps_doUnbindLoad (n : Nat) (s : State) : s.Keeps (doUnbindLoad n s).1 := by
  refine State.keeps_forLoad fun l _ _ hl => ?_
  split
  · exact .rfl
  · next hbusy =>
    refine ((s.works_unbindLoad l).trans (State.works_recheckFans _)).keeps fun hp => State.recheckFans_sound ?_
    rw [State.unbindLoad_plant]
    exact Plant.unbindOrdered_sound hp (Plant.load?_num hl ▸ hl) (Load.rests_of_notInFlight (by simpa using hbusy))

end

end Sys2Proof.Machine
end

section
/-!
PROOFS. What every request keeps sound (R169): each takes its own rule, and `serve` takes one of them.
-/

namespace Sys2Proof.Machine

section

variable {s t : State} {p : Plant} {n : Nat} {l : Load}

/-! ## Feeders, groups, curves and stations (R28, R53, R89, R106) -/

theorem State.keeps_accept (h : s.Keeps t) : s.Keeps t.accept.1 := h

/-- A change of the plant that leaves the stations. -/
theorem State.keeps_onPlant {f : Plant → Plant} (hsound : s.plant.sound → (f s.plant).sound)
    (hstations : (f s.plant).stations = s.plant.stations) : s.Keeps (s.onPlant f) :=
  ⟨⟨hsound, fun i hi => by
    rw [State.station, State.onPlant_plant, Plant.station_of_stations hstations]
    exact hi, id, rfl, id, rfl, rfl⟩, id, id, id⟩

theorem Plant.setFeeder_sound (hp : p.sound) {i : FeederId} {capacity spacing : Nat}
    (hwaking : ¬p.loads.any (fun l => l.cfg.feeder == i && l.isWaking) = true) :
    (p.setFeeder i (fun f => { f with capacity, free := capacity, spacing })).sound := by
  obtain ⟨hnum, hnodup, hmatch, hbalanced⟩ := p.sound_iff.mp hp
  have hqueue (j : FeederId) :
      (p.setFeeder i (fun f => { f with capacity, free := capacity, spacing })).queueOf j = p.queueOf j := by
    by_cases hj : j = i
    · subst hj
      rw [Plant.queueOf, Plant.feeder_setFeeder_self]
      rfl
    · rw [Plant.queueOf, Plant.feeder_setFeeder_other p hj]
      rfl
  refine (Plant.sound_iff _).mpr ⟨hnum, fun j => hqueue j ▸ hnodup j, fun j m => ?_, fun j => ?_⟩
  · rw [hqueue j]
    exact hmatch j m
  · rw [Plant.setFeeder_loads]
    by_cases hj : j = i
    · subst hj
      have hzero : (p.loads.map (Load.unitsAt j)).sum = 0 := by
        refine List.sum_eq_zero fun k hk => ?_
        obtain ⟨l, hl, rfl⟩ := List.mem_map.mp hk
        refine if_neg fun h => hwaking (List.any_eq_true.mpr ⟨l, hl, ?_⟩)
        simp [h.1, h.2]
      rw [hzero, Plant.feeder_setFeeder_self]
      rfl
    · rw [Plant.feeder_setFeeder_other p hj]
      exact hbalanced j

theorem keeps_doSetFeeder (f c sp : Nat) (s : State) : s.Keeps (doSetFeeder f c sp s).1 := by
  unfold doSetFeeder
  split
  · exact .rfl
  · next i _ =>
    split
    · exact .rfl
    · split
      · exact .rfl
      · next hwaking =>
        split
        · exact .rfl
        · exact State.keeps_onPlant (fun hp => Plant.setFeeder_sound hp hwaking) rfl

/-- A change that leaves loads, feeders and stations. -/
theorem State.keeps_onPlant_settings {f : Plant → Plant} (hloads : (f s.plant).loads = s.plant.loads)
    (hfeeders : (f s.plant).feeders = s.plant.feeders) (hstations : (f s.plant).stations = s.plant.stations) :
    s.Keeps (s.onPlant f) :=
  State.keeps_onPlant (Plant.sameUnits_of_loads .rfl hloads hfeeders).sound hstations

theorem keeps_doSetGroup (g m : Nat) (s : State) : s.Keeps (doSetGroup g m s).1 := by
  unfold doSetGroup
  split
  · exact .rfl
  · split
    · exact State.keeps_onPlant_settings (f := fun p => { p with groups := p.groups.set _ m }) rfl rfl rfl
    · exact .rfl

theorem keeps_doSetCurve (c : Nat) (k : Knots) (s : State) : s.Keeps (doSetCurve c k s).1 := by
  unfold doSetCurve
  split
  · exact .rfl
  · split
    · exact State.keeps_onPlant_settings (f := fun p => { p with curves := p.curves.set _ k }) rfl rfl rfl
    · exact .rfl

theorem State.keeps_setStation_keeping {i : StationId} {f : Station → Station}
    (hf : ∀ st, (f st).link = st.link ∧ (f st).misses = st.misses) : s.Keeps (s.setStation i f) :=
  (State.upkeep_setStation_keeping i hf s).keeps rfl rfl rfl

theorem keeps_doSetStation (i e f : Nat) (s : State) : s.Keeps (doSetStation i e f s).1 := by
  unfold doSetStation
  split
  · next i e _ _ =>
    split
    · exact .rfl
    · split
      · exact .rfl
      · exact State.keeps_setStation_keeping (f := Station.configure e f) fun _ => ⟨rfl, rfl⟩
  · exact .rfl

/-! ## The calendar (R94 to R97) -/

theorem keeps_doSetProfileDay (p d : Nat) (slots : SlotRow) (s : State) : s.Keeps (doSetProfileDay p d slots s).1 := by
  unfold doSetProfileDay
  split
  · exact State.keeps_setCalendar_evaluate fun hc => ⟨hc.1, hc.2.1⟩
  · exact .rfl

/-- The values at a reading look only at the entry of its date (R99). -/
theorem Calendar.values_congr {c d : Calendar} (hclock : d.clock = c.clock) (hprofiles : d.profiles = c.profiles)
    (hfind : ∀ k, c.clock = some k →
      d.holidays.find? (fun h => h.date == k.date) = c.holidays.find? (fun h => h.date == k.date)) :
    d.values = c.values := by
  have hvalue (p : ProfileId) : d.value p = c.value p := by
    unfold Calendar.value Calendar.slotValue
    rw [hclock, hprofiles]
    cases hk : c.clock with
    | none => rfl
    | some k =>
      dsimp only
      rw [hfind k hk]
  unfold Calendar.values
  rw [hvalue, hvalue, hvalue, hvalue]

theorem find?_insertHoliday {e : Holiday} {d : Date} (hd : e.date ≠ d) (hs : List Holiday) :
    (insertHoliday e hs).find? (fun h => h.date == d) = hs.find? (fun h => h.date == d) := by
  induction hs with
  | nil => simp [insertHoliday, hd]
  | cons x rest ih =>
    rw [insertHoliday]
    split
    · next hsame => simp [hsame, hd]
    · split
      · simp [hd]
      · rw [List.find?_cons, List.find?_cons, ih]

theorem find?_dropHoliday {e d : Date} (hd : e ≠ d) (hs : List Holiday) :
    (hs.filter (fun h => h.date != e)).find? (fun h => h.date == d) = hs.find? (fun h => h.date == d) := by
  rw [List.find?_filter]
  congr 1
  funext h
  by_cases hh : h.date = d
  · simp [hh, Ne.symm hd]
  · simp [hh]

theorem length_insertHoliday_le (e : Holiday) (hs : List Holiday) : (insertHoliday e hs).length ≤ hs.length + 1 := by
  induction hs with
  | nil => exact le_rfl
  | cons x rest ih =>
    rw [insertHoliday]
    split
    · exact Nat.le_succ _
    · split
      · exact le_rfl
      · exact Nat.succ_le_succ ih

theorem length_insertHoliday_of_mem {e : Holiday} {hs : List Holiday}
    (hsorted : hs.Pairwise (fun a b => a.date.before b.date = true)) (he : ∃ h ∈ hs, h.date = e.date) :
    (insertHoliday e hs).length = hs.length := by
  induction hs with
  | nil =>
    obtain ⟨h, hmem, -⟩ := he
    exact absurd hmem List.not_mem_nil
  | cons x rest ih =>
    obtain ⟨hfirst, hrest⟩ := List.pairwise_cons.mp hsorted
    rw [insertHoliday]
    split
    · rfl
    · next hne =>
      obtain ⟨y, hy, hdate⟩ := he
      have hy : y ∈ rest := (List.mem_cons.mp hy).resolve_left fun h => hne (h ▸ hdate)
      have hbefore : x.date.before e.date = true := hdate ▸ hfirst y hy
      rw [if_neg (by simp [Date.before_asymm hbefore]), List.length_cons, ih hrest ⟨y, hy, hdate⟩]
      rfl

/-- An entry that finds room leaves the list sound (R96). -/
theorem insertHoliday_listSound {e : Holiday} {c : Calendar} (he : e.date.valid = true) (hc : c.listSound)
    (hroom : (∃ h ∈ c.holidays, h.date = e.date) ∨ c.holidays.length < 16) :
    ({ c with holidays := insertHoliday e c.holidays } : Calendar).listSound := by
  obtain ⟨hsorted, hlength, hvalid⟩ := hc
  have heq := insertHoliday_eq he hsorted hvalid
  refine ⟨?_, ?_, ?_⟩
  · dsimp only
    rw [heq, List.pairwise_append, List.pairwise_cons]
    refine ⟨hsorted.sublist List.filter_sublist, ⟨fun y hy => (List.mem_filter.mp hy).2, hsorted.sublist List.filter_sublist⟩,
      fun x hx y hy => ?_⟩
    have hxe := (List.mem_filter.mp hx).2
    rcases List.mem_cons.mp hy with rfl | hy
    · exact hxe
    · exact Date.before_iff.mpr ((Date.before_iff.mp hxe).trans (Date.before_iff.mp (List.mem_filter.mp hy).2))
  · rcases hroom with hold | hroom
    · exact (length_insertHoliday_of_mem hsorted hold).trans_le hlength
    · exact (length_insertHoliday_le _ _).trans hroom
  · intro x hx
    dsimp only at hx
    rw [heq] at hx
    rcases List.mem_append.mp hx with hx | hx
    · exact hvalid x (List.mem_filter.mp hx).1
    · rcases List.mem_cons.mp hx with rfl | hx
      · exact he
      · exact hvalid x (List.mem_filter.mp hx).1

theorem State.keeps_changeHolidays {d : Date} {f : List Holiday → List Holiday}
    (hf : s.calendar.listSound → ({ s.calendar with holidays := f s.calendar.holidays } : Calendar).listSound)
    (hfind : ∀ e, d ≠ e → (f s.calendar.holidays).find? (fun h => h.date == e) =
      s.calendar.holidays.find? (fun h => h.date == e)) : s.Keeps (s.changeHolidays d f) := by
  unfold State.changeHolidays
  dsimp only
  split
  · exact State.keeps_setCalendar_evaluate fun hc => ⟨hf hc.1, hc.2.1⟩
  · next htoday =>
    refine ⟨State.upkeep_setCalendar _ s, fun hc => ?_, id, id⟩
    obtain ⟨hlist, hclock, hheld⟩ := hc
    have hvalues : ({ s.calendar with holidays := f s.calendar.holidays } : Calendar).values = s.calendar.values :=
      Calendar.values_congr rfl rfl fun k hk => hfind k.date fun hd =>
        htoday (State.isToday_iff.mpr (by rw [hk, hd]; rfl))
    exact ⟨hf hlist, hclock, hheld.trans hvalues.symm⟩

theorem keeps_doSetHoliday (d : Date) (rule : Nat) (s : State) : s.Keeps (doSetHoliday d rule s).1 := by
  cases hr : DayRule.ofCode? rule with
  | none =>
    rw [doSetHoliday_noRule hr]
    exact .rfl
  | some r =>
    cases hd : d.valid with
    | false =>
      rw [doSetHoliday_noDate hd]
      exact .rfl
    | true =>
      rw [doSetHoliday_inRange hd hr]
      split
      · exact .rfl
      · next hroom =>
        refine State.keeps_changeHolidays (fun hc => insertHoliday_listSound hd hc ?_) fun e he => find?_insertHoliday he _
        by_contra hnone
        push Not at hnone
        exact hroom ⟨fun ⟨h, hmem, hdate⟩ => hnone.1 h hmem hdate, hnone.2⟩

theorem keeps_doDropHoliday (d : Date) (s : State) : s.Keeps (doDropHoliday d s).1 := by
  unfold doDropHoliday
  split
  · exact .rfl
  · split
    · refine State.keeps_changeHolidays (fun ⟨hsorted, hlength, hvalid⟩ => ?_) fun e he => find?_dropHoliday he _
      exact ⟨hsorted.sublist List.filter_sublist, (List.length_filter_le _ _).trans hlength,
        fun x hx => hvalid x (List.mem_filter.mp hx).1⟩
    · exact .rfl

theorem State.works_adjustStopTimes (s : State) : s.Works s.adjustStopTimes := by
  rw [State.adjustStopTimes_eq]
  split
  · exact .rfl
  · exact State.works_onPlant (Plant.frame_loads s.plant _)

/-- The stop times that lie later than a set clock are set to it, and then the profiles are evaluated (R79, R94). -/
theorem State.keeps_clockSet {k : Clock} (hk : k.sound = true) (s : State) :
    s.Keeps (s.setCalendar (fun c => { c with clock := some k })).adjustStopTimes.evaluate := by
  have hset := (State.upkeep_setCalendar (fun c => { c with clock := some k }) s).trans
    (State.keeps_adjustStopTimes _).toUpkeep
  have hworks := State.works_adjustStopTimes (s.setCalendar (fun c => { c with clock := some k }))
  have hblocks := (s.setCalendar (fun c => { c with clock := some k })).adjustStopTimes.evaluate_blocks
  refine ⟨hset.trans (State.upkeep_evaluate _), fun hc => ?_, fun hw => ?_, fun ha => ?_⟩
  · rw [State.evaluate_calendar, hworks.beyond.1]
    exact Calendar.evaluated_sound (c := { s.calendar with clock := some k }) hc.1 hk
  · have hsweep := (congrArg Blocks.sweep hblocks).trans hworks.beyond.2.1
    rw [State.blocks_sweep] at hsweep
    rwa [hsweep]
  · have hassent := (congrArg Blocks.assent hblocks).trans hworks.beyond.2.2.1
    rw [State.blocks_assent] at hassent
    rwa [hassent]

theorem keeps_doSetClock (d : Date) (dow sec : Nat) (s : State) : s.Keeps (doSetClock d dow sec s).1 := by
  unfold doSetClock
  split
  · next h =>
    refine State.keeps_accept ((State.keeps_clockSet (k := { date := d, dayOfWeek := dow, seconds := sec }) h s).trans ?_)
    exact (State.works_lookOff _ _).keeps fun hp => State.lookOff_sound hp _
  · exact .rfl

/-! ## Monitor, alert and sweep (R122 to R125, R140, R143 to R147, R162) -/

theorem AssentFields.toParams_sound {f : AssentFields} (h : f.inRange) : f.toParams.sound := by
  obtain ⟨-, hclose, -, -, -, hclose', -, -, -, -, hstart, hstart', -, -, -, -, hlow, -, hhigh, hhigh'⟩ := h
  exact ⟨hclose, hclose', hstart, hstart', hlow, hhigh, hhigh'⟩

theorem keeps_doSetAssent (f : AssentFields) (s : State) : s.Keeps (doSetAssent f s).1 := by
  by_cases hf : f.inRange
  · rw [doSetAssent_inRange hf]
    split
    · exact .rfl
    · next hrests =>
      refine State.keeps_accept (State.keeps_setAssent fun ha => ?_)
      obtain ⟨-, htrust, hlapses, htoken, -, hclear, -⟩ := ha
      obtain ⟨hzero, hpermit⟩ := hclear (by simpa using hrests)
      refine ⟨AssentFields.toParams_sound hf, htrust, hlapses, htoken, ?_, fun _ => ⟨hzero, hpermit⟩, fun h => ?_⟩
      · unfold Assent.windowRuns
        cases hstate : s.assent.state <;> simp [hstate, AssentState.runs] at hrests ⊢
      · exact absurd (hpermit.symm.trans h) nofun
  · rw [doSetAssent_outOfRange hf]
    exact .rfl

/-- A change of the alert block that keeps the notices. -/
theorem State.keeps_alerts {a : Alerts} (h : a.queue = s.alerts.queue) : s.Keeps { s with alerts := a } :=
  ⟨⟨id, fun _ => id, fun ha => by rwa [Alerts.queueSound, h], rfl, id, rfl, rfl⟩, id, id, id⟩

theorem State.keeps_evaluateBeacon (s : State) : s.Keeps s.evaluateBeacon :=
  s.works_evaluateBeacon.keeps fun hp => by rwa [State.evaluateBeacon_plant]

theorem keeps_doSetAlert (m t e ss ds : Nat) (s : State) : s.Keeps (doSetAlert m t e ss ds s).1 := by
  unfold doSetAlert
  split
  · split
    · exact State.keeps_accept (State.Keeps.trans (State.keeps_alerts (a := s.alerts.configure _ t _ _ _) rfl)
        (State.keeps_evaluateBeacon _))
    · exact .rfl
  · exact .rfl

theorem keeps_doSetSweep (r p : Nat) (s : State) : s.Keeps (doSetSweep r p s).1 := by
  unfold doSetSweep
  split
  · exact .rfl
  · split
    · exact .rfl
    · split
      · exact .rfl
      · exact State.keeps_accept (State.keeps_setSweep fun hw => hw)

/-- A pending last station of a running sweep (R122, R123). -/
theorem State.keeps_setPendingLast {last : Nat} (hlast : within 1 40 last = true) (hmode : s.sweep.mode ≠ .stopped) :
    s.Keeps (s.setSweep (fun w => { w with pendingLast := some last })) :=
  State.keeps_setSweep fun hw => Sweep.sound_of_running ⟨hw.1, by simpa using hlast, hw.2.2.1⟩ hmode
    fun h => hmode (hw.2.2.2.2.mpr h)

theorem keeps_doStartSweep (m last : Nat) (s : State) : s.Keeps (doStartSweep m last s).1 := by
  unfold doStartSweep
  split
  · exact .rfl
  · next mode hm =>
    split
    · exact .rfl
    · next hlast =>
      have hlast : within 1 40 last = true := not_not.mp hlast
      split
      · have hmode : mode ≠ .stopped := by
          rintro rfl
          unfold startMode? at hm
          split at hm <;> cases hm
        refine State.keeps_accept ⟨(State.upkeep_setSweep _ s).trans (State.upkeep_startRound _), fun hc => ?_, fun hw => ?_,
          fun ha => ?_⟩
        · rwa [State.startRound_calendar]
        · exact State.startRound_sweep_sound ⟨hlast, hw.2.1, hw.2.2.1⟩ hmode
        · rwa [State.startRound_assent]
      · next hrunning =>
        split
        · exact State.keeps_accept (State.keeps_setPendingLast hlast (by rw [hrunning]; nofun))
        · exact .rfl
      · exact .rfl

theorem keeps_doStopSweep (s : State) : s.Keeps (doStopSweep s).1 := by
  unfold doStopSweep
  split
  · exact .rfl
  · next hmode =>
    exact State.keeps_accept (State.keeps_setSweep fun hw =>
      Sweep.sound_of_running ⟨hw.1, hw.2.1, hw.2.2.1⟩ hmode fun h => hmode (hw.2.2.2.2.mpr h))

theorem keeps_doSetLastStation (last : Nat) (s : State) : s.Keeps (doSetLastStation last s).1 := by
  unfold doSetLastStation
  split
  · exact .rfl
  · next hlast =>
    have hlast : within 1 40 last = true := not_not.mp hlast
    split
    · exact State.keeps_accept (State.keeps_setSweep fun hw => ⟨hlast, hw.2⟩)
    · next hmode => exact State.keeps_accept (State.keeps_setPendingLast hlast hmode)

theorem LinePhase.replaceInquiry_idle (i : StationId) (line : LinePhase) : line.replaceInquiry i = .idle ↔ line = .idle := by
  cases line <;> simp [LinePhase.replaceInquiry]

theorem keeps_doSetInquiry (i k o : Nat) (s : State) : s.Keeps (doSetInquiry i k o s).1 := by
  unfold doSetInquiry
  split
  · next i k _ _ =>
    split
    · refine State.keeps_accept ((State.keeps_setStation_keeping
        (f := fun st => { st with inquiry := k, once := bitOf o 0, round := bitOf o 1 }) fun _ => ⟨rfl, rfl⟩).trans
        (State.keeps_setSweep fun hw => ?_))
      obtain ⟨hlast, hpending, hround, hstopped, hline⟩ := hw
      exact ⟨hlast, hpending, hround, hstopped, hline.trans (LinePhase.replaceInquiry_idle i _).symm⟩
    · exact .rfl
  · exact .rfl

/-! ## The loads (R20, R23, R66, R67, R70, R71, R75) -/

/-- A change of loads alone that leaves start queues and units. -/
theorem State.keeps_setLoad_view (n : Nat) {f : Load → Load} (hf : ∀ l, (f l).unitView = l.unitView) (s : State) :
    s.Keeps (s.setLoad n f) :=
  (s.works_setLoad n f).keeps (Plant.sameUnits_setLoad n f s.plant hf).sound

/-- A change of a load that rests before and after. -/
theorem State.keeps_setLoad_rests (hl : s.load? n = some l) (hrests : l.rests) {f : Load → Load}
    (hf : ∀ x, (f x).num = x.num) (hfl : (f l).rests) : s.Keeps (s.setLoad n f) :=
  (s.works_setLoad n f).keeps fun hp => Plant.sound_setLoad_rests hp hl hrests hf hfl

/-- A load with HOST put into its hold set or taken out of it (R20). -/
def Load.withHost (byHost : Bool) (l : Load) : Load := { l with hold := { l.hold with byHost } }

theorem keeps_doHold (n : Nat) (s : State) : s.Keeps (doHold n s).1 :=
  State.keeps_forLoad fun _ _ _ _ => State.keeps_setLoad_view n (f := Load.withHost true) (fun _ => rfl) s

theorem keeps_doRelease (n : Nat) (s : State) : s.Keeps (doRelease n s).1 :=
  State.keeps_forLoad fun _ _ _ _ => State.keeps_setLoad_view n (f := Load.withHost false) (fun _ => rfl) s

theorem keeps_doParkNow (n : Nat) (s : State) : s.Keeps (doParkNow n s).1 := by
  refine State.keeps_forLoad fun l _ _ hl => ?_
  split
  · next hstate =>
    refine State.keeps_setLoad_rests hl ?_ (fun _ => rfl) (Load.rests_of_state nofun nofun)
    rcases hstate with hstate | hstate
    · exact Load.rests_of_state (by rw [hstate]; nofun) (by rw [hstate]; nofun)
    · exact Load.rests_of_state (by rw [hstate]; nofun) (by rw [hstate]; nofun)
  · exact .rfl

theorem keeps_doCancelPark (n : Nat) (s : State) : s.Keeps (doCancelPark n s).1 := by
  refine State.keeps_forLoad fun l _ _ hl => ?_
  split
  · next hstate =>
    have hrests : l.rests := Load.rests_of_state (by rw [hstate]; nofun) (by rw [hstate]; nofun)
    refine ((s.works_setLoad n (fun l => { l with manual := false })).trans (State.works_enterActive n _)).keeps fun hp => ?_
    rw [State.enterActive_plant]
    have hset := Plant.load?_set (f := fun l => { l with manual := false }) hl
    have hsound := Plant.sound_setLoad_rests hp hl hrests (f := fun l => { l with manual := false }) (fun _ => rfl) hrests
    exact (Plant.calm_enterActive hsound hset hrests _).sound
  · exact .rfl

theorem keeps_doWakeNow (n o : Nat) (s : State) : s.Keeps (doWakeNow n o s).1 := by
  refine State.keeps_forLoad fun l _ _ hl => ?_
  split
  · exact .rfl
  · next o _ =>
    cases o with
    | true =>
      refine (State.works_onPlantNow (f := fun c => Plant.wakePlain c n)
        (Plant.sameFrame_wakePlain s.calendar.clock n s.plant).frame).keeps fun hp => ?_
      rw [State.onPlantNow_plant]
      exact (Plant.moves_wakePlain s.calendar.clock n hp).sound
    | false =>
      refine (s.works_wake n).keeps fun hp => ?_
      rw [State.wake_plant]
      exact (Plant.moves_wake s.calendar.clock n hp).sound

theorem keeps_doCancelWake (n : Nat) (s : State) : s.Keeps (doCancelWake n s).1 := by
  refine State.keeps_forLoad fun l _ _ hl => ?_
  split
  · next hstate =>
    refine ((s.works_leaveQueue n).trans (State.works_setLoad n _ _)).keeps fun hp => ?_
    refine Plant.leaveQueue_sound hp hl hstate (f := Load.wakeCancelled) (fun _ => rfl)
      (Load.rests_of_state nofun nofun) ?_ ?_
    · rw [State.setLoad_plant, State.onPlant_plant, Plant.leaveQueue_bound hl,
        Plant.setLoad_setLoad n (fun l => { l with awaitingFan := false }) _ (fun _ => rfl)]
      rfl
    · rw [State.setLoad_plant, State.onPlant_plant, Plant.leaveQueue_bound hl]
      rfl
  · exact .rfl

theorem keeps_doClearFault (n : Nat) (s : State) : s.Keeps (doClearFault n s).1 := by
  refine State.keeps_forLoad fun l _ _ hl => ?_
  split
  · next hstate =>
    exact (State.keeps_setLoad_rests (f := Load.faultCleared) hl
      (Load.rests_of_state (by rw [hstate]; nofun) (by rw [hstate]; nofun)) (fun _ => rfl) (Load.rests_of_state nofun nofun)).trans (State.keeps_evaluateBeacon _)
  · exact .rfl

/-! ## The readings (R153, R158, R171 to R173) -/

/-- A reading answers and changes nothing. -/
theorem keeps_doReadLoad (n : Nat) (s : State) : s.Keeps (doReadLoad n s).1 :=
  State.keeps_forLoad fun _ _ _ _ => .rfl

theorem keeps_doReadLoads (page : Nat) (s : State) : s.Keeps (doReadLoads page s).1 := by
  unfold doReadLoads
  split
  · exact .rfl
  · split <;> exact .rfl

theorem keeps_doReadStation (i : Nat) (s : State) : s.Keeps (doReadStation i s).1 := by
  unfold doReadStation
  split <;> exact .rfl

theorem keeps_doReadFeeder (i page : Nat) (s : State) : s.Keeps (doReadFeeder i page s).1 := by
  unfold doReadFeeder
  split
  · exact .rfl
  · split
    · exact .rfl
    · split <;> exact .rfl

theorem keeps_doReadStatus (s : State) : s.Keeps (doReadStatus s).1 :=
  State.Keeps.trans
    (t := { s with assent := { s.assent with flags := .empty }, link := { s.link with errors := 0 },
                   alerts := { s.alerts with faultCount := 0, statusRead := true } })
    ⟨⟨id, fun _ => id, id, rfl, fun _ => Nat.zero_le _, rfl, rfl⟩, id, id, fun ha => ha⟩ (State.keeps_evaluateBeacon _)

theorem keeps_doFetchNotice (s : State) : s.Keeps (doFetchNotice s).1 := by
  unfold doFetchNotice
  split
  · exact .rfl
  · next x rest hqueue =>
    refine ⟨⟨id, fun _ => id, fun ha => ?_, rfl, id, rfl, rfl⟩, id, id, id⟩
    obtain ⟨hnodup, hkinds⟩ := ha
    rw [hqueue] at hnodup hkinds
    exact ⟨(List.nodup_cons.mp hnodup).2, fun y hy => hkinds y (List.mem_cons_of_mem x hy)⟩

/-! ## Every request (R169) -/

theorem keeps_serveKnown (kind : Nat) (p : List Byte) (s : State) : s.Keeps (serveKnown kind p s).1 := by
  unfold serveKnown
  split
  · exact keeps_doSetFeeder _ _ _ s
  · exact keeps_doSetGroup _ _ s
  · exact keeps_doSetCurve _ _ s
  · exact keeps_doSetStation _ _ _ s
  · exact keeps_doBindLoad _ _ s
  · exact keeps_doUnbindLoad _ s
  · exact keeps_doSetProfileDay _ _ _ s
  · exact keeps_doSetHoliday _ _ s
  · exact keeps_doDropHoliday _ s
  · exact keeps_doSetAssent _ s
  · exact keeps_doSetAlert _ _ _ _ _ s
  · exact keeps_doSetSweep _ _ s
  · exact keeps_doSetClock _ _ _ s
  · exact keeps_doStartSweep _ _ s
  · exact keeps_doStopSweep s
  · exact keeps_doSetLastStation _ s
  · exact keeps_doHold _ s
  · exact keeps_doRelease _ s
  · exact keeps_doParkNow _ s
  · exact keeps_doCancelPark _ s
  · exact keeps_doWakeNow _ _ s
  · exact keeps_doCancelWake _ s
  · exact keeps_doClearFault _ s
  · exact keeps_doSetInquiry _ _ _ s
  · exact s.keeps_challenged
  · exact keeps_doAnswer _ _ s
  · exact keeps_doReadLoad _ s
  · exact keeps_doReadLoads _ s
  · exact keeps_doReadStation _ s
  · exact keeps_doReadFeeder _ _ s
  · exact keeps_doReadStatus s
  · exact keeps_doFetchNotice s
  · exact .rfl
  · exact .rfl
  · exact .rfl

theorem keeps_serve (f : Frame) (s : State) : s.Keeps (serve f s).1 := by
  unfold serve
  split
  · exact .rfl
  · split
    · exact keeps_serveKnown _ _ s
    · unfold refuseLength
      split <;> exact .rfl

end

end Sys2Proof.Machine
end

section
/-!
PROOFS. The link port (R164 to R168, R174), and what every command keeps sound.
-/

namespace Sys2Proof.Machine

section

variable {s t u : State}

/-- Every block stays sound but perhaps the buffer and the reply of the link port. -/
structure State.Outlasts (s t : State) : Prop where
  plant : s.plant.sound → t.plant.sound
  stations : ∀ i, (s.station i).linkSound = true → (t.station i).linkSound = true
  alerts : s.alerts.queueSound → t.alerts.queueSound
  calendar : s.calendar.sound → t.calendar.sound
  sweep : s.sweep.sound → t.sweep.sound
  assent : s.assent.sound → t.assent.sound
  errors : s.link.errors ≤ 65535 → t.link.errors ≤ 65535
  inReset : t.inReset = s.inReset
  pending : t.pending = s.pending

/-- Every block stays sound, and the part stays in reset or out of it, with the same commands waiting. -/
structure State.Endures (s t : State) : Prop extends State.Outlasts s t where
  link : s.link.sound → t.link.sound

theorem State.Outlasts.rfl : s.Outlasts s := ⟨id, fun _ => id, id, id, id, id, id, Eq.refl _, Eq.refl _⟩

theorem State.Outlasts.trans (h : s.Outlasts t) (k : t.Outlasts u) : s.Outlasts u :=
  ⟨fun hp => k.plant (h.plant hp), fun i hi => k.stations i (h.stations i hi), fun ha => k.alerts (h.alerts ha),
    fun hc => k.calendar (h.calendar hc), fun hw => k.sweep (h.sweep hw), fun ha => k.assent (h.assent ha),
    fun he => k.errors (h.errors he), k.inReset.trans h.inReset, k.pending.trans h.pending⟩

theorem State.Endures.rfl : s.Endures s := ⟨.rfl, id⟩

theorem State.Endures.trans (h : s.Endures t) (k : t.Endures u) : s.Endures u :=
  ⟨h.toOutlasts.trans k.toOutlasts, fun hl => k.link (h.link hl)⟩

theorem State.Keeps.outlasts (h : s.Keeps t) : s.Outlasts t :=
  ⟨h.plant, h.stations, h.alerts, h.calendar, h.sweep, h.assent, h.errors, h.inReset, h.pending⟩

theorem State.Keeps.endures (h : s.Keeps t) : s.Endures t := by
  refine ⟨h.outlasts, fun ⟨hbuffer, hreply, herrors⟩ => ?_⟩
  rw [Link.sound, h.port]
  exact ⟨hbuffer, hreply, h.errors herrors⟩

theorem State.outlasts_setLink {f : Link → Link} (hf : s.link.errors ≤ 65535 → (f s.link).errors ≤ 65535) :
    s.Outlasts (s.setLink f) :=
  ⟨id, fun _ => id, id, id, id, id, hf, rfl, rfl⟩

theorem State.endures_setLink {f : Link → Link} (hf : s.link.sound → (f s.link).sound)
    (herrors : s.link.errors ≤ 65535 → (f s.link).errors ≤ 65535) : s.Endures (s.setLink f) :=
  ⟨State.outlasts_setLink herrors, hf⟩

theorem State.endures_settlePins (s : State) : s.Endures s.settlePins :=
  ⟨⟨id, fun _ => id, id, id, id, id, id, rfl, rfl⟩, id⟩

/-! ## Taking a request (R168, R170) -/

/-- The link port after a request was taken: its effect may have counted the errors anew, and the reply is in progress. -/
theorem State.takeWith_link {f : Frame} {effect : State → State × Answer} (h : s.Keeps (effect s).1) :
    (s.takeWith f effect).link = { s.link with errors := (effect s).1.link.errors,
                                                reply := some { request := f, reply := (effect s).2.frame f } } := by
  have hport := h.port
  change { (effect s).1.link with reply := some { request := f, reply := (effect s).2.frame f } } = _
  rw [hport]

theorem State.outlasts_takeWith {f : Frame} {effect : State → State × Answer} (h : s.Keeps (effect s).1) :
    s.Outlasts (s.takeWith f effect) :=
  ⟨h.plant, h.stations, h.alerts, h.calendar, h.sweep, h.assent, h.errors, h.inReset, h.pending⟩

/-- A request taken while its frame is the oldest of the buffer. -/
theorem State.takeWith_linkSound {f : Frame} {effect : State → State × Answer} (h : s.Keeps (effect s).1)
    (hbuffer : s.link.buffer.length ≤ 2) (hhead : s.link.buffer.head? = some f) (herrors : s.link.errors ≤ 65535) :
    (s.takeWith f effect).link.sound := by
  rw [State.takeWith_link h]
  exact ⟨hbuffer, hhead.symm, h.errors herrors⟩

theorem State.outlasts_takeOldest (s : State) : s.Outlasts s.takeOldest := by
  unfold State.takeOldest
  split
  · exact .rfl
  · exact State.outlasts_takeWith (keeps_serve _ s)

theorem State.takeOldest_linkSound (hbuffer : s.link.buffer.length ≤ 2) (hreply : s.link.reply = none)
    (herrors : s.link.errors ≤ 65535) : s.takeOldest.link.sound := by
  unfold State.takeOldest
  split
  · next hnone => exact ⟨hbuffer, by rw [hreply, hnone]; rfl, herrors⟩
  · next f rest hsome => exact State.takeWith_linkSound (keeps_serve f s) hbuffer (by rw [hsome]; rfl) herrors

theorem Link.countError_sound {k : Link} (h : k.sound) : k.countError.sound := ⟨h.1, h.2.1, min_le_left _ _⟩

/-- A frame that joins the buffer behind the one whose reply is in progress. -/
theorem Link.joined_sound {k : Link} (h : k.sound) (hroom : k.buffer.length < 2) (hreply : k.reply ≠ none) (f : Frame) :
    ({ k with buffer := k.buffer ++ [f] } : Link).sound := by
  obtain ⟨-, hhead, herrors⟩ := h
  refine ⟨by simpa using hroom, ?_, herrors⟩
  cases hb : k.buffer with
  | nil =>
    rw [hb] at hhead
    exact absurd (Option.map_eq_none_iff.mp hhead) hreply
  | cons x rest =>
    rw [hb] at hhead
    exact hhead

theorem State.endures_offerFrame (f : Frame) (s : State) : s.Endures (s.offerFrame f) := by
  unfold State.offerFrame
  split
  · next hroom =>
    have hjoined : s.Outlasts (s.setLink (fun k => { k with buffer := k.buffer ++ [f] })) := State.outlasts_setLink id
    dsimp only
    split
    · next hnone =>
      refine ⟨hjoined.trans (State.outlasts_takeOldest _), fun hl => State.takeOldest_linkSound ?_ ?_ hl.2.2⟩
      · simpa [State.setLink] using hroom
      · exact Option.isNone_iff_eq_none.mp hnone
    · next hsome => exact ⟨hjoined, fun hl => Link.joined_sound hl hroom (fun h => hsome (by rw [h]; rfl)) f⟩
  · exact State.endures_setLink Link.countError_sound fun _ => min_le_left _ _

/-! ## The end of a reply (R168, R174) -/

theorem Assent.restart_sound {a : Assent} (h : a.sound) : a.restart.sound :=
  ⟨h.1, Nat.zero_le _, h.2.2.1, (by decide : 4660 < 65536), rfl, fun _ => ⟨rfl, rfl⟩, fun h => absurd h nofun⟩

theorem Sweep.restart_sound {w : Sweep} (h : w.sound) : w.restart.sound := by
  obtain ⟨hlast, hpending, -, hstopped, hline⟩ := Sweep.stopped_sound h
  exact ⟨hlast, hpending, (by decide : 0 < 65536), hstopped, hline⟩

/-- The part with every block restarted, before SOFT_RESTARTED is raised (R174). -/
def State.restarted (s : State) : State :=
  { s with plant := s.plant.restart, sweep := s.sweep.restart, assent := s.assent.restart,
           alerts := s.alerts.restart, link := s.link.restart }

theorem State.softRestart_eq (s : State) : s.softRestart = s.restarted.raiseDevice .softRestarted := rfl

theorem State.endures_softRestart (s : State) : s.Endures s.softRestart := by
  have hrestarted : s.Endures s.restarted :=
    ⟨⟨Plant.restart_sound, fun i hi => by
      rw [State.station, State.restarted, Plant.restart_station]
      exact Station.restart_linkSound hi, fun _ => ⟨List.nodup_nil, fun x hx => absurd hx List.not_mem_nil⟩, id,
      Sweep.restart_sound, Assent.restart_sound, id, rfl, rfl⟩, fun hl => ⟨Nat.zero_le _, rfl, hl.2.2⟩⟩
  rw [State.softRestart_eq]
  exact hrestarted.trans (State.keeps_raiseDevice _ _).endures

theorem State.endures_endReply (s : State) : s.Endures s.endReply := by
  unfold State.endReply
  split
  · exact .rfl
  · split
    · exact s.endures_softRestart
    · refine ⟨(State.outlasts_setLink id).trans (State.outlasts_takeOldest _), fun hl => State.takeOldest_linkSound ?_ rfl hl.2.2⟩
      exact (List.length_drop.trans_le (Nat.sub_le _ _)).trans hl.1

theorem State.endures_endReplies (fuel : Nat) (s : State) : s.Endures (s.endReplies fuel) := by
  induction fuel generalizing s with
  | zero => exact .rfl
  | succ fuel ih => exact s.endures_endReply.trans (ih _)

theorem State.endures_drain (s : State) : s.Endures s.drain := State.endures_endReplies _ s

theorem State.endures_request {effect : State → State × Answer} (h : ∀ s, State.Keeps s (effect s).1) (f : Frame) (s : State) :
    s.Endures (s.request f effect) := by
  have hdrained := s.endures_drain
  have hheld : s.Outlasts (s.drain.setLink (fun k => { k with buffer := [f] })) :=
    hdrained.toOutlasts.trans (State.outlasts_setLink id)
  exact ⟨hheld.trans (State.outlasts_takeWith (h _)), fun hl =>
    State.takeWith_linkSound (h _) (by decide : 1 ≤ 2) rfl (hdrained.errors hl.2.2)⟩

/-! ## The deframer (R164, R165, R167) -/

theorem State.endures_setDeframer (d : Deframer) (s : State) : s.Endures (s.setLink (fun k => { k with deframer := d })) :=
  State.endures_setLink id id

theorem State.endures_lostFrame (s : State) :
    s.Endures (s.setLink (fun k => { k.countError with deframer := .hunting })) :=
  State.endures_setLink (fun h => Link.countError_sound h) fun _ => min_le_left _ _

theorem State.endures_abandonFrame (s : State) : s.Endures s.abandonFrame := by
  unfold State.abandonFrame
  split
  · exact s.endures_lostFrame
  · exact .rfl

theorem State.endures_frameEnds (length : Byte) (received : List Byte) (s : State) : s.Endures (s.frameEnds length received) := by
  unfold State.frameEnds
  dsimp only
  split
  · exact (s.endures_setDeframer .hunting).trans (State.endures_offerFrame _ _)
  · exact (s.endures_setDeframer .hunting).trans
      (State.endures_setLink Link.countError_sound fun _ => min_le_left _ _)

theorem State.endures_receiveCharacter (b : Byte) (s : State) : s.Endures (s.receiveCharacter b) := by
  unfold State.receiveCharacter
  split
  · split
    · exact s.endures_setDeframer .expectLength
    · exact .rfl
  · split
    · exact s.endures_setDeframer (.body b [])
    · exact s.endures_lostFrame
  · split
    · exact s.endures_setDeframer _
    · exact s.endures_frameEnds _ _

/-! ## Every command -/

/-- A command other than the three of R175 performs an effect that keeps every block sound. -/
theorem exec_endures {c : Instr} (hpower : c ≠ .powerOn) (hlow : c ≠ .resetPinLow) (hleave : c ≠ .leaveReset) :
    ∃ f : State → State, (∀ s, exec c s = s.perform f) ∧ ∀ s : State, s.Endures (f s) := by
  cases c with
  | powerOn => exact absurd rfl hpower
  | resetPinLow => exact absurd rfl hlow
  | leaveReset => exact absurd rfl hleave
  | secondsEvent => exact ⟨_, fun _ => rfl, fun s => s.keeps_secondPasses.endures⟩
  | quarterSecondEvent => exact ⟨_, fun _ => rfl, fun s => s.keeps_quarterPasses.endures⟩
  | dwellComplete n => exact ⟨_, fun _ => rfl, fun s => (s.keeps_dwellComplete n).endures⟩
  | minimumOffElapsed => exact ⟨_, fun _ => rfl, fun s => s.keeps_minimumOffPasses.endures⟩
  | stepTimerExpiry n =>
    refine ⟨_, fun _ => rfl, fun s => (State.keeps_ifLoad fun l hl htest => ?_).endures⟩
    exact State.keeps_enterFaulted hl (.inl (Load.isParking_of_timesStep htest))
  | coastLimitExpiry n =>
    refine ⟨_, fun _ => rfl, fun s => (State.keeps_ifLoad fun l hl htest => ?_).endures⟩
    exact State.keeps_enterFaulted hl (.inl (Load.isParking_of_timesStep htest))
  | unloadDwellExpiry n =>
    refine ⟨_, fun _ => rfl, fun s => (State.keeps_ifLoad fun l hl htest => ?_).endures⟩
    exact State.keeps_beginStep hl (Load.isParking_of_timesStep htest) .stopping
  | settleTimerExpiry n =>
    refine ⟨_, fun _ => rfl, fun s => (State.keeps_ifLoad fun l hl htest => ?_).endures⟩
    exact State.keeps_settleExpired hl (Bool.and_eq_true_iff.mp htest).1
  | spacingTimerExpiry i =>
    refine ⟨_, fun _ => rfl, fun s => ?_⟩
    split
    · exact .rfl
    · exact (s.keeps_spacingExpired _).endures
  | answerWindowTimeout =>
    refine ⟨_, fun _ => rfl, fun s => ?_⟩
    split
    · split
      · exact s.keeps_answerTimesOut.endures
      · exact .rfl
    · exact .rfl
  | requestWindowTimeout =>
    refine ⟨_, fun _ => rfl, fun s => ?_⟩
    split
    · split
      · exact s.keeps_requestTimesOut.endures
      · exact .rfl
    · exact .rfl
  | pauseEnd =>
    refine ⟨_, fun _ => rfl, fun s => ?_⟩
    split
    · exact s.keeps_endPause.endures
    · exact .rfl
  | slotEnd => exact ⟨_, fun _ => rfl, fun s => s.keeps_endSlot.endures⟩
  | replyStartTimeout => exact ⟨_, fun _ => rfl, fun s => s.keeps_startLimitPasses.endures⟩
  | fieldReplyReceived chars => exact ⟨_, fun _ => rfl, fun s => (s.keeps_replyEnds chars).endures⟩
  | replyCharacterFault => exact ⟨_, fun _ => rfl, fun s => s.keeps_replyFault.endures⟩
  | visitFrameSent => exact ⟨_, fun _ => rfl, fun s => s.keeps_frameSent.endures⟩
  | replyStartBit => exact ⟨_, fun _ => rfl, fun s => s.keeps_replyBegins.endures⟩
  | framingFault => exact ⟨_, fun _ => rfl, fun s => s.endures_abandonFrame⟩
  | gapTimeout => exact ⟨_, fun _ => rfl, fun s => s.endures_abandonFrame⟩
  | lengthOutOfRange b => exact ⟨_, fun _ => rfl, fun s => s.endures_receiveCharacter b⟩
  | frameComplete b => exact ⟨_, fun _ => rfl, fun s => s.endures_receiveCharacter b⟩
  | characterReceived b => exact ⟨_, fun _ => rfl, fun s => s.endures_receiveCharacter b⟩
  | replySent => exact ⟨_, fun _ => rfl, fun s => s.endures_endReply⟩
  | softRestartTakesEffect => exact ⟨_, fun _ => rfl, fun s => s.endures_softRestart⟩
  | unknownRequest => exact ⟨_, fun _ => rfl, State.endures_request (fun _ => .rfl) _⟩
  | setFeeder => exact ⟨_, fun _ => rfl, State.endures_request (keeps_doSetFeeder _ _ _) _⟩
  | setGroup => exact ⟨_, fun _ => rfl, State.endures_request (keeps_doSetGroup _ _) _⟩
  | setCurve => exact ⟨_, fun _ => rfl, State.endures_request (keeps_doSetCurve _ _) _⟩
  | setStation => exact ⟨_, fun _ => rfl, State.endures_request (keeps_doSetStation _ _ _) _⟩
  | bindLoad => exact ⟨_, fun _ => rfl, State.endures_request (keeps_doBindLoad _ _) _⟩
  | unbindLoad => exact ⟨_, fun _ => rfl, State.endures_request (keeps_doUnbindLoad _) _⟩
  | setProfileDay => exact ⟨_, fun _ => rfl, State.endures_request (keeps_doSetProfileDay _ _ _) _⟩
  | setHoliday => exact ⟨_, fun _ => rfl, State.endures_request (keeps_doSetHoliday _ _) _⟩
  | dropHoliday => exact ⟨_, fun _ => rfl, State.endures_request (keeps_doDropHoliday _) _⟩
  | setAssent => exact ⟨_, fun _ => rfl, State.endures_request (keeps_doSetAssent _) _⟩
  | setAlert => exact ⟨_, fun _ => rfl, State.endures_request (keeps_doSetAlert _ _ _ _ _) _⟩
  | setSweep => exact ⟨_, fun _ => rfl, State.endures_request (keeps_doSetSweep _ _) _⟩
  | setClock => exact ⟨_, fun _ => rfl, State.endures_request (keeps_doSetClock _ _ _) _⟩
  | startSweep => exact ⟨_, fun _ => rfl, State.endures_request (keeps_doStartSweep _ _) _⟩
  | stopSweep => exact ⟨_, fun _ => rfl, State.endures_request keeps_doStopSweep _⟩
  | setLastStation => exact ⟨_, fun _ => rfl, State.endures_request (keeps_doSetLastStation _) _⟩
  | hold => exact ⟨_, fun _ => rfl, State.endures_request (keeps_doHold _) _⟩
  | release => exact ⟨_, fun _ => rfl, State.endures_request (keeps_doRelease _) _⟩
  | parkNow => exact ⟨_, fun _ => rfl, State.endures_request (keeps_doParkNow _) _⟩
  | cancelPark => exact ⟨_, fun _ => rfl, State.endures_request (keeps_doCancelPark _) _⟩
  | wakeNow => exact ⟨_, fun _ => rfl, State.endures_request (keeps_doWakeNow _ _) _⟩
  | cancelWake => exact ⟨_, fun _ => rfl, State.endures_request (keeps_doCancelWake _) _⟩
  | clearFault => exact ⟨_, fun _ => rfl, State.endures_request (keeps_doClearFault _) _⟩
  | setInquiry => exact ⟨_, fun _ => rfl, State.endures_request (keeps_doSetInquiry _ _ _) _⟩
  | challenge => exact ⟨_, fun _ => rfl, State.endures_request (fun s => s.keeps_challenged) _⟩
  | answer => exact ⟨_, fun _ => rfl, State.endures_request (keeps_doAnswer _ _) _⟩
  | readLoad => exact ⟨_, fun _ => rfl, State.endures_request (keeps_doReadLoad _) _⟩
  | readLoads => exact ⟨_, fun _ => rfl, State.endures_request (keeps_doReadLoads _) _⟩
  | readStation => exact ⟨_, fun _ => rfl, State.endures_request (keeps_doReadStation _) _⟩
  | readFeeder => exact ⟨_, fun _ => rfl, State.endures_request (keeps_doReadFeeder _ _) _⟩
  | readStatus => exact ⟨_, fun _ => rfl, State.endures_request keeps_doReadStatus _⟩
  | fetchNotice => exact ⟨_, fun _ => rfl, State.endures_request keeps_doFetchNotice _⟩
  | identify => exact ⟨_, fun _ => rfl, State.endures_request (fun _ => .rfl) _⟩
  | softRestart => exact ⟨_, fun _ => rfl, State.endures_request (fun _ => .rfl) _⟩

/-- An effect that keeps every block sound is performed out of reset, and in reset nothing but the pins changes. -/
theorem State.perform_endures {f : State → State} (hf : ∀ s : State, s.Endures (f s)) (s : State) :
    ∃ t, s.perform f = .next t ∧ s.Endures t := by
  cases hreset : s.inReset with
  | false => exact ⟨_, State.perform_out hreset f, (hf s).trans (f s).endures_settlePins⟩
  | true => exact ⟨_, State.perform_in hreset f, ⟨⟨id, fun _ => id, id, id, id, id, id, rfl, rfl⟩, id⟩⟩

theorem exec_completes {c : Instr} (hpower : c ≠ .powerOn) (hlow : c ≠ .resetPinLow) (hleave : c ≠ .leaveReset)
    (s : State) : ∃ t, exec c s = .next t ∧ s.Endures t := by
  obtain ⟨f, hf, hendures⟩ := exec_endures hpower hlow hleave
  obtain ⟨t, ht, hst⟩ := s.perform_endures hendures
  exact ⟨t, (hf s).trans ht, hst⟩

/-- Settles O2: the effect of a command keeps the waiting commands, and only the rows of R175 speak of the reset. -/
theorem everyCommandCompletes : Obligations.EveryCommandCompletes := by
  intro c s
  have hother (hpower : c ≠ .powerOn) (hlow : c ≠ .resetPinLow) (hleave : c ≠ .leaveReset) :
      ∃ t, exec c s = .next t ∧ t.pending = s.pending ∧ t.inReset = s.inReset := by
    obtain ⟨t, ht, hst⟩ := exec_completes hpower hlow hleave s
    exact ⟨t, ht, hst.pending, hst.inReset⟩
  cases c with
  | powerOn => exact ⟨_, rfl, rfl, rfl⟩
  | resetPinLow => exact ⟨_, rfl, rfl, rfl⟩
  | leaveReset => exact ⟨_, rfl, rfl, rfl⟩
  | _ => exact hother nofun nofun nofun

/-- A property of a block that holds after reset, and that every effect keeps, is kept by every step. -/
theorem step_keeps {good : State → Prop} (hpending : ∀ (s : State) (cs : List Instr), good s → good { s with pending := cs })
    (hcleared : ∀ (inReset : Bool) (s : State), good (s.cleared inReset)) (hendures : ∀ s t : State, s.Endures t → good s → good t)
    {s t : State} (hs : good s) (h : step s = .next t) : good t := by
  have hexec (c : Instr) {u : State} (hu : good u) (h : exec c u = .next t) : good t := by
    have hother (hpower : c ≠ .powerOn) (hlow : c ≠ .resetPinLow) (hleave : c ≠ .leaveReset) : good t := by
      obtain ⟨v, hv, hst⟩ := exec_completes hpower hlow hleave u
      cases hv.symm.trans h
      exact hendures u _ hst hu
    by_cases hpower : c = .powerOn
    · subst hpower
      cases h
      exact hcleared true u
    by_cases hlow : c = .resetPinLow
    · subst hlow
      cases h
      exact hcleared true u
    by_cases hleave : c = .leaveReset
    · subst hleave
      cases h
      exact hcleared false u
    exact hother hpower hlow hleave
  unfold step at h
  split at h
  · cases h
    exact hs
  · next c rest _ => exact hexec c (hpending s rest hs) h

/-- Settles O6: every effect keeps start queues and units sound. -/
theorem stepKeepsStartQueuesAndUnits : Obligations.StepKeepsStartQueuesAndUnits := fun _ _ hs h =>
  step_keeps (good := fun s => s.plant.sound) (fun _ _ => id) (fun _ _ => Plant.reset_sound)
    (fun _ _ hst => hst.plant) hs h

/-- Settles O8: every effect keeps the assent record sound. -/
theorem stepKeepsAssentRecord : Obligations.StepKeepsAssentRecord := fun _ _ hs h =>
  step_keeps (good := fun s => s.assent.sound) (fun _ _ => id) (fun _ _ => Assent.reset_sound) (fun _ _ hst => hst.assent) hs h

/-- Settles O9: every effect keeps the notice queue sound. -/
theorem stepKeepsNoticeQueue : Obligations.StepKeepsNoticeQueue := fun _ _ hs h =>
  step_keeps (good := fun s => s.alerts.queueSound) (fun _ _ => id) (fun _ _ => Alerts.reset_queueSound)
    (fun _ _ hst => hst.alerts) hs h

/-- Settles O10: every effect keeps the calendar sound. -/
theorem stepKeepsCalendar : Obligations.StepKeepsCalendar := fun _ _ hs h =>
  step_keeps (good := fun s => s.calendar.sound) (fun _ _ => id) (fun _ _ => Calendar.reset_sound)
    (fun _ _ hst => hst.calendar) hs h

/-- Settles O11: every effect keeps the link port, the sweep record and the link states sound. -/
theorem stepKeepsLinkAndSweep : Obligations.StepKeepsLinkAndSweep := by
  intro s t h
  refine ⟨fun hl => ?_, fun hw => ?_, fun hi => ?_⟩
  · exact step_keeps (good := fun s => s.link.sound) (fun _ _ => id) (fun _ _ => Link.reset_sound)
      (fun _ _ hst => hst.link) hl h
  · exact step_keeps (good := fun s => s.sweep.sound) (fun _ _ => id) (fun _ _ => Sweep.reset_sound)
      (fun _ _ hst => hst.sweep) hw h
  · exact step_keeps (good := fun s => ∀ i, (s.station i).linkSound = true) (fun _ _ => id) (fun _ _ => Plant.reset_linkSound)
      (fun _ _ hst hi i => hst.stations i (hi i)) hi h

end

end Sys2Proof.Machine
end

section
/-!
PROOFS. The deframer (R164 to R167): what each character makes of the link port, and what a whole frame does.
-/

namespace Sys2Proof.Machine

section

variable {s : State} {b : Byte} {k : Link}

/-- A command whose effect is a change of the link port. -/
theorem State.perform_setLink (hs : s.inReset = false) {effect : State → State} {f : Link → Link}
    (he : effect s = s.setLink f) :
    ∃ t, s.perform effect = .next t ∧ t.link = f s.link ∧ t.blocks = (s.setLink f).blocks := by
  obtain ⟨t, ht, hblocks, hlink, -⟩ := State.perform_out_exists hs effect
  rw [he] at hblocks hlink
  exact ⟨t, ht, hlink, hblocks⟩

/-- A command without effect. -/
theorem State.perform_nothing (hs : s.inReset = false) {effect : State → State} (he : effect s = s) :
    ∃ t, s.perform effect = .next t ∧ t.link = s.link ∧ t.blocks = s.blocks := by
  obtain ⟨t, ht, hblocks, hlink, -⟩ := State.perform_out_exists hs effect
  rw [he] at hblocks hlink
  exact ⟨t, ht, hlink, hblocks⟩

theorem exec_characterReceived (b : Byte) (s : State) :
    exec (.characterReceived b) s = s.perform (State.receiveCharacter b) := rfl

theorem exec_replySent (s : State) : exec .replySent s = s.perform State.endReply := rfl

/-- FRAMING_FAULT and GAP_TIMEOUT both abandon the frame in progress. -/
theorem exec_abandons {c : Instr} (hc : c = .framingFault ∨ c = .gapTimeout) (s : State) :
    exec c s = s.perform State.abandonFrame := by
  rcases hc with rfl | rfl <;> rfl

/-! ## One character (R165) -/

/-- The link port with its deframer at a new place. -/
def Link.place (d : Deframer) (k : Link) : Link := { k with deframer := d }

/-- The link port after a frame that was lost and counted (R164, R165, R167). -/
def Link.lost (k : Link) : Link := { k.countError with deframer := .hunting }

theorem State.receive_noise (h : s.link.deframer = .hunting) (hb : b ≠ linkMark) : s.receiveCharacter b = s := by
  simp only [State.receiveCharacter, h, if_neg hb]

theorem State.receive_mark (h : s.link.deframer = .hunting) :
    s.receiveCharacter linkMark = s.setLink (Link.place .expectLength) := by
  simp only [State.receiveCharacter, h, if_true]
  rfl

theorem State.receive_length (h : s.link.deframer = .expectLength) (hb : within 2 124 b.toNat = true) :
    s.receiveCharacter b = s.setLink (Link.place (.body b [])) := by
  simp only [State.receiveCharacter, h, if_pos hb]
  rfl

theorem State.receive_badLength (h : s.link.deframer = .expectLength) (hb : ¬within 2 124 b.toNat = true) :
    s.receiveCharacter b = s.setLink Link.lost := by
  simp only [State.receiveCharacter, h, if_neg hb]
  rfl

theorem State.receive_body {length : Byte} {received : List Byte} (h : s.link.deframer = .body length received)
    (hmore : received.length + 1 < length.toNat + 2) :
    s.receiveCharacter b = s.setLink (Link.place (.body length (received ++ [b]))) := by
  simp only [State.receiveCharacter, h, if_pos hmore]
  rfl

theorem State.receive_last {length : Byte} {received : List Byte} (h : s.link.deframer = .body length received)
    (hlast : ¬received.length + 1 < length.toNat + 2) : s.receiveCharacter b = s.frameEnds length (received ++ [b]) := by
  simp only [State.receiveCharacter, h, if_neg hlast]

theorem State.abandon_hunting (h : s.link.deframer = .hunting) : s.abandonFrame = s := by
  rw [State.abandonFrame, h]
  rfl

theorem State.abandon_inFrame (h : s.link.deframer ≠ .hunting) : s.abandonFrame = s.setLink Link.lost := by
  unfold State.abandonFrame
  cases hd : s.link.deframer with
  | hunting => exact absurd hd h
  | expectLength => rfl
  | body length received => rfl

/-- Settles O32: each place of the deframer, and each character there. -/
theorem charactersMoveTheDeframer : Obligations.CharactersMoveTheDeframer := by
  intro s b hs
  refine ⟨fun hhunting => ⟨fun hb => ?_, ?_, ?_, ?_⟩, fun hlength => ⟨fun h2 h124 => ?_, fun hbad => ?_⟩,
    fun length received hbody hmore => ?_, fun hframe c hc => ?_⟩
  · exact State.perform_nothing hs (State.receive_noise hhunting hb)
  · exact State.perform_setLink hs (State.receive_mark hhunting)
  · rw [exec_abandons (.inl rfl)]
    exact State.perform_nothing hs (State.abandon_hunting hhunting)
  · rw [exec_abandons (.inr rfl)]
    exact State.perform_nothing hs (State.abandon_hunting hhunting)
  · exact State.perform_setLink hs (State.receive_length hlength (within_iff.mpr ⟨h2, h124⟩))
  · refine State.perform_setLink hs (State.receive_badLength hlength fun h => ?_)
    obtain ⟨h2, h124⟩ := within_iff.mp h
    omega
  · exact State.perform_setLink hs (State.receive_body hbody hmore)
  · rw [exec_abandons hc]
    exact State.perform_setLink hs (State.abandon_inFrame hframe)

/-! ## A whole frame (R165, R168) -/

theorem State.offer_full {f : Frame} (h : 2 ≤ s.link.buffer.length) : s.offerFrame f = s.setLink Link.countError :=
  if_neg (by omega)

/-- The link port with a frame behind those it holds. -/
def Link.joined (f : Frame) (k : Link) : Link := { k with buffer := k.buffer ++ [f] }

theorem State.offer_joins {f : Frame} (h : s.link.buffer.length < 2) (hreply : s.link.reply ≠ none) :
    s.offerFrame f = s.setLink (Link.joined f) := by
  have hbusy : ¬(s.setLink (Link.joined f)).link.reply.isNone = true := fun hnone =>
    hreply (Option.isNone_iff_eq_none.mp hnone)
  rw [State.offerFrame, if_pos h]
  exact if_neg hbusy

theorem State.offer_taken {f : Frame} (h : s.link.buffer = []) (hreply : s.link.reply = none) :
    s.offerFrame f = (s.holding f).takeWith f (serve f) := by
  have hfree : (s.setLink (Link.joined f)).link.reply.isNone = true := Option.isNone_iff_eq_none.mpr hreply
  have hjoined : s.setLink (Link.joined f) = s.holding f := by
    unfold State.setLink State.holding State.setLink Link.joined
    rw [h]
    rfl
  have hlen : s.link.buffer.length < 2 := by rw [h]; decide
  rw [State.offerFrame, if_pos hlen]
  refine (if_pos hfree).trans ?_
  change (s.setLink (Link.joined f)).takeOldest = _
  rw [hjoined]
  rfl

/-- The last character of a frame: its CRC is checked, and the frame offered. -/
theorem State.frameEnds_eq {length kind tag : Byte} {payload check : List Byte} (hlength : payload.length + 2 = length.toNat) :
    s.frameEnds length (kind :: tag :: payload ++ check) =
      if check = crcBytes (length :: kind :: tag :: payload) then
        (s.setLink (Link.place .hunting)).offerFrame { kind, tag, payload }
      else s.setLink Link.lost := by
  have htake : (kind :: tag :: payload ++ check).take length.toNat = kind :: tag :: payload :=
    List.take_left' (by simp [← hlength])
  have hdrop : (kind :: tag :: payload ++ check).drop length.toNat = check := List.drop_left' (by simp [← hlength])
  unfold State.frameEnds
  dsimp only
  rw [htake, hdrop]
  split
  · rfl
  · rfl

/-- Settles O33: a frame whose CRC does not match is counted, and one whose CRC matches is offered. -/
theorem frameCompleteJudgesTheFrame : Obligations.FrameCompleteJudgesTheFrame := by
  refine ⟨by decide +kernel, fun s b length kind tag payload check hs hlength hcheck hbody => ?_⟩
  have hlast : ¬(kind :: tag :: payload ++ check).length + 1 < length.toNat + 2 := by
    simp only [List.length_append, List.length_cons, hcheck]
    omega
  have hends : s.receiveCharacter b = if check ++ [b] = crcBytes (length :: kind :: tag :: payload) then
      (s.setLink (Link.place .hunting)).offerFrame { kind, tag, payload } else s.setLink Link.lost := by
    rw [State.receive_last hbody hlast, List.append_assoc, State.frameEnds_eq hlength]
  refine ⟨fun hcrc => ?_, fun hcrc => ⟨fun hfull => ?_, fun hroom hreply => ?_, fun hempty hreply => ?_⟩⟩
  · rw [if_neg hcrc] at hends
    exact State.perform_setLink hs hends
  · rw [if_pos hcrc, State.offer_full (s := s.setLink (Link.place .hunting)) hfull] at hends
    exact State.perform_setLink hs (f := fun k => (k.place .hunting).countError) hends
  · rw [if_pos hcrc, State.offer_joins (s := s.setLink (Link.place .hunting)) hroom hreply] at hends
    exact State.perform_setLink hs (f := fun k => (k.place .hunting).joined { kind, tag, payload }) hends
  · rw [if_pos hcrc, State.offer_taken (s := s.setLink (Link.place .hunting)) hempty hreply] at hends
    obtain ⟨t, ht, -, hlink, -⟩ := State.perform_out_exists hs (State.receiveCharacter b)
    rw [hends, State.takeWith_link (keeps_serve _ _)] at hlink
    refine ⟨t, _, ht, rfl, ?_, ?_⟩
    · rw [State.answers, hlink]
      rfl
    · rw [hlink]
      rfl

/-! ## The end of a reply (R168) -/

theorem State.endReply_next {r : ReplyInProgress} (hr : s.link.reply = some r) (hplain : r.request.isRestart = false) :
    s.endReply = (s.setLink (fun k => { k with buffer := k.buffer.drop 1, reply := none })).takeOldest := by
  simp only [State.endReply, hr, hplain, Bool.false_eq_true, if_false]

theorem State.endReply_restart {r : ReplyInProgress} (hr : s.link.reply = some r) (hrestart : r.request.isRestart = true) :
    s.endReply = s.softRestart := by
  simp only [State.endReply, hr, hrestart, if_true]

/-- Settles O36: the frame answered leaves the buffer, and the next one held is taken. -/
theorem replySentTakesTheNext : Obligations.ReplySentTakesTheNext := by
  intro s r hs
  refine ⟨fun hnone => State.perform_nothing hs (s.endReply_idle hnone), fun hr hplain f hf => ?_, fun hr hplain f g hfg => ?_,
    fun hr hrestart => ?_⟩
  · refine State.perform_setLink hs (f := fun k => { k with buffer := [], reply := none }) ?_
    rw [State.endReply_next hr hplain]
    simp only [State.setLink, State.takeOldest, hf, List.drop_succ_cons, List.drop_nil]
  · have hnext : s.endReply = (s.setLink (fun k => { k with buffer := [g], reply := none })).takeWith g (serve g) := by
      rw [State.endReply_next hr hplain]
      simp only [State.setLink, State.takeOldest, hfg, List.drop_succ_cons, List.drop_zero]
    obtain ⟨t, ht, -, hlink, -⟩ := State.perform_out_exists hs State.endReply
    rw [hnext, State.takeWith_link (keeps_serve _ _)] at hlink
    refine ⟨t, _, ht, rfl, ?_, ?_⟩
    · rw [State.answers, hlink]
      rfl
    · rw [hlink]
      rfl
  · rw [exec_replySent, exec_softRestartTakesEffect, execSoftRestartTakesEffect, State.perform_out hs, State.perform_out hs,
      State.endReply_restart hr hrestart]

end

end Sys2Proof.Machine
end

section
/-!
PROOFS. A frame on the wire (R165): the characters of any frame, one after another, offer exactly that frame.
-/

namespace Sys2Proof.Machine

section

variable {s : State}

/-- Out of reset and with its pins settled: the state a character finds between two frames. -/
structure State.Settled (s : State) : Prop where
  inReset : s.inReset = false
  pins : s.pins = s.pinLevels

/-- The state with its deframer at a place; the pins show nothing of it. -/
def State.placed (d : Deframer) (s : State) : State := s.setLink (Link.place d)

theorem State.settlePins_placed (hs : s.Settled) (d : Deframer) : (s.placed d).settlePins = s.placed d := by
  have hpins := hs.pins
  have hlevels : (s.placed d).pinLevels = s.pinLevels := rfl
  unfold State.settlePins
  rw [hlevels, ← hpins]
  rfl

theorem State.placed_placed (d e : Deframer) (s : State) : (s.placed d).placed e = s.placed e := rfl

theorem State.placed_self {d : Deframer} (h : s.link.deframer = d) : s.placed d = s := by
  subst h
  rfl

/-- A character that moves the deframer on. -/
theorem receiveAll_placed (hs : s.Settled) {b : Byte} {d e : Deframer} (h : (s.placed d).receiveCharacter b = s.placed e)
    (rest : List Byte) : receiveAll (b :: rest) (s.placed d) = receiveAll rest (s.placed e) := by
  have hexec : exec (.characterReceived b) (s.placed d) = .next (s.placed e) := by
    rw [exec_characterReceived, State.perform_out (s := s.placed d) hs.inReset, h, State.settlePins_placed hs]
  rw [receiveAll, hexec]

/-- Characters that do not complete the frame are kept. -/
theorem receiveAll_body (hs : s.Settled) {length : Byte} (chars received rest : List Byte)
    (hmore : received.length + chars.length < length.toNat + 2) :
    receiveAll (chars ++ rest) (s.placed (.body length received)) =
      receiveAll rest (s.placed (.body length (received ++ chars))) := by
  induction chars generalizing received with
  | nil => rw [List.append_nil, List.nil_append]
  | cons b chars ih =>
    rw [List.length_cons] at hmore
    have hstep : (s.placed (.body length received)).receiveCharacter b = s.placed (.body length (received ++ [b])) :=
      State.receive_body (s := s.placed (.body length received)) rfl (by omega)
    rw [List.cons_append, receiveAll_placed hs hstep, ih, List.append_assoc, List.singleton_append]
    rw [List.length_append, List.length_singleton]
    omega

/-- The character that completes a frame. -/
theorem receiveAll_last (hs : s.Settled) (hhunting : s.link.deframer = .hunting) (f : Frame) {b c length : Byte}
    (hlength : f.payload.length + 2 = length.toNat) (hcrc : [c, b] = crcBytes (length :: f.kind :: f.tag :: f.payload)) :
    receiveAll [b] (s.placed (.body length (f.kind :: f.tag :: f.payload ++ [c]))) = some (s.offerFrame f).settlePins := by
  have hlast : ¬(f.kind :: f.tag :: f.payload ++ [c]).length + 1 < length.toNat + 2 := by
    simp only [List.length_append, List.length_cons, List.length_nil]
    omega
  have hends := State.receive_last (s := s.placed (.body length (f.kind :: f.tag :: f.payload ++ [c]))) (b := b) rfl hlast
  rw [List.append_assoc, State.frameEnds_eq hlength, if_pos (by simpa using hcrc)] at hends
  have hplaced : (s.placed (.body length (f.kind :: f.tag :: f.payload ++ [c]))).setLink (Link.place .hunting) = s :=
    (s.placed_placed _ .hunting).trans (State.placed_self hhunting)
  rw [hplaced] at hends
  rw [receiveAll, exec_characterReceived, State.perform_out (s := s.placed (.body length (f.kind :: f.tag :: f.payload ++ [c]))) hs.inReset, hends]
  rfl

/-- Settles O34: start mark, length byte, body and CRC in turn. -/
theorem wireRoundTrip : Obligations.WireRoundTrip := by
  intro f s hpayload hreset hhunting hpins
  have hs : s.Settled := ⟨hreset, hpins⟩
  have hlength : f.payload.length + 2 = (b8 (f.payload.length + 2)).toNat := by
    rw [b8, BitVec.toNat_ofNat]
    omega
  have hinRange : within 2 124 (b8 (f.payload.length + 2)).toNat = true := by
    rw [← hlength, within_iff]
    omega
  obtain ⟨c, b, hcrc⟩ : ∃ c b, crcBytes f.covered = [c, b] := ⟨_, _, rfl⟩
  have hmark : (s.placed .hunting).receiveCharacter linkMark = s.placed .expectLength :=
    State.receive_mark (s := s.placed .hunting) rfl
  have hcount : (s.placed .expectLength).receiveCharacter (b8 (f.payload.length + 2)) =
      s.placed (.body (b8 (f.payload.length + 2)) []) :=
    State.receive_length (s := s.placed .expectLength) rfl hinRange
  have hwire : f.wire = linkMark :: b8 (f.payload.length + 2) :: ((f.kind :: f.tag :: f.payload ++ [c]) ++ [b]) := by
    rw [Frame.wire, hcrc, Frame.covered]
    simp
  have hmore : ([] : List Byte).length + (f.kind :: f.tag :: f.payload ++ [c]).length <
      (b8 (f.payload.length + 2)).toNat + 2 := by
    simp only [List.length_append, List.length_cons, List.length_nil]
    omega
  calc receiveAll f.wire s
      = receiveAll f.wire (s.placed .hunting) := by rw [State.placed_self hhunting]
    _ = receiveAll ((f.kind :: f.tag :: f.payload ++ [c]) ++ [b]) (s.placed (.body (b8 (f.payload.length + 2)) [])) := by
      rw [hwire, receiveAll_placed hs hmark, receiveAll_placed hs hcount]
    _ = receiveAll [b] (s.placed (.body (b8 (f.payload.length + 2)) (f.kind :: f.tag :: f.payload ++ [c]))) := by
      rw [receiveAll_body hs _ _ _ hmore, List.nil_append]
    _ = some (s.offerFrame f).settlePins := receiveAll_last hs hhunting f hlength hcrc.symm

end

end Sys2Proof.Machine
end

section
/-!
PROOFS. Every request row is the taking of its frame (R168, R177): what the part reads from the bytes that carry a
request is the request.
-/

namespace Sys2Proof.Machine

/-! ## Numbers and their bytes (R176) -/

theorem byte_b8 {n : Nat} (h : fitsByte n = true) : (b8 n).toNat = n := by
  have : n < 256 := of_decide_eq_true h
  rw [b8, BitVec.toNat_ofNat]
  omega

theorem word_b16 {n : Nat} (h : fitsWord n = true) : (b8 (n / 256)).toNat * 256 + (b8 n).toNat = n := by
  have : n < 65536 := of_decide_eq_true h
  rw [b8, b8, BitVec.toNat_ofNat, BitVec.toNat_ofNat]
  omega

theorem seconds_b24 {n : Nat} (h : fitsSeconds n = true) :
    (b8 (n / 65536)).toNat * 65536 + (b8 (n / 256)).toNat * 256 + (b8 n).toNat = n := by
  have : n < 16777216 := of_decide_eq_true h
  rw [b8, b8, b8, BitVec.toNat_ofNat, BitVec.toNat_ofNat, BitVec.toNat_ofNat]
  omega

@[simp] theorem u8_zero (b : Byte) (p : List Byte) : u8 (b :: p) 0 = b.toNat := rfl

@[simp] theorem u8_succ (b : Byte) (p : List Byte) (i : Nat) : u8 (b :: p) (i + 1) = u8 p i := rfl

/-! ## The fields of a payload (R177) -/

theorem Knots.ofPayload_bytes {k : Knots} (h : k.fits = true) (c : Nat) : Knots.ofPayload (b8 c :: k.bytes) = k := by
  simp only [Knots.fits, Bool.and_eq_true] at h
  simp [Knots.ofPayload, Knots.bytes, u16, b16, word_b16, h]

theorem AssentFields.ofPayload_bytes {f : AssentFields} (h : f.fits = true) : AssentFields.ofPayload f.bytes = f := by
  simp only [AssentFields.fits, Bool.and_eq_true] at h
  simp [AssentFields.ofPayload, AssentFields.bytes, byte_b8, h]

theorem BindFields.ofPayload_bytes {f : BindFields} (h : f.fits = true) (n : Nat) :
    BindFields.ofPayload (b8 n :: f.bytes) = f := by
  simp only [BindFields.fits, Bool.and_eq_true] at h
  simp [BindFields.ofPayload, BindFields.bytes, u16, b16, byte_b8, word_b16, h]

theorem dateAt_bytes {d : Date} (h : d.fits = true) (rest : List Byte) : dateAt (d.bytes ++ rest) 0 = d := by
  simp only [Date.fits, Bool.and_eq_true] at h
  simp [dateAt, Date.bytes, u16, b16, byte_b8, word_b16, h]

theorem slotsOf_bytes (r : SlotRow) (p d : Byte) : slotsOf (p :: d :: slotBytes r) 2 = r := by
  have := r.isLt
  apply BitVec.eq_of_toNat_eq
  simp only [slotsOf, slotBytes, u8_succ, u8_zero, b8, BitVec.toNat_ofNat]
  omega

/-! ## The rows -/

section

variable {f : Frame} {s : State} {c : Instr}

theorem serve_of {kind length : Nat} (hkind : f.kind.toNat = kind) (hlength : payloadLength? kind = some length)
    (hpayload : f.payload.length = length) : serve f = serveKnown kind f.payload := by
  funext s
  subst hkind
  simp only [serve, hlength, hpayload, if_true]

/-- A row whose effect is that of its frame. -/
theorem exec_serves {effect : State → State × Answer} (hexec : exec c s = s.perform (State.request f effect))
    (h : serve f = effect) : exec c s = s.perform (State.request f (serve f)) := by
  rw [h, hexec]

theorem serve_unknown (h : payloadLength? f.kind.toNat = none) : serve f = doUnknown := by
  funext s
  simp only [serve, h]

theorem payloadLength?_eq_none {kind : Nat} (h : kind = 0 ∨ 34 < kind) : payloadLength? kind = none := by
  rcases h with rfl | h
  · rfl
  · obtain ⟨k, rfl⟩ := Nat.exists_eq_add_of_le' h
    rfl

/-- Settles O35: the row of each request, by the bytes that carry it. -/
theorem requestRowsAreTheirFrames : Obligations.RequestRowsAreTheirFrames := by
  refine ⟨fun c f s hfits hf => ?_, fun kind tag payload s hfits => ?_⟩
  · cases c with
    | setFeeder | setGroup | setStation | unbindLoad | setAlert | setSweep | startSweep | stopSweep | setLastStation | hold
    | release | parkNow | cancelPark | wakeNow | cancelWake | clearFault | setInquiry | challenge | readLoad | readLoads
    | readStation | readFeeder | readStatus | fetchNotice | identify | softRestart =>
      cases hf
      refine exec_serves rfl ((serve_of rfl rfl rfl).trans ?_)
      simp only [Instr.wellFormed, Bool.and_eq_true] at hfits
      funext u
      simp [serveKnown, byte_b8, hfits]
    | setCurve tag curve knots =>
      cases hf
      obtain ⟨hcurve, hknots⟩ := Bool.and_eq_true_iff.mp hfits
      refine exec_serves rfl ((serve_of rfl rfl rfl).trans ?_)
      funext u
      simp [serveKnown, byte_b8 hcurve, Knots.ofPayload_bytes hknots]
    | bindLoad tag load fields =>
      cases hf
      obtain ⟨hload, hfields⟩ := Bool.and_eq_true_iff.mp hfits
      refine exec_serves rfl ((serve_of rfl rfl rfl).trans ?_)
      funext u
      simp [serveKnown, byte_b8 hload, BindFields.ofPayload_bytes hfields]
    | setProfileDay tag profile day slots =>
      cases hf
      obtain ⟨hprofile, hday⟩ := Bool.and_eq_true_iff.mp hfits
      refine exec_serves rfl ((serve_of rfl rfl rfl).trans ?_)
      funext u
      simp [serveKnown, byte_b8 hprofile, byte_b8 hday, slotsOf_bytes]
    | setHoliday tag date rule =>
      cases hf
      obtain ⟨hdate, hrule⟩ := Bool.and_eq_true_iff.mp hfits
      refine exec_serves rfl ((serve_of rfl rfl rfl).trans ?_)
      funext u
      simp only [serveKnown, dateAt_bytes hdate]
      simp [Date.bytes, b16, byte_b8 hrule]
    | dropHoliday tag date =>
      cases hf
      have hdate : date.fits = true := hfits
      have hread := dateAt_bytes hdate []
      rw [List.append_nil] at hread
      refine exec_serves rfl ((serve_of rfl rfl rfl).trans ?_)
      funext u
      simp [serveKnown, hread]
    | setAssent tag fields =>
      cases hf
      have hfields : fields.fits = true := hfits
      refine exec_serves rfl ((serve_of rfl rfl rfl).trans ?_)
      funext u
      simp [serveKnown, AssentFields.ofPayload_bytes hfields]
    | setClock tag date dayOfWeek seconds =>
      cases hf
      simp only [Instr.wellFormed, Bool.and_eq_true] at hfits
      obtain ⟨⟨hdate, hday⟩, hseconds⟩ := hfits
      refine exec_serves rfl ((serve_of rfl rfl rfl).trans ?_)
      funext u
      simp only [serveKnown, dateAt_bytes hdate]
      simp [Date.bytes, b16, b24, u24, byte_b8 hday, seconds_b24 hseconds]
    | answer tag echo value =>
      cases hf
      obtain ⟨hecho, hvalue⟩ := Bool.and_eq_true_iff.mp hfits
      refine exec_serves rfl ((serve_of rfl rfl rfl).trans ?_)
      funext u
      simp [serveKnown, u16, b16, word_b16 hecho, word_b16 hvalue]
    | _ => cases hf
  · simp only [Instr.wellFormed, Bool.and_eq_true, Bool.or_eq_true, beq_iff_eq, decide_eq_true_eq] at hfits
    exact exec_serves rfl (serve_unknown (payloadLength?_eq_none hfits.1))

end

end Sys2Proof.Machine
end

section
/-!
PROOFS. Requests that change settings alone or nothing (R106, R114, R123 to R125, R169), and the soft restart (R26, R91,
R119, R137, R154, R163, R174).
-/

namespace Sys2Proof.Machine

section

variable {s : State} {f : Frame} {effect : State → State × Answer} {n : Nat}

/-- A request that is accepted and makes a change. -/
theorem State.perform_accepted (hs : s.ready) {change : State → State}
    (he : effect (s.holding f) = (change (s.holding f)).accept) :
    ∃ t, s.perform (State.request f effect) = .next t ∧ t.answers f.kind f.tag .done [] ∧
      t.blocks = (change (s.holding f)).blocks := by
  obtain ⟨t, ht, hblocks, hanswers, -⟩ := s.perform_request hs f effect
  rw [he] at hblocks hanswers
  exact ⟨t, ht, hanswers, hblocks⟩

/-! ## The checks before the owning rule (R169) -/

theorem State.forLoad_outOfRange (h : n = 0 ∨ 96 < n) (g : Load → State × Answer) : s.forLoad n g = s.refuse .range := by
  have hrange : ¬within 1 Config.loadCount n = true := by
    rw [within_iff, Config.loadCount]
    omega
  rw [State.forLoad, if_neg hrange]

theorem State.forLoad_unbound (h1 : 1 ≤ n) (h96 : n ≤ 96) (hnone : s.load? n = none) (g : Load → State × Answer) :
    s.forLoad n g = s.refuse .notBound := by
  have hrange : within 1 Config.loadCount n = true := within_iff.mpr ⟨h1, h96⟩
  rw [State.forLoad, if_pos hrange, hnone]

/-- The requests that name a load go through its two checks. -/
theorem exec_namesLoad {tag kind : Byte} {override : Nat} {c : Instr}
    (h : (kind = 6 ∧ c = .unbindLoad tag n) ∨ (kind = 17 ∧ c = .hold tag n) ∨ (kind = 18 ∧ c = .release tag n) ∨
      (kind = 19 ∧ c = .parkNow tag n) ∨ (kind = 20 ∧ c = .cancelPark tag n) ∨
      (kind = 21 ∧ c = .wakeNow tag n override) ∨ (kind = 22 ∧ c = .cancelWake tag n) ∨
      (kind = 23 ∧ c = .clearFault tag n) ∨ (kind = 27 ∧ c = .readLoad tag n)) :
    ∃ (payload : List Byte) (effect : State → State × Answer) (rule : State → Load → State × Answer),
      (∀ s, exec c s = s.perform (State.request { kind, tag, payload } effect)) ∧ ∀ s, effect s = s.forLoad n (rule s) := by
  rcases h with ⟨rfl, rfl⟩ | ⟨rfl, rfl⟩ | ⟨rfl, rfl⟩ | ⟨rfl, rfl⟩ | ⟨rfl, rfl⟩ | ⟨rfl, rfl⟩ | ⟨rfl, rfl⟩ | ⟨rfl, rfl⟩ | ⟨rfl, rfl⟩
  all_goals exact ⟨_, _, _, fun _ => rfl, fun _ => rfl⟩

theorem serve_wrongLength {length : Nat} (hlength : payloadLength? f.kind.toNat = some length)
    (hpayload : f.payload.length ≠ length) (s : State) : serve f s = refuseLength f.kind.toNat s := by
  simp only [serve, hlength, if_neg hpayload]

/-- Settles O37: UNKNOWN, then LENGTH, then the load number, then whether the load is bound. -/
theorem requestsAreCheckedInOrder : Obligations.RequestsAreCheckedInOrder := by
  intro s tag hs
  refine ⟨fun kind payload _ => s.perform_refused hs { kind, tag, payload } _ .unknown rfl,
    fun f length hlength hpayload => ?_, fun n override c kind hc => ?_⟩
  · rw [serve_wrongLength hlength hpayload, refuseLength]
    split
    · next hmonitor =>
      have hkind : f.kind = 25 ∨ f.kind = 26 := hmonitor.imp (fun h => BitVec.eq_of_toNat_eq h) (fun h => BitVec.eq_of_toNat_eq h)
      refine ⟨rfl, rfl, fun h25 h26 => (hkind.elim h25 h26).elim, fun _ => ?_⟩
      simp [Assent.answer, optItem, bitValue_eq, Nat.mul_comm]
    · next hother =>
      refine ⟨rfl, rfl, fun _ _ => rfl, fun hkind => absurd ?_ hother⟩
      exact hkind.imp (fun h => by rw [h]; rfl) (fun h => by rw [h]; rfl)
  · obtain ⟨payload, effect, rule, hexec, heffect⟩ := exec_namesLoad hc
    refine ⟨fun h => ?_, fun h1 h96 hnone => ?_⟩
    · rw [hexec]
      exact s.perform_refused hs _ _ .range ((heffect _).trans (State.forLoad_outOfRange h _))
    · rw [hexec]
      exact s.perform_refused hs _ _ .notBound ((heffect _).trans (State.forLoad_unbound (s := s.holding _) h1 h96 hnone _))

/-! ## SET SWEEP, STOP SWEEP and SET LAST STATION (R123 to R125) -/

theorem LineRate.ofCode?_code (r : LineRate) : LineRate.ofCode? r.code = some r := by cases r <;> rfl

theorem LineRate.ofCode?_eq_none {r : Nat} (h : 3 < r) : LineRate.ofCode? r = none := by
  obtain ⟨k, rfl⟩ := Nat.exists_eq_add_of_le' h
  rfl

theorem doSetSweep_range {r p : Nat} (h : 3 < r ∨ 255 < p) (s : State) : doSetSweep r p s = s.refuse .range := by
  unfold doSetSweep
  rcases h with h | h
  · rw [LineRate.ofCode?_eq_none h]
  · have hp : ¬within 0 255 p = true := by
      rw [within_iff]
      omega
    simp only [if_pos hp]
    split <;> rfl

theorem doSetSweep_inRange (r : LineRate) {p : Nat} (h : p ≤ 255) (s : State) :
    doSetSweep r.code p s = if s.sweep.mode ≠ .stopped then s.refuse .busy
      else (s.setSweep (fun w => { w with rate := r, pause := p })).accept := by
  have hp : ¬¬within 0 255 p = true := not_not.mpr (within_iff.mpr ⟨Nat.zero_le _, h⟩)
  simp only [doSetSweep, LineRate.ofCode?_code, if_neg hp]

theorem doStopSweep_running (h : s.sweep.mode ≠ .stopped) :
    doStopSweep s = (s.setSweep (fun w => { w with stopRequested := true })).accept := if_neg h

theorem doSetLastStation_range {last : Nat} (h : last = 0 ∨ 40 < last) (s : State) :
    doSetLastStation last s = s.refuse .range := by
  refine if_pos fun hrange => ?_
  obtain ⟨h1, h40⟩ := within_iff.mp hrange
  rw [Config.stationCount] at h40
  omega

theorem doSetLastStation_inRange {last : Nat} (h1 : 1 ≤ last) (h40 : last ≤ 40) (s : State) :
    doSetLastStation last s = (s.setSweep (fun w =>
      if w.mode = .stopped then { w with lastStation := last } else { w with pendingLast := some last })).accept := by
  have hrange : ¬¬within 1 Config.stationCount last = true := not_not.mpr (within_iff.mpr ⟨h1, h40⟩)
  unfold doSetLastStation State.setSweep
  rw [if_neg hrange]
  by_cases hmode : s.sweep.mode = .stopped
  · simp only [hmode, if_true]
  · simp only [hmode, if_false]

/-- Settles O47: ranges, then the mode, then the fields replaced. -/
theorem sweepIsConfiguredAndStopped : Obligations.SweepIsConfiguredAndStopped := by
  intro s tag hs
  refine ⟨fun r p h => ?_, fun r p h => ⟨fun hmode => ?_, fun hmode => ?_⟩, ?_, fun n h => ?_, fun n h1 h40 => ?_⟩
  · exact s.perform_refused hs { kind := 12, tag, payload := [b8 r, b8 p] } _ .range (doSetSweep_range h _)
  · exact s.perform_refused hs { kind := 12, tag, payload := [b8 r.code, b8 p] } _ .busy
      ((doSetSweep_inRange r h _).trans (if_pos hmode))
  · exact State.perform_accepted hs (f := { kind := 12, tag, payload := [b8 r.code, b8 p] })
      ((doSetSweep_inRange r h _).trans (if_neg (not_not.mpr hmode)))
  · by_cases hmode : s.sweep.mode = .stopped
    · rw [if_pos hmode]
      exact State.perform_accepted hs (f := { kind := 15, tag, payload := [] }) (change := id) (if_pos hmode)
    · rw [if_neg hmode]
      exact State.perform_accepted hs (f := { kind := 15, tag, payload := [] }) (effect := doStopSweep)
        (change := State.setSweep (fun w => { w with stopRequested := true })) (doStopSweep_running hmode)
  · exact s.perform_refused hs { kind := 16, tag, payload := [b8 n] } _ .range (doSetLastStation_range h _)
  · exact State.perform_accepted hs (f := { kind := 16, tag, payload := [b8 n] }) (effect := doSetLastStation n)
      (change := State.setSweep (fun w =>
        if w.mode = .stopped then { w with lastStation := n } else { w with pendingLast := some n }))
      (doSetLastStation_inRange h1 h40 _)

/-! ## SET STATION and SET INQUIRY (R106, R114) -/

theorem keepFitted_get (fitted : Nat) (v : Vector Bool 4) (c : Channel) :
    (keepFitted fitted v)[c] = if c.val < fitted then v[c] else false := by
  fin_cases c <;> simp [keepFitted, Bool.and_comm]

theorem doSetStation_range {n e f : Nat} (h : ¬(1 ≤ n ∧ n ≤ 40 ∧ e ≤ 1 ∧ 1 ≤ f ∧ f ≤ 4)) (s : State) :
    doSetStation n e f s = s.refuse .range := by
  unfold doSetStation
  by_cases hn : 1 ≤ n ∧ n ≤ 40
  · by_cases he : e ≤ 1
    · have hf : ¬within 1 4 f = true := by
        rw [within_iff]
        omega
      simp only [if_pos hf]
      split <;> rfl
    · rw [bool?_of_lt (not_le.mp he)]
      cases index? 40 n <;> rfl
  · rw [index?_eq_none hn]

theorem doSetStation_inRange (i : StationId) (e : Bool) {f : Nat} (h1 : 1 ≤ f) (h4 : f ≤ 4) (s : State) :
    doSetStation (i.val + 1) e.toNat f s =
      if s.plant.loads.any (fun l => l.cfg.station == i && decide (f ≤ l.cfg.channel.val)) then s.refuse .conflict
      else (s.setStation i (Station.configure e f)).accept := by
  have hf : ¬¬within 1 4 f = true := not_not.mpr (within_iff.mpr ⟨h1, h4⟩)
  simp only [doSetStation, index?_succ, bool?_toNat, if_neg hf]

theorem InquiryKind.ofCode?_code (k : InquiryKind) : InquiryKind.ofCode? k.code = some k := by cases k <;> rfl

theorem InquiryKind.ofCode?_eq_none {k : Nat} (h : 4 < k) : InquiryKind.ofCode? k = none := by
  obtain ⟨j, rfl⟩ := Nat.exists_eq_add_of_le' h
  rfl

theorem doSetInquiry_range {n k o : Nat} (h : ¬(1 ≤ n ∧ n ≤ 40 ∧ k ≤ 4 ∧ o ≤ 3)) (s : State) :
    doSetInquiry n k o s = s.refuse .range := by
  unfold doSetInquiry
  by_cases hn : 1 ≤ n ∧ n ≤ 40
  · by_cases hk : k ≤ 4
    · have ho : ¬within 0 3 o = true := by
        rw [within_iff]
        omega
      simp only [if_neg ho]
      split <;> rfl
    · rw [InquiryKind.ofCode?_eq_none (not_le.mp hk)]
      cases index? 40 n <;> rfl
  · rw [index?_eq_none hn]

/-- The line after the inquiry slot of a station has been replaced: a visit of that station learns it (R114). -/
theorem LinePhase.replaceInquiry_eq (i : StationId) (line : LinePhase) : line.replaceInquiry i = (match line with
    | .slot v => .slot { v with inquiryReplaced := v.inquiryReplaced || decide (v.station = i) }
    | other => other) := by
  cases line with
  | slot v =>
    by_cases h : v.station = i
    · simp [LinePhase.replaceInquiry, h]
    · simp [LinePhase.replaceInquiry, h]
  | _ => rfl

/-- The two options of an inquiry in one number (R176). -/
theorem optionBits (once round : Bool) : within 0 3 (once.toNat + 2 * round.toNat) = true ∧
    bitOf (once.toNat + 2 * round.toNat) 0 = once ∧ bitOf (once.toNat + 2 * round.toNat) 1 = round := by
  cases once <;> cases round <;> decide

theorem doSetInquiry_inRange (i : StationId) (k : InquiryKind) (once round : Bool) (s : State) :
    doSetInquiry (i.val + 1) k.code (once.toNat + 2 * round.toNat) s =
      ((s.setStation i (fun st => { st with inquiry := k, once, round })).setSweep
        (fun w => { w with line := w.line.replaceInquiry i })).accept := by
  obtain ⟨hrange, honce, hround⟩ := optionBits once round
  simp only [doSetInquiry, index?_succ, InquiryKind.ofCode?_code, if_pos hrange, honce, hround]

/-- Settles O40: ranges, then the bound loads, then the fields written. -/
theorem stationsAndInquiriesAreSet : Obligations.StationsAndInquiriesAreSet := by
  intro s tag hs
  refine ⟨fun n e f h => ?_, fun i e f h1 h4 => ⟨fun hconflict => ?_, fun hfits => ?_⟩, fun n k o h => ?_,
    fun i k once round => ?_⟩
  · exact s.perform_refused hs { kind := 4, tag, payload := [b8 n, b8 e, b8 f] } _ .range (doSetStation_range h _)
  · refine s.perform_refused hs { kind := 4, tag, payload := [b8 (i.val + 1), b8 e.toNat, b8 f] } _ .conflict
      ((doSetStation_inRange i e h1 h4 _).trans (if_pos ?_))
    obtain ⟨l, hl, hi, hf⟩ := hconflict
    exact List.any_eq_true.mpr ⟨l, hl, by simp [hi, hf]⟩
  · have hnone : ¬s.plant.loads.any (fun l => l.cfg.station == i && decide (f ≤ l.cfg.channel.val)) = true := by
      simp only [List.any_eq_true, Bool.and_eq_true, beq_iff_eq, decide_eq_true_eq]
      rintro ⟨l, hl, hi, hf⟩
      exact absurd (hfits l hl hi) hf.not_gt
    obtain ⟨t, ht, hanswers, hblocks⟩ := State.perform_accepted hs
      (f := { kind := 4, tag, payload := [b8 (i.val + 1), b8 e.toNat, b8 f] })
      ((doSetStation_inRange i e h1 h4 _).trans (if_neg hnone))
    have hplant : t.plant = s.plant.setStation i (Station.configure e f) := congrArg Blocks.plant hblocks
    have hself : t.station i = (s.station i).configure e f := by
      rw [State.station, hplant, Plant.station_setStation_self]
      rfl
    refine ⟨t, ht, hanswers, ?_, fun j hj => ?_, ?_, fun c => ?_⟩
    · rw [hblocks, hplant]
      rfl
    · rw [State.station, hplant, Plant.station_setStation_other _ hj]
      rfl
    · rw [hself]
      rfl
    · rw [hself]
      exact ⟨keepFitted_get f _ c, keepFitted_get f _ c⟩
  · exact s.perform_refused hs { kind := 24, tag, payload := [b8 n, b8 k, b8 o] } _ .range (doSetInquiry_range h _)
  · obtain ⟨t, ht, hanswers, hblocks⟩ := State.perform_accepted hs
      (change := fun u => (u.setStation i (fun st => { st with inquiry := k, once, round })).setSweep
        (fun w => { w with line := w.line.replaceInquiry i }))
      (f := { kind := 24, tag, payload := [b8 (i.val + 1), b8 k.code, b8 (once.toNat + 2 * round.toNat)] })
      (doSetInquiry_inRange i k once round _)
    refine ⟨t, ht, hanswers, hblocks.trans ?_⟩
    simp only [State.blocks, State.setSweep, LinePhase.replaceInquiry_eq]
    rfl

/-! ## The soft restart (R26, R91, R119, R137, R154, R163, R174) -/

/-- Settles O57: the restart of loads, feeders and stations. -/
theorem softRestartOfThePlant : Obligations.SoftRestartOfThePlant := by
  intro s
  refine ⟨fun tag hs => ?_, fun hs => ?_⟩
  · exact State.perform_accepted hs (f := { kind := 34, tag, payload := [] }) (change := id) rfl
  · have hplant : s.softRestart.settlePins.plant = s.plant.restart := s.softRestart_plant
    refine ⟨_, State.perform_out hs State.softRestart, ?_, fun i => ?_, fun i => ?_, ?_, ?_⟩
    · rw [hplant, Plant.restart_loads]
      rfl
    · rw [hplant, Plant.restart_feeder]
      rfl
    · rw [State.station, hplant, Plant.restart_station]
      rfl
    · rw [hplant, Plant.restart_groups]
    · rw [hplant, Plant.restart_curves]

/-- SOFT_RESTARTED alone waits in a queue that was empty, where it is enabled. -/
theorem State.restarted_notice (s : State) : (s.restarted.raiseDevice .softRestarted).alerts = { s.alerts.restart with
    queue := if s.alerts.enabled = true ∧ s.alerts.deviceSet.getLsbD 7 = true then
        [{ source := .device, kinds := 128, time := s.calendar.clock.map Clock.stamp, opened := 0, closed := 0 }]
      else [] } := by
  by_cases h : s.alerts.enabled = true ∧ s.alerts.deviceSet.getLsbD 7 = true
  · have hbit : (s.restarted.alerts.deviceSet.getLsbD DeviceEvent.softRestarted.bit) = true := h.2
    rw [if_pos h, State.raiseDevice, State.raiseDeviceWith, hbit, State.offer_enabled (s := s.restarted) h.1]
    rfl
  · have hoff : ¬(s.restarted.alerts.enabled && s.restarted.alerts.deviceSet.getLsbD DeviceEvent.softRestarted.bit) = true :=
      fun hon => h (Bool.and_eq_true_iff.mp hon)
    rw [if_neg h, State.raiseDevice, State.raiseDeviceWith, State.offer, if_neg hoff]
    rfl

/-- Settles O58: the restart of sweep, monitor, alert block and link port. -/
theorem softRestartOfTheRest : Obligations.SoftRestartOfTheRest := by
  intro s hs
  have hrest : s.softRestart.blocks = { s.restarted.blocks with alerts := s.softRestart.alerts } :=
    (s.restarted.raiseDeviceWith_onlyNotices 0 0 .softRestarted).blocks
  refine ⟨_, State.perform_out hs State.softRestart, ?_, s.softRestart_assent, s.restarted_notice, ?_, ?_, ?_, ?_⟩
  · exact congrArg Blocks.sweep hrest
  · exact State.raiseDevice_link _ _
  · exact congrArg Blocks.calendar hrest
  · exact (congrArg Blocks.inReset hrest).trans hs
  · exact congrArg Blocks.pending hrest

end

end Sys2Proof.Machine
end

section
/-!
PROOFS. The windows of the monitor (R141, R148, R149), and the requests that set the clock and the profile rows (R94, R95).
-/

namespace Sys2Proof.Machine

section

variable {s t : State} {e : Nat}

/-! ## The windows (R141, R148, R149) -/

theorem State.quarter_awaitAnswer (h : s.assent.state = .awaitAnswer e) : s.quarterPasses =
    if s.assent.params.answerEnd ≤ e + 1 then s.answerTimesOut
    else s.setAssent (fun a => { a with state := .awaitAnswer (e + 1) }) := by
  simp only [State.quarterPasses, h]

theorem State.quarter_awaitChallenge (h : s.assent.state = .awaitChallenge e) : s.quarterPasses =
    if s.assent.params.requestEnd ≤ e + 1 then s.requestTimesOut
    else s.setAssent (fun a => { a with state := .awaitChallenge (e + 1) }) := by
  simp only [State.quarterPasses, h]

theorem State.quarter_resting (h : s.assent.state = .dormant ∨ s.assent.state = .lapsed) : s.quarterPasses = s := by
  rcases h with h | h
  · simp only [State.quarterPasses, h]
  · simp only [State.quarterPasses, h]

/-- What ANSWER_WINDOW_TIMEOUT does (R148, log entry 8). -/
def State.answerTimeout (s : State) : State :=
  match s.assent.state with
  | .awaitAnswer e => if s.assent.params.answerEnd ≤ e + 1 then s.answerTimesOut else s
  | _ => s

/-- What REQUEST_WINDOW_TIMEOUT does (R149, log entry 8). -/
def State.requestTimeout (s : State) : State :=
  match s.assent.state with
  | .awaitChallenge e => if s.assent.params.requestEnd ≤ e + 1 then s.requestTimesOut else s
  | _ => s

theorem State.answerTimeout_awaitAnswer (h : s.assent.state = .awaitAnswer e) : s.answerTimeout =
    if s.assent.params.answerEnd ≤ e + 1 then s.answerTimesOut else s := by
  simp only [State.answerTimeout, h]

theorem State.requestTimeout_awaitChallenge (h : s.assent.state = .awaitChallenge e) : s.requestTimeout =
    if s.assent.params.requestEnd ≤ e + 1 then s.requestTimesOut else s := by
  simp only [State.requestTimeout, h]

/-- Where the frame errors are as before, so is the whole link port. -/
theorem State.Upkeep.link_eq (h : s.Upkeep t) (herrors : t.link.errors = s.link.errors) : t.link = s.link := by
  rw [h.port, herrors]

/-- A command whose effect moves the monitor's blocks. -/
theorem State.perform_moved (hs : s.inReset = false) {effect : State → State} {a : Assent}
    (hkeeps : s.Keeps (effect s)) (hmoved : s.blocks.Moved a (effect s).blocks) :
    ∃ t, s.perform effect = .next t ∧ t.assent = a ∧ t.calendar = s.calendar ∧ t.sweep = s.sweep ∧ t.link = s.link ∧
      t.pending = s.pending ∧ (t.assent.state = .lapsed → s.alerts.faultCounted t.alerts) ∧
      (t.assent.state ≠ .lapsed → t.plant = s.plant ∧ s.alerts.sameButQueue t.alerts) := by
  obtain ⟨t, ht, hblocks, hlink, -⟩ := State.perform_out_exists hs effect
  have hb : s.blocks.Moved a t.blocks := hblocks ▸ hmoved
  have hassent : t.assent = a := hb.assent
  refine ⟨t, ht, hassent, congrArg Blocks.calendar hb.blocks, congrArg Blocks.sweep hb.blocks, ?_,
    congrArg Blocks.pending hb.blocks, fun hl => hb.lapsed (hassent ▸ hl), fun hr => hb.running (hassent ▸ hr)⟩
  rw [hlink]
  exact hkeeps.toUpkeep.link_eq (congrArg Blocks.errors hmoved.blocks)

/-- Settles O18: before its end a window counts, and at its end it times out. -/
theorem windowsCountAndTimeOut : Obligations.WindowsCountAndTimeOut := by
  intro s e hs
  refine ⟨fun hstate hbefore => ?_, fun hstate hbefore => ?_, fun c hc hstate hend => ?_, fun c hc hstate hend => ?_,
    fun hstate => ?_⟩
  · have hnot : ¬s.assent.params.answerEnd ≤ e + 1 := not_le.mpr hbefore
    refine ⟨?_, State.perform_nothing hs ((State.answerTimeout_awaitAnswer hstate).trans (if_neg hnot))⟩
    have hcounts := (State.quarter_awaitAnswer hstate).trans (if_neg hnot)
    obtain ⟨t, ht, hblocks, hlink, -⟩ := State.perform_out_exists hs State.quarterPasses
    rw [hcounts] at hblocks hlink
    exact ⟨t, ht, hlink, hblocks⟩
  · have hnot : ¬s.assent.params.requestEnd ≤ e + 1 := not_le.mpr hbefore
    refine ⟨?_, State.perform_nothing hs ((State.requestTimeout_awaitChallenge hstate).trans (if_neg hnot))⟩
    have hcounts := (State.quarter_awaitChallenge hstate).trans (if_neg hnot)
    obtain ⟨t, ht, hblocks, hlink, -⟩ := State.perform_out_exists hs State.quarterPasses
    rw [hcounts] at hblocks hlink
    exact ⟨t, ht, hlink, hblocks⟩
  · have hends : s.assent.params.answerEnd ≤ e + 1 := hend.le
    have htimes (effect : State → State) (heffect : effect s = s.answerTimesOut) :=
      State.perform_moved hs (effect := effect) (heffect ▸ s.keeps_answerTimesOut) (heffect ▸ s.answerTimesOut_moved)
    rcases hc with rfl | rfl
    · exact htimes State.quarterPasses ((State.quarter_awaitAnswer hstate).trans (if_pos hends))
    · exact htimes State.answerTimeout ((State.answerTimeout_awaitAnswer hstate).trans (if_pos hends))
  · have hends : s.assent.params.requestEnd ≤ e + 1 := hend.le
    have htimes (effect : State → State) (heffect : effect s = s.requestTimesOut) :=
      State.perform_moved hs (effect := effect) (heffect ▸ s.keeps_requestTimesOut) (heffect ▸ s.requestTimesOut_moved)
    rcases hc with rfl | rfl
    · exact htimes State.quarterPasses ((State.quarter_awaitChallenge hstate).trans (if_pos hends))
    · exact htimes State.requestTimeout ((State.requestTimeout_awaitChallenge hstate).trans (if_pos hends))
  · exact State.perform_nothing hs (State.quarter_resting hstate)

/-! ## SET PROFILE DAY (R95, R100) -/

/-- The rows with one replaced. -/
def Calendar.withRow (p : ProfileId) (d : Fin 7) (slots : SlotRow) (c : Calendar) : Calendar :=
  { c with profiles := c.profiles.set p (c.profiles[p].set d slots) }

theorem Calendar.withRow_get (p q : ProfileId) (d e : Fin 7) (slots : SlotRow) (c : Calendar) :
    (c.withRow p d slots).profiles[q][e] = if q = p ∧ e = d then slots else c.profiles[q][e] := by
  simp only [Calendar.withRow, Fin.getElem_fin, Vector.getElem_set, ← Fin.ext_iff]
  by_cases hq : p = q
  · subst hq
    by_cases he : d = e
    · simp [he]
    · simp [he, Ne.symm he, ← Fin.ext_iff]
  · simp [hq, Ne.symm hq]

theorem doSetProfileDay_range {p d : Nat} (h : ¬(1 ≤ p ∧ p ≤ 4 ∧ 1 ≤ d ∧ d ≤ 7)) (slots : SlotRow) (s : State) :
    doSetProfileDay p d slots s = s.refuse .range := by
  unfold doSetProfileDay
  by_cases hp : 1 ≤ p ∧ p ≤ 4
  · rw [index?_eq_none (size := 7) (n := d) (by omega)]
    cases index? 4 p <;> rfl
  · rw [index?_eq_none hp]

theorem doSetProfileDay_inRange (p : ProfileId) (d : Fin 7) (slots : SlotRow) (s : State) :
    doSetProfileDay (p.val + 1) (d.val + 1) slots s = ((s.setCalendar (Calendar.withRow p d slots)).evaluate).accept := by
  simp only [doSetProfileDay, index?_succ]
  rfl

/-- The values do not look at the held states. -/
theorem Calendar.values_held (c : Calendar) (held : Vector Bool 4) : ({ c with held } : Calendar).values = c.values := rfl

/-- No load belongs to the wake batch when no profile changed. -/
theorem closedBy_same (held : Vector Bool 4) (l : Load) : closedBy held held l = false := by
  unfold closedBy
  cases l.cfg.profile <;> simp

/-- An evaluation that finds the held states right raises no event and wakes no load. -/
theorem State.evaluate_unchanged (h : s.calendar.values = s.calendar.held) : s.evaluate = s := by
  have hheld : s.setCalendar (fun c => { c with held := c.values }) = s := by
    unfold State.setCalendar
    dsimp only
    rw [h]
  have htaken : s.takeProfiles = s := by
    unfold State.takeProfiles
    rw [hheld]
    have hsame (p : ProfileId) : s.raiseChange s.calendar.held p = s := if_pos rfl
    simp only [profileIds, List.foldl_cons, List.foldl_nil, hsame]
  have hbatch : s.closeBatch s.calendar.held = [] := by
    have hnone : s.plant.loads.filter (closedBy s.calendar.held s.calendar.held) = [] :=
      List.filter_eq_nil_iff.mpr fun l _ => by simp [closedBy_same]
    rw [State.closeBatch, Plant.batch, hnone]
    rfl
  rw [State.evaluate, htaken, hbatch]
  rfl

/-- What replacing a row and evaluating the profiles makes of the blocks (R95, R100). -/
theorem State.rowSet_blocks (p : ProfileId) (d : Fin 7) (slots : SlotRow) {t : State}
    (h : t.blocks = (s.setCalendar (Calendar.withRow p d slots)).evaluate.blocks) :
    t.calendar = { s.calendar.withRow p d slots with held := (s.calendar.withRow p d slots).values } ∧
      t.blocks = { s.blocks with plant := t.plant, calendar := t.calendar, alerts := t.alerts } ∧
      s.alerts.sameButQueue t.alerts ∧
      ((s.calendar.withRow p d slots).values = s.calendar.held → t.plant = s.plant ∧ t.alerts = s.alerts) := by
  have hcalendar := (congrArg Blocks.calendar h).trans (State.evaluate_calendar _)
  have hplant := congrArg Blocks.plant h
  have halerts := congrArg Blocks.alerts h
  have hqueue := (s.setCalendar (Calendar.withRow p d slots)).evaluate_alerts
  have hblocks := (s.setCalendar (Calendar.withRow p d slots)).evaluate_blocks
  rw [State.blocks_plant, State.blocks_plant] at hplant
  rw [State.blocks_alerts, State.blocks_alerts] at halerts
  refine ⟨hcalendar, ?_, ?_, fun hsame => ?_⟩
  · rw [h, hblocks, ← hplant, ← halerts, State.evaluate_calendar, ← State.blocks_calendar t, hcalendar]
    rfl
  · rw [halerts]
    exact hqueue
  · have hunchanged := State.evaluate_unchanged (s := s.setCalendar (Calendar.withRow p d slots)) hsame
    rw [hunchanged] at hplant halerts
    exact ⟨hplant, halerts⟩

/-- Settles O43: one row is replaced, and the profiles are evaluated. -/
theorem profileDayIsSet : Obligations.ProfileDayIsSet := by
  intro s tag slots hs
  refine ⟨fun p d h => ?_, fun p d => ?_⟩
  · exact s.perform_refused hs { kind := 7, tag, payload := b8 p :: b8 d :: slotBytes slots } _ .range
      (doSetProfileDay_range h slots _)
  · obtain ⟨t, ht, hanswers, hblocks⟩ := State.perform_accepted hs
      (f := { kind := 7, tag, payload := b8 (p.val + 1) :: b8 (d.val + 1) :: slotBytes slots })
      (change := fun u => (u.setCalendar (Calendar.withRow p d slots)).evaluate) (doSetProfileDay_inRange p d slots _)
    obtain ⟨hcalendar, hrest, halerts, hsame⟩ := State.rowSet_blocks p d slots hblocks
    refine ⟨t, ht, hanswers, fun q e => ?_, ?_, hrest, halerts, fun hvalues => hsame ?_⟩
    · rw [hcalendar]
      exact Calendar.withRow_get p q d e slots s.calendar
    · rw [hcalendar]
      rfl
    · rw [hcalendar, Calendar.values_held] at hvalues
      exact hvalues

/-! ## SET CLOCK (R79, R94) -/

/-- Every bound load of the one plant is a bound load of the other, with the same core. -/
theorem Plant.SameFrame.bound {p q : Plant} (h : p.SameFrame q) {n : Nat} {l : Load} (hl : p.load? n = some l) :
    ∃ m, q.load? n = some m ∧ m.core = l.core := by
  have hload := h.load? n
  rw [hl] at hload
  obtain ⟨m, hm, hcore⟩ := Option.map_eq_some_iff.mp hload
  exact ⟨m, hm, hcore⟩

theorem doSetClock_range {d : Date} {dow seconds : Nat}
    (h : ¬(d.valid = true ∧ 1 ≤ dow ∧ dow ≤ 7 ∧ seconds ≤ 86399)) (s : State) :
    doSetClock d dow seconds s = s.refuse .range := by
  refine if_neg fun hvalid => h ?_
  simp only [Bool.and_eq_true, within_iff] at hvalid
  exact ⟨hvalid.1.1, hvalid.1.2.1, hvalid.1.2.2, hvalid.2.2⟩

theorem doSetClock_inRange {d : Date} {dow seconds : Nat} (hd : d.valid = true) (h1 : 1 ≤ dow) (h7 : dow ≤ 7)
    (hs : seconds ≤ 86399) (s : State) :
    doSetClock d dow seconds s = (s.setClock { date := d, dayOfWeek := dow, seconds }).accept := by
  refine if_pos ?_
  simp only [Bool.and_eq_true, within_iff]
  exact ⟨⟨hd, h1, h7⟩, Nat.zero_le _, hs⟩

/-- The state with the clock set and the stop times adjusted, before the evaluation (R79, R94). -/
def State.clockPut (k : Clock) (s : State) : State := (s.setCalendar (fun c => { c with clock := some k })).adjustStopTimes

theorem State.setClock_eq (k : Clock) (s : State) :
    s.setClock k = (s.clockPut k).evaluate.lookOff (s.plant.waitingOff s.calendar.clock) := rfl

theorem State.clockPut_eq (k : Clock) (s : State) : s.clockPut k =
    (s.setCalendar (fun c => { c with clock := some k })).onPlant (fun p => { p with loads := p.loads.map (Load.stopBy k.stamp) }) :=
  rfl

theorem State.evaluate_sameFrame (s : State) : s.plant.SameFrame s.evaluate.plant := by
  have hplant : s.takeProfiles.plant = s.plant := by
    have := congrArg Blocks.plant s.takeProfiles_onlyNotices.blocks
    exact this
  rw [State.evaluate, State.wakeAll_plant, hplant]
  exact Plant.sameFrame_wakeAll _ _ s.plant

theorem State.lookOff_sameFrame (waiting : List Nat) (s : State) : s.plant.SameFrame (s.lookOff waiting).plant := by
  rw [State.lookOff, State.onPlantNow_plant]
  exact Plant.sameFrame_attemptFor s.calendar.clock _ s.plant

/-- The plant that SET CLOCK leaves: the stop times adjusted, and then wakes and grants. -/
theorem State.setClock_load? {k : Clock} {n : Nat} {l : Load} (hl : s.load? n = some l) :
    ∃ m, (s.setClock k).load? n = some m ∧ m.core = (l.stopBy k.stamp).core := by
  have hframe := (s.clockPut k).evaluate_sameFrame.trans
    ((s.clockPut k).evaluate.lookOff_sameFrame (s.plant.waitingOff s.calendar.clock))
  refine hframe.bound ?_
  rw [State.clockPut_eq, State.onPlant_plant, Plant.load?_map (p := s.plant) (f := Load.stopBy k.stamp) (fun _ => rfl) rfl]
  exact Option.map_eq_some_iff.mpr ⟨l, hl, rfl⟩

theorem State.setClock_calendar (k : Clock) (s : State) : (s.setClock k).calendar =
    { s.calendar with clock := some k, held := ({ s.calendar with clock := some k } : Calendar).values } := by
  rw [State.setClock_eq, (State.works_lookOff _ _).beyond.1, State.evaluate_calendar]
  rfl

theorem State.setClock_blocks (k : Clock) (s : State) : (s.setClock k).blocks =
    { s.blocks with plant := (s.setClock k).plant, calendar := (s.setClock k).calendar, alerts := (s.setClock k).alerts } := by
  have hlook : (s.setClock k).blocks = { (s.clockPut k).evaluate.blocks with plant := (s.setClock k).plant } := rfl
  rw [hlook, State.evaluate_blocks]
  rfl

theorem State.setClock_alerts (k : Clock) (s : State) : s.alerts.sameButQueue (s.setClock k).alerts :=
  (s.clockPut k).evaluate_alerts

/-- Settles O48: the clock is set, later stop times are moved to it, and the profiles are evaluated. -/
theorem clockIsSet : Obligations.ClockIsSet := by
  intro s tag d dow seconds hs
  refine ⟨fun h => ?_, fun hd h1 h7 hsec => ?_⟩
  · exact s.perform_refused hs { kind := 13, tag, payload := d.bytes ++ b8 dow :: b24 seconds } _ .range
      (doSetClock_range h _)
  · obtain ⟨t, ht, hanswers, hblocks⟩ := State.perform_accepted hs
      (f := { kind := 13, tag, payload := d.bytes ++ b8 dow :: b24 seconds })
      (change := State.setClock { date := d, dayOfWeek := dow, seconds }) (doSetClock_inRange hd h1 h7 hsec _)
    have hcalendar := (congrArg Blocks.calendar hblocks).trans (State.setClock_calendar _ _)
    have hplant := congrArg Blocks.plant hblocks
    have halerts := congrArg Blocks.alerts hblocks
    rw [State.blocks_plant, State.blocks_plant] at hplant
    rw [State.blocks_calendar] at hcalendar
    rw [State.blocks_alerts, State.blocks_alerts] at halerts
    refine ⟨t, ht, hanswers, ?_, fun n l hl => ?_, ?_, ?_⟩
    · rw [hcalendar]
      rfl
    · obtain ⟨m, hm, hcore⟩ := State.setClock_load? (k := { date := d, dayOfWeek := dow, seconds })
        (s := s.holding { kind := 13, tag, payload := d.bytes ++ b8 dow :: b24 seconds }) hl
      refine ⟨m, (congrArg (Plant.load? · n) hplant).trans hm, ?_⟩
      have hcfg := congrArg Load.cfg hcore
      have htime := congrArg Load.sampleTime hcore
      have hage := congrArg Load.sampleAge hcore
      have hstop := congrArg Load.stopTime hcore
      exact ⟨hcfg, htime, hage, hstop⟩
    · rw [hblocks, State.setClock_blocks, ← hplant, ← halerts, State.setClock_calendar, hcalendar]
      rfl
    · rw [halerts]
      exact State.setClock_alerts _ (s.holding _)

end

end Sys2Proof.Machine
end

section
/-!
PROOFS. Orders without a premise on the plant (R6, R112), the timers of a load in PARKING (R55 to R59) and the gate check
(R46 to R54).
-/

namespace Sys2Proof.Machine

section

variable {p : Plant} {s : State} {n m : Nat} {l : Load} {i j : StationId}

/-! ## Orders (R6, R112) -/

/-- A station but for slot and last-served channel. -/
theorem Station.eq_of_core {a b : Station} (h : a.core = b.core) :
    a = { b with slot := a.slot, lastServed := a.lastServed } := by
  cases a
  cases b
  simp only [Station.core, Station.mk.injEq] at h ⊢
  tauto

theorem Plant.refillSlot_station_other (h : j ≠ i) (p : Plant) : (p.refillSlot i).station j = p.station j := by
  unfold Plant.refillSlot
  split
  · rfl
  · split
    · rfl
    · rw [Plant.station_setStation_other p h]

/-- Withdrawing takes the due order from the one load and leaves every other. -/
theorem Plant.withdraw_load? (n m : Nat) (p : Plant) :
    (p.withdraw n).load? m = if m = n then (p.load? m).map Load.undue else p.load? m := by
  have hset : (p.setLoad n (fun l => { l with due := none })).load? m =
      if m = n then (p.load? m).map Load.undue else p.load? m := by
    split
    · next h =>
      subst h
      exact Plant.load?_setLoad_self p m Load.undue fun _ h => h
    · next h => exact Plant.load?_setLoad_other p h Load.undue fun _ h => h
  unfold Plant.withdraw
  split
  · next hnone =>
    split
    · next h =>
      subst h
      rw [hnone]
      rfl
    · rfl
  · next l hl =>
    split
    · next hdue =>
      split
      · next h =>
        subst h
        rw [hl, Option.map_some, Load.undue, ← Option.isNone_iff_eq_none.mp hdue]
      · rfl
    · dsimp only
      split
      · exact hset
      · split
        · rw [Plant.load?_of_loads (Plant.refillSlot_loads _ _), Plant.load?_of_loads (Plant.setStation_loads _ _ _)]
          exact hset
        · exact hset

/-- Withdrawing touches the slot of the load's own station alone. -/
theorem Plant.withdraw_station_other (hl : p.load? n = some l) (h : j ≠ l.cfg.station) :
    (p.withdraw n).station j = p.station j := by
  simp only [Plant.withdraw, hl]
  split
  · rfl
  · split
    · rfl
    · split
      · rw [Plant.refillSlot_station_other h, Plant.station_setStation_other _ h]
        rfl
      · rfl

/-- The station of a load that is not locked out, whose slot is empty, takes its order at once (R112). -/
theorem Plant.makeDue_station (hl : p.load? n = some l) (k : OrderKind) (j : StationId) :
    (p.makeDue n k).station j =
      if j = l.cfg.station ∧ l.hold.byLockout = false ∧ (p.station l.cfg.station).slot = none then
        { p.station j with slot := some { channel := l.cfg.channel, kind := k }, lastServed := l.cfg.channel }
      else p.station j := by
  simp only [Plant.makeDue, hl]
  cases hlock : l.hold.byLockout with
  | true => simp
  | false =>
    simp only [Bool.false_eq_true, if_false, Option.isNone_iff_eq_none, true_and]
    by_cases hslot : (p.station l.cfg.station).slot = none
    · by_cases hj : j = l.cfg.station
      · subst hj
        rw [if_pos hslot, Plant.station_setStation_self, if_pos ⟨rfl, hslot⟩]
        rfl
      · rw [if_pos hslot, Plant.station_setStation_other _ hj, if_neg fun h => hj h.1]
        rfl
    · rw [if_neg hslot, if_neg fun h => hslot h.2]
      rfl

/-! ## A change of one load with its order withdrawn -/

theorem Plant.finish_load? {f : Load → Load} (hl : p.load? n = some l) (hf : ∀ x, (f x).num = x.num := by intro; rfl) :
    (p.finish n f).load? n = some (f l).undue := by
  rw [Plant.finish, Plant.withdraw_load?, if_pos rfl, Plant.load?_set hl hf]
  rfl

theorem Plant.finish_sameButLoad (n : Nat) (f : Load → Load) (p : Plant) (hf : ∀ x, (f x).num = x.num := by intro; rfl) :
    p.sameButLoad n (p.finish n f) := by
  refine ⟨fun m hm => ?_, (Plant.sameFrame_withdraw n _).groups, (Plant.sameFrame_withdraw n _).curves⟩
  rw [Plant.finish, Plant.withdraw_load?, if_neg hm, Plant.load?_set_other hm hf]

/-- The slot of the load's own station alone can change. -/
theorem Plant.finish_stations {f : Load → Load} (hl : p.load? n = some l) (hnum : ∀ x, (f x).num = x.num := by intro; rfl)
    (hcfg : (f l).cfg = l.cfg := by rfl) :
    (∀ j, j ≠ l.cfg.station → (p.finish n f).station j = p.station j) ∧
      (p.finish n f).station l.cfg.station = { p.station l.cfg.station with
        slot := ((p.finish n f).station l.cfg.station).slot
        lastServed := ((p.finish n f).station l.cfg.station).lastServed } := by
  have hset := Plant.load?_set hl hnum
  exact ⟨fun j hj => Plant.withdraw_station_other hset (hcfg ▸ hj),
    Station.eq_of_core ((Plant.sameFrame_withdraw n (p.setLoad n f)).stations l.cfg.station)⟩

/-! ## The timers of a load in PARKING (R55, R57, R59) -/

/-- A load as its entry into FAULTED leaves it before the order is withdrawn (R22). -/
def Load.failing (l : Load) : Load := { l with state := .faulted, timer := none, manual := false, wakeDue := false }

theorem State.enterFaulted_parking (hl : s.load? n = some l) (h : l.isWaking = false) :
    s.enterFaulted n = ((s.onPlant (Plant.finish n Load.failing)).raiseLoad n .faulted).countFault := by
  simp only [State.enterFaulted, hl, h, Bool.false_eq_true, if_false]
  rfl

theorem State.enterFaulted_alerts (hl : s.load? n = some l) (h : l.isWaking = false) :
    s.alerts.faultCounted (s.enterFaulted n).alerts := by
  have hraised := (s.onPlant (Plant.finish n Load.failing)).raiseLoad_alerts n .faulted
  rw [State.enterFaulted_parking hl h, State.countFault_alerts, hraised]
  exact Alerts.faultCounted_countFault _

theorem State.ifLoad_true {test : Load → Bool} {f : State → State} (hl : s.load? n = some l) (h : test l = true) :
    s.ifLoad n test f = f s := by
  simp only [State.ifLoad, hl, h, if_true]

theorem Load.timesStep_iff {test : ParkStep → Bool} {step : ParkStep} (h : l.state = .parking step) :
    l.timesStep test = true ↔ test step = true ∧ l.timer ≠ none := by
  simp [Load.timesStep, h, Option.isSome_iff_ne_none]

/-- STEP_TIMER_EXPIRY in a step timed by the step limit, and COAST_LIMIT_EXPIRY in COASTING, fault the load. -/
theorem exec_parkTimer {step : ParkStep} {c : Instr} (hl : s.load? n = some l) (hstate : l.state = .parking step)
    (htimer : l.timer ≠ none)
    (hc : (c = .stepTimerExpiry n ∧ step ≠ .coasting ∧ step ≠ .unloading .dwell) ∨ (c = .coastLimitExpiry n ∧ step = .coasting)) :
    ∃ f : State → State, exec c s = s.perform f ∧ f s = s.enterFaulted n := by
  rcases hc with ⟨rfl, hcoast, hdwell⟩ | ⟨rfl, rfl⟩
  · refine ⟨_, rfl, State.ifLoad_true hl ((Load.timesStep_iff hstate).mpr ⟨?_, htimer⟩)⟩
    match step, hcoast, hdwell with
    | .unloading .order, _, _ => rfl
    | .unloading .orderTaken, _, _ => rfl
    | .declutching, _, _ => rfl
    | .stopping, _, _ => rfl
  · exact ⟨_, rfl, State.ifLoad_true hl ((Load.timesStep_iff hstate).mpr ⟨rfl, htimer⟩)⟩

/-- A load in which a park step has just begun, before its order is made due. -/
def Load.begins (step : ParkStep) (l : Load) : Load :=
  { l with state := .parking step, timer := some (Timer.start (l.cfg.limitOf step)) }

theorem State.beginStep_order {step : ParkStep} {k : OrderKind} (h : step.order? = some k) (n : Nat) (s : State) :
    s.beginStep n step = s.onPlant (fun p => (p.setLoad n (Load.begins step)).makeDue n k) := by
  simp only [State.beginStep, h]
  rfl

/-- What a step that issues an order leaves (R55 to R61). -/
theorem Plant.begins_load? {step : ParkStep} (hl : p.load? n = some l) (k : OrderKind) :
    ((p.setLoad n (Load.begins step)).makeDue n k).load? n =
      some { l.begins step with due := if l.hold.byLockout then l.due else some k } := by
  have hset : (p.setLoad n (Load.begins step)).load? n = some (l.begins step) := Plant.load?_set hl
  rw [Plant.load?_makeDue_self k _ hset]
  cases hlock : l.hold.byLockout <;> simp [Load.begins, hlock]

theorem Plant.begins_sameButLoad (step : ParkStep) (k : OrderKind) (n : Nat) (p : Plant) :
    p.sameButLoad n ((p.setLoad n (Load.begins step)).makeDue n k) := by
  have hframe := Plant.sameFrame_makeDue n k (p.setLoad n (Load.begins step))
  refine ⟨fun m hm => ?_, hframe.groups, hframe.curves⟩
  rw [Plant.load?_makeDue_other hm, Plant.load?_set_other hm]

/-- Settles O20: two expiries fault the load, and the third begins STOPPING. -/
theorem parkTimersExpire : Obligations.ParkTimersExpire := by
  intro s n l step c hs hl hstate htimer
  have hwaking : l.isWaking = false := by simp [Load.isWaking, hstate]
  refine ⟨fun hc => ?_, fun hstep => ?_⟩
  · obtain ⟨f, hexec, hf⟩ := exec_parkTimer hl hstate htimer hc
    have hplant : (s.enterFaulted n).settlePins.plant = s.plant.finish n Load.failing := by
      rw [State.settlePins_plant, State.enterFaulted_parking hl hwaking, State.countFault_plant, State.raiseLoad_plant,
        State.onPlant_plant]
    obtain ⟨hothers, hown⟩ := Plant.finish_stations (f := Load.failing) hl
    refine ⟨(s.enterFaulted n).settlePins, by rw [hexec, State.perform_out hs, hf], ?_, State.enterFaulted_alerts hl hwaking,
      ?_, ?_, (s.works_enterFaulted n).beyond, fun j hj => ?_, ?_⟩
    · rw [State.load?, hplant, Plant.finish_load? hl]
      rfl
    · rw [hplant]
      exact Plant.finish_sameButLoad n Load.failing s.plant
    · rw [hplant, Plant.finish_feeders]
    · rw [State.station, hplant]
      exact hothers j hj
    · rw [State.station, hplant]
      exact hown
  · subst hstep
    have hbegin : s.ifLoad n (Load.timesStep (· == .unloading .dwell)) (State.beginStep n .stopping) = s.beginStep n .stopping :=
      State.ifLoad_true hl ((Load.timesStep_iff hstate).mpr ⟨rfl, htimer⟩)
    have hplant : (s.beginStep n .stopping).settlePins.plant = (s.plant.setLoad n (Load.begins .stopping)).makeDue n .motorOff := by
      rw [State.settlePins_plant, State.beginStep_order rfl, State.onPlant_plant]
    have hset : (s.plant.setLoad n (Load.begins .stopping)).load? n = some (l.begins .stopping) := Plant.load?_set hl
    refine ⟨(s.beginStep n .stopping).settlePins, (State.perform_out hs _).trans (by rw [hbegin]), ?_, ?_, ?_, ?_,
      (s.works_beginStep n .stopping).beyond, fun j hj => ?_, ?_⟩
    · rw [State.load?, hplant, Plant.begins_load? hl]
      rfl
    · rw [State.beginStep_order rfl]
      rfl
    · rw [hplant]
      exact Plant.begins_sameButLoad _ _ n s.plant
    · rw [hplant, Plant.makeDue_feeders]
      rfl
    · rw [State.station, hplant, Plant.makeDue_station hset, if_neg fun h => hj h.1]
      rfl
    · rw [State.station, hplant, Plant.makeDue_station hset]
      simp only [Load.begins, true_and]
      rfl

/-! ## The gate check (R46 to R54) -/

/-- The first step of every kind issues an order. -/
theorem LoadKind.firstStep_order (k : LoadKind) : k.firstStep.order? = some (match k with
    | .press => .declutch
    | .compressor => .unload
    | .fan => .motorOff
    | .auxiliary => .motorOff) := by cases k <;> rfl

theorem LoadKind.firstStep_eq (k : LoadKind) : k.firstStep = (match k with
    | .press => .declutching
    | .compressor => .unloading .order
    | .fan => .stopping
    | .auxiliary => .stopping) := by cases k <;> rfl

theorem LoadConfig.limitOf_firstStep (c : LoadConfig) (k : LoadKind) : c.limitOf k.firstStep = c.stepLimit := by
  cases k <;> rfl

theorem Load.isAssessed_eq (l : Load) :
    l.isAssessed = (l.state == .active || l.state == .idling || l.state == .parkPending) := by
  unfold Load.isAssessed
  cases l.state <;> rfl

theorem Calendar.gate_iff (c : Calendar) (l : Load) :
    c.gate l = true ↔ l.manual = true ∨ ∃ p, l.cfg.profile = some p ∧ c.held[p] = true := by
  unfold Calendar.gate
  cases l.cfg.profile <;> simp

/-- Gate 5 as the manual has it, for a load of this number (R49 to R51). -/
abbrev Plant.kindOpen (p : Plant) (n : Nat) (l : Load) : Prop :=
  (l.cfg.kind = .press → l.latest.safeStop = true) ∧
  (l.cfg.kind = .compressor → ∀ g, l.cfg.airGroup = some g →
    p.groups[g] ≤ (p.loads.filter (fun x => x.num != n && x.cfg.kind == .compressor && x.cfg.airGroup == some g &&
      (x.state == .active || x.state == .idling || x.state == .parkPending))).length) ∧
  (l.cfg.kind = .fan → l.cfg.zone ≠ 0 → ∀ x ∈ p.loads, x.num ≠ n → x.cfg.kind ≠ .fan →
    x.cfg.zone = l.cfg.zone → x.state = .parked ∨ x.state = .stopped)

theorem Plant.kindGate_iff (p : Plant) (l : Load) : p.kindGate l = true ↔ p.kindOpen l.num l := by
  unfold Plant.kindGate Plant.kindOpen
  cases hkind : l.cfg.kind with
  | press => simp
  | auxiliary => simp
  | compressor =>
    cases hgroup : l.cfg.airGroup with
    | none => simp
    | some g => simp [Plant.groupCount, Load.isAssessed_eq]
  | fan =>
    simp only [Bool.or_eq_true, beq_iff_eq, Plant.zoneAtRest, List.all_eq_true, bne_iff_ne]
    simp only [reduceCtorEq, false_implies, true_and, true_implies]
    constructor
    · rintro (hzero | hrest) hzone x hx hnum hfan hsame
      · exact absurd hzero hzone
      · have := hrest x hx
        tauto
    · intro h
      by_cases hzone : l.cfg.zone = 0
      · exact .inl hzone
      · refine .inr fun x hx => ?_
        have := h hzone x hx
        tauto

/-- Settles O29: the gates are judged, and the first step of the kind begins where all are open. -/
theorem gateCheckEntersParking : Obligations.GateCheckEntersParking := by
  intro s n l hl hstate
  have hnum : l.num = n := Plant.load?_num hl
  have hgates := s.plant.kindGate_iff l
  rw [hnum] at hgates
  have hopen : s.gatesHold l = true ↔ (l.hold.byCall = false ∧ l.hold.byHost = false ∧ l.hold.byLockout = false ∧ s.assent.permit = true ∧
      (l.manual = true ∨ ∃ p, l.cfg.profile = some p ∧ s.calendar.held[p] = true) ∧
      (s.station l.cfg.station).link = .live ∧ s.plant.kindOpen n l) := by
    simp only [State.gatesHold, Bool.and_eq_true, Bool.not_eq_true', Bool.or_eq_false_iff, beq_iff_eq, Calendar.gate_iff,
      hgates, and_assoc]
    rfl
  refine ⟨fun hshut => ?_, fun hall => ?_⟩
  · have hnot : ¬(l.state = .parkPending ∧ s.gatesHold l = true) := fun h => hshut (hopen.mp h.2)
    simp only [State.gateCheck, hl]
    exact if_neg hnot
  · have hcheck : s.gateCheck n = s.beginStep n l.cfg.kind.firstStep := by
      simp only [State.gateCheck, hl]
      exact if_pos ⟨hstate, hopen.mpr hall⟩
    have hlock : l.hold.byLockout = false := hall.2.2.1
    have hbegin := State.beginStep_order l.cfg.kind.firstStep_order n s
    have hplant := congrArg State.plant (hcheck.trans hbegin)
    rw [State.onPlant_plant] at hplant
    refine ⟨?_, ?_, ?_, ?_, ?_⟩
    · rw [State.load?, hplant, Plant.begins_load? hl, hlock, Load.begins, LoadConfig.limitOf_firstStep,
        LoadKind.firstStep_eq]
      rfl
    · rw [hplant]
      exact Plant.begins_sameButLoad _ _ n s.plant
    · rw [hplant, Plant.makeDue_feeders]
      rfl
    · rw [hcheck, hbegin]
      rfl
    · exact (s.works_gateCheck n).beyond

end

end Sys2Proof.Machine
end

section
/-!
PROOFS. The readings of records (R42, R68, R90, R120, R173, R177): what each returns, byte by byte.
-/

namespace Sys2Proof.Machine

section

variable {p : Plant} {s : State} {n : Nat} {l : Load}

/-! ## Items (R177) -/

theorem bBool_eq (b : Bool) : bBool b = b8 b.toNat := by cases b <;> rfl

theorem Load.sampleAge_item (l : Load) : optItem (l.sampleAge.map (fun a => [b8 a])) = (match l.sampleAge with
    | none => [0]
    | some age => [1, b8 age]) := by
  cases l.sampleAge <;> rfl

theorem remainingBytes_map (fraction : Bool) (x : Option Timer) : remainingBytes (x.map (Timer.remaining fraction)) =
    (match x with
      | none => [0xFF, 0xFF]
      | some t => b16 (t.limit - t.elapsed - fraction.toNat)) := by cases x <;> rfl

/-! ## READ LOAD (R42, R68, R90) -/

theorem Load.parkStep_item (l : Load) : optItem (l.parkStep?.map (fun x => [b8 x.code])) = (match l.state with
    | .parking step => [1, b8 step.code]
    | _ => [0]) := by
  unfold Load.parkStep?
  cases l.state <;> rfl

theorem Load.wakeStep_item (l : Load) : optItem (l.wakeStep?.map (fun x => [b8 x.code])) = (match l.state with
    | .waking step => [1, b8 step.code]
    | _ => [0]) := by
  unfold Load.wakeStep?
  cases l.state <;> rfl

theorem Load.unloadPhase_item (l : Load) : optItem (l.unloadPhase?.map (fun x => [b8 x.code])) = (match l.state with
    | .parking (.unloading phase) => [1, if phase = .dwell then 1 else 0]
    | _ => [0]) := by
  unfold Load.unloadPhase?
  cases l.state with
  | parking step =>
    cases step with
    | unloading phase => cases phase <;> rfl
    | _ => rfl
  | _ => rfl

theorem HoldSet.code_eq (h : HoldSet) : h.code = h.byCall.toNat + 2 * h.byHost.toNat + 4 * h.byLockout.toNat := by
  simp [HoldSet.code, bitValue_eq]

theorem LatestFlags.code_eq (f : LatestFlags) :
    f.code = f.safeStop.toNat + 2 * f.speedLow.toNat + 4 * f.unloaded.toNat := by
  simp [LatestFlags.code, bitValue_eq]

/-- A due order sits in the slot exactly while the slot names its channel (R6, R112). -/
theorem Plant.duePosition_eq (p : Plant) (l : Load) : p.duePosition l =
    if (p.station l.cfg.station).slot.map Order.channel = some l.cfg.channel then 0 else 1 := by
  unfold Plant.duePosition
  cases (p.station l.cfg.station).slot with
  | none => rfl
  | some o => simp

theorem Plant.due_item (p : Plant) (l : Load) : optItem (l.due.map (fun k => [b8 k.code, b8 (p.duePosition l)])) =
    (match l.due with
      | none => [0]
      | some k => [1, b8 k.code,
          if (p.station l.cfg.station).slot.map Order.channel = some l.cfg.channel then 0 else 1]) := by
  rw [Plant.duePosition_eq]
  cases l.due with
  | none => rfl
  | some k => split <;> rfl

/-- The place of a load in its feeder's queue (R90). -/
def Plant.placeBytes (p : Plant) (l : Load) : List Byte :=
  match findEntry l.num 1 (p.feeder l.cfg.feeder).queue with
  | none => [0xFF, 0]
  | some (position, passed) => [b8 position, 1, b8 passed]

theorem Plant.runtimeBytes_eq (p : Plant) (fraction : Bool) (l : Load) : p.runtimeBytes fraction l =
    [b8 l.state.code] ++
      (match l.state with
        | .parking step => [1, b8 step.code]
        | _ => [0]) ++
      (match l.state with
        | .waking step => [1, b8 step.code]
        | _ => [0]) ++
      [b8 (l.hold.byCall.toNat + 2 * l.hold.byHost.toNat + 4 * l.hold.byLockout.toNat)] ++ b16 l.a16 ++
      b16 ((l.a16 + 8) / 16) ++ [b8 l.idle.toNat] ++ b16 l.dwell ++ stampBytes l.sampleTime ++
      [b8 l.manual.toNat, b8 l.wakeDue.toNat, b8 l.parkOwned.toNat] ++
      (match l.due with
        | none => [0]
        | some k => [1, b8 k.code,
            if (p.station l.cfg.station).slot.map Order.channel = some l.cfg.channel then 0 else 1]) ++
      (match l.timer with
        | none => [0xFF, 0xFF]
        | some x => b16 (x.limit - x.elapsed - fraction.toNat)) ++
      stampBytes l.stopTime ++ [b8 l.awaitingFan.toNat] ++
      [b8 (l.latest.safeStop.toNat + 2 * l.latest.speedLow.toNat + 4 * l.latest.unloaded.toNat)] ++
      (match l.sampleAge with
        | none => [0]
        | some age => [1, b8 age]) ++
      (match l.state with
        | .parking (.unloading phase) => [1, if phase = .dwell then 1 else 0]
        | _ => [0]) ++ p.placeBytes l := by
  rw [Plant.runtimeBytes, Load.parkStep_item, Load.wakeStep_item, Load.unloadPhase_item, Plant.due_item, remainingBytes_map,
    Load.sampleAge_item, HoldSet.code_eq, LatestFlags.code_eq]
  have hreported : l.reported = (l.a16 + 8) / 16 := rfl
  rw [hreported, Plant.placeBytes]
  simp only [bBool_eq] <;> congr 1

theorem findEntry_found {n passed : Nat} (earlier later : List QueueEntry) (h : ∀ e ∈ earlier, e.load ≠ n) (k : Nat) :
    findEntry n k (earlier ++ ⟨n, passed⟩ :: later) = some (k + earlier.length, passed) := by
  induction earlier generalizing k with
  | nil => simp [findEntry]
  | cons e earlier ih =>
    rw [List.cons_append, findEntry, if_neg (h e List.mem_cons_self), ih fun x hx => h x (List.mem_cons_of_mem e hx)]
    rw [List.length_cons, Nat.add_assoc, Nat.add_comm 1]

theorem findEntry_missing {n : Nat} {queue : List QueueEntry} (h : ∀ e ∈ queue, e.load ≠ n) (k : Nat) :
    findEntry n k queue = none := by
  induction queue generalizing k with
  | nil => rfl
  | cons e queue ih =>
    rw [findEntry, if_neg (h e List.mem_cons_self), ih fun x hx => h x (List.mem_cons_of_mem e hx)]

theorem BindFields.bytes_length (f : BindFields) : f.bytes.length = 34 := rfl

theorem doReadLoad_bound (h1 : 1 ≤ n) (h96 : n ≤ 96) (hl : s.load? n = some l) : doReadLoad n s =
    s.report (l.cfg.fields.bytes ++ s.plant.runtimeBytes (Config.timerFraction s.draws n) l) := by
  rw [doReadLoad, State.forLoad_bound h1 h96 hl]

/-! ## READ STATION (R120) -/

/-- The stored values of the fitted channels, 0 where a channel has none (R115, R178). -/
theorem channelResult_b16 (hours : List Nat) (c : Channel) : channelResult b16 2 hours c = b16 (hours.getD c.val 0) := by
  unfold channelResult
  rw [List.getD_eq_getElem?_getD]
  cases hours[c.val]? <;> rfl

theorem channelResult_signed (degrees : List Int) (c : Channel) :
    channelResult (fun t => [bSigned t]) 1 degrees c = [BitVec.ofInt 8 (degrees.getD c.val 0)] := by
  unfold channelResult
  rw [List.getD_eq_getElem?_getD]
  cases degrees[c.val]? <;> rfl

theorem Station.resultBytes_eq (st : Station) (fitted : List Channel) (hfitted : fittedChannels st.fitted = fitted) :
    st.resultBytes =
      (match st.runHours with
        | none => [0]
        | some hours => 1 :: fitted.flatMap (fun c => b16 (hours.getD c.val 0))) ++
      (match st.temperatures with
        | none => [0]
        | some degrees => 1 :: fitted.map (fun c => BitVec.ofInt 8 (degrees.getD c.val 0))) ++
      (match st.faultList with
        | none => [0]
        | some codes => 1 :: b8 codes.length :: codes.map b8) ++
      (match st.ident with
        | none => [0]
        | some (type, level) => [1, b8 type, b8 level]) := by
  have hhours (hours : List Nat) : channelResult b16 2 hours = fun c => b16 (hours.getD c.val 0) :=
    funext (channelResult_b16 hours)
  have hdegrees (degrees : List Int) : fitted.flatMap (channelResult (fun t => [bSigned t]) 1 degrees) =
      fitted.map (fun c => BitVec.ofInt 8 (degrees.getD c.val 0)) := by
    rw [funext (channelResult_signed degrees), ← List.map_eq_flatMap]
  simp only [Station.resultBytes, hfitted, hhours, hdegrees]
  refine congrArg₂ (· ++ ·) (congrArg₂ (· ++ ·) (congrArg₂ (· ++ ·) ?_ ?_) ?_) ?_
  · cases st.runHours <;> rfl
  · cases st.temperatures <;> rfl
  · cases st.faultList <;> rfl
  · cases st.ident <;> rfl

theorem Plant.channelBytes_eq (p : Plant) (i : StationId) (c : Channel) : p.channelBytes i c =
    (match p.loadAt? i c with
      | none => [0, 0]
      | some l =>
        match l.due with
        | none => [b8 l.num, 0]
        | some k =>
          if (p.station i).slot.map Order.channel = some c then [b8 l.num, 0] else [b8 l.num, 1, b8 k.code, 1]) := by
  unfold Plant.channelBytes
  cases hl : p.loadAt? i c with
  | none => rfl
  | some l =>
    obtain ⟨-, hstation, hchannel⟩ := Plant.loadAt?_some hl
    simp only [Plant.duePosition_eq, hstation, hchannel]
    by_cases hslot : (p.station i).slot.map Order.channel = some c
    · rw [if_pos hslot]
      cases l.due with
      | none => rfl
      | some k => simp [hslot]
    · rw [if_neg hslot]
      cases l.due with
      | none => rfl
      | some k => simp [hslot, optItem]

theorem Station.slot_item (st : Station) : optItem (st.slot.map (fun o => [b8 o.channel.val, b8 o.kind.code])) =
    (match st.slot with
      | none => [0]
      | some o => [1, b8 o.channel.val, b8 o.kind.code]) := by
  cases st.slot <;> rfl

theorem Station.optionsCode_eq (st : Station) : st.optionsCode = st.once.toNat + 2 * st.round.toNat := by
  simp [Station.optionsCode, bitValue_eq]

/-! ## READ FEEDER (R90) -/

theorem Plant.entryItem_eq (clock : Option Clock) (p : Plant) (e : QueueEntry) : p.entryItem clock e =
    [b8 e.load, 0, b8 e.passed, b8 (((p.load? e.load).any Load.awaitingFan).toNat + 2 * (p.eligible clock e).toNat), 0, 0] := by
  simp only [Plant.entryItem, bitValue_eq, Nat.pow_zero, Nat.one_mul, Nat.pow_one]

theorem Load.wakingItem_eq (fraction : Bool) (h : l.isWaking = true) : l.wakingItem fraction =
    [b8 l.num, 1, b8 l.cfg.demand, b8 (if l.state = .waking .ordered then 1 else 2)] ++
      (match l.timer with
        | none => [0xFF, 0xFF]
        | some x => b16 (x.limit - x.elapsed - fraction.toNat)) := by
  obtain ⟨w, hw⟩ := Load.isWaking_iff.mp h
  rw [Load.wakingItem, remainingBytes_map]
  cases w with
  | ordered =>
    simp only [Load.wakeStep?, hw]
    rfl
  | settling =>
    simp only [Load.wakeStep?, hw]
    rfl

theorem State.feederItems_length (i : FeederId) (s : State) : (s.feederItems i).length =
    (s.plant.feeder i).queue.length + (s.plant.loads.filter (fun l => l.cfg.feeder == i && l.isWaking)).length := by
  rw [State.feederItems, List.length_append, List.length_map, List.length_map]

theorem doReadFeeder_range {f k : Nat} (h : f = 0 ∨ 4 < f ∨ 5 < k) (s : State) : doReadFeeder f k s = s.refuse .range := by
  unfold doReadFeeder
  by_cases hf : 1 ≤ f ∧ f ≤ 4
  · have hk : ¬within 0 5 k = true := by
      rw [within_iff]
      omega
    simp only [if_pos hk]
    split <;> rfl
  · rw [index?_eq_none hf]

theorem doReadFeeder_missing (i : FeederId) {k : Nat} (h5 : k ≤ 5) (h0 : k ≠ 0) (h : (s.feederItems i).length ≤ 16 * k) :
    doReadFeeder (i.val + 1) k s = s.refuse .range := by
  have hk : ¬¬within 0 5 k = true := not_not.mpr (within_iff.mpr ⟨Nat.zero_le _, h5⟩)
  simp only [doReadFeeder, index?_succ, if_neg hk, pageOf_missing h0 h]

theorem doReadFeeder_page (i : FeederId) {k : Nat} (h5 : k ≤ 5) (h : k = 0 ∨ 16 * k < (s.feederItems i).length) :
    doReadFeeder (i.val + 1) k s = s.report (
      [pageByte k (decide (16 * k + 16 < (s.feederItems i).length)), b8 (s.plant.feeder i).capacity,
        b8 (s.plant.feeder i).free, b8 (s.plant.feeder i).spacing] ++
      remainingBytes ((s.plant.feeder i).spacingTimer.map (Timer.remaining (Config.timerFraction s.draws (100 + i.val)))) ++
      (((s.feederItems i).drop (16 * k)).take 16).flatten) := by
  have hk : ¬¬within 0 5 k = true := not_not.mpr (within_iff.mpr ⟨Nat.zero_le _, h5⟩)
  simp only [doReadFeeder, index?_succ, if_neg hk, pageOf_exists h]

/-- The record that READ STATION returns (R120). -/
theorem doReadStation_eq (i : StationId) (s : State) : doReadStation (i.val + 1) s = s.report (
    [b8 (s.station i).enabled.toNat, b8 (s.station i).fitted, b8 (s.station i).link.code, b8 (s.station i).misses] ++
    optItem ((s.station i).slot.map (fun o => [b8 o.channel.val, b8 o.kind.code])) ++
    [b8 (s.station i).lastServed.val, b8 (s.station i).inquiry.code,
      b8 ((s.station i).once.toNat + 2 * (s.station i).round.toNat)] ++ (s.station i).resultBytes ++
    [b8 (s.station i).restartNoted.toNat] ++
    (fittedChannels (s.station i).fitted).map (fun c => b8 (s.station i).lastCall[c].toNat) ++
    (fittedChannels (s.station i).fitted).map (fun c => b8 (s.station i).lastLockout[c].toNat) ++
    (fittedChannels (s.station i).fitted).flatMap (s.plant.channelBytes i)) := by
  rw [doReadStation, index?_succ]
  simp only [bBool_eq, Station.optionsCode_eq]

/-- The entries of a feeder's list, in the bytes of R90. -/
theorem State.feederItems_eq (i : FeederId) (s : State) : s.feederItems i =
    (s.plant.feeder i).queue.map (fun e => [b8 e.load, 0, b8 e.passed,
      b8 (((s.plant.load? e.load).any Load.awaitingFan).toNat +
        2 * (s.plant.eligible s.calendar.clock e).toNat), 0, 0]) ++
    (s.plant.loads.filter (fun l => l.cfg.feeder == i && l.isWaking)).map
      (fun l => [b8 l.num, 1, b8 l.cfg.demand, b8 (if l.state = .waking .ordered then 1 else 2)] ++
        (match l.timer with
          | none => [0xFF, 0xFF]
          | some x => b16 (x.limit - x.elapsed - (Config.timerFraction s.draws l.num).toNat))) := by
  rw [State.feederItems]
  refine congrArg₂ (· ++ ·) (List.map_congr_left fun e _ => Plant.entryItem_eq _ _ e) (List.map_congr_left fun l hl => ?_)
  exact Load.wakingItem_eq _ (Bool.and_eq_true_iff.mp (List.mem_filter.mp hl).2).2

/-- Settles O55: each reading gives its record and leaves the blocks. -/
theorem readsAndIdentifyChangeNothing : Obligations.ReadsAndIdentifyChangeNothing := by
  intro s tag hs
  refine ⟨?_, fun n l h1 h96 hl => ?_, fun n h => ?_, fun i => ?_, fun f k h => ?_, fun i k h5 => ⟨fun h0 h => ?_, fun h => ?_⟩⟩
  · exact State.perform_report hs { kind := 33, tag, payload := [] } doIdentify _ rfl
  · obtain ⟨t, ht, hblocks, hanswers⟩ := State.perform_report hs { kind := 27, tag, payload := [b8 n] } _ _
      (doReadLoad_bound (s := s.holding _) h1 h96 hl)
    refine ⟨t, _, s.plant.placeBytes l, Config.timerFraction s.draws n, ht, hblocks, hanswers, List.take_left' rfl, ?_,
      fun earlier passed later hqueue hearlier => ?_, fun hnone => ?_⟩
    · rw [List.drop_left' (BindFields.bytes_length _), Plant.runtimeBytes_eq]
      rfl
    · rw [Plant.placeBytes, hqueue, Plant.load?_num hl, findEntry_found earlier later hearlier, Nat.add_comm 1]
    · rw [Plant.placeBytes, Plant.load?_num hl, findEntry_missing hnone]
  · have hrange : index? 40 n = none := index?_eq_none (by omega)
    exact s.perform_refused hs { kind := 29, tag, payload := [b8 n] } (doReadStation n) .range (by rw [doReadStation, hrange])
  · obtain ⟨t, ht, hblocks, hanswers⟩ := State.perform_report hs { kind := 29, tag, payload := [b8 (i.val + 1)] } _ _
      (doReadStation_eq i (s.holding _))
    refine ⟨t, ht, hblocks, ?_⟩
    rw [Station.resultBytes_eq _ _ rfl, Station.slot_item, funext (Plant.channelBytes_eq _ _)] at hanswers
    simp only [List.append_assoc] at hanswers ⊢
    exact hanswers
  · exact s.perform_refused hs { kind := 30, tag, payload := [b8 f, b8 k] } _ .range (doReadFeeder_range h _)
  · exact s.perform_refused hs { kind := 30, tag, payload := [b8 (i.val + 1), b8 k] } _ .range
      (doReadFeeder_missing i h5 h0 ((State.feederItems_length i _).trans_le h))
  · obtain ⟨t, ht, hblocks, hanswers⟩ := State.perform_report hs { kind := 30, tag, payload := [b8 (i.val + 1), b8 k] } _ _
      (doReadFeeder_page (s := s.holding _) i h5 (h.imp_right fun h => h.trans_eq (State.feederItems_length i _).symm))
    refine ⟨t, fun n => Config.timerFraction s.draws n, Config.timerFraction s.draws (100 + i.val), ht, hblocks, ?_⟩
    rw [State.feederItems_length, State.feederItems_eq, pageByte_eq, remainingBytes_map] at hanswers
    exact hanswers

end

end Sys2Proof.Machine
end

section
/-!
PROOFS. The seconds event on the clock, the stop times, the samples and the dwell (R39, R40, R79, R93, R98, R100).
-/

namespace Sys2Proof.Machine

section

variable {s : State} {n : Nat} {l : Load}

/-! ## The advance of the clock and what it moves (R79, R93, R98) -/

/-- The first reading after the wrap (R93). -/
def Stamp.wrapped : Stamp := { date := { year := 2000, month := 1, day := 1 }, seconds := 0 }

theorem Stamp.wrapped_absolute : Stamp.wrapped.absolute = 0 := by decide

/-- The stop time of a load through the advance of the clock: at the wrap it is set to the new reading (R79). -/
def Calendar.stopMoved (c : Calendar) (l : Load) : Load :=
  if c.clock.any Clock.isWrap then l.stopBy Stamp.wrapped else l

theorem Calendar.stopMoved_kept (c : Calendar) (l : Load) : c.stopMoved l = { l with stopTime := (c.stopMoved l).stopTime } := by
  unfold Calendar.stopMoved
  split <;> rfl

theorem Clock.isWrap_iff {k : Clock} : k.isWrap = true ↔
    k.seconds = 86399 ∧ k.date = { year := 2099, month := 12, day := 31 } := by
  simp [Clock.isWrap]

theorem Clock.advance_wrap {k : Clock} (h : k.isWrap = true) : k.advance.stamp = Stamp.wrapped := by
  obtain ⟨hlast, hdate⟩ := Clock.isWrap_iff.mp h
  rw [Clock.advance, if_pos hlast, hdate]
  rfl

theorem State.advanceClock_eq (s : State) : s.advanceClock =
    (s.setCalendar (fun _ => s.calendar.advanced)).onPlant
      (fun p => { p with loads := p.loads.map s.calendar.stopMoved }) := by
  have hkept {c : Calendar} (h : c.clock.any Clock.isWrap = false) (p : Plant) :
      { p with loads := p.loads.map c.stopMoved } = p := by
    have hid : c.stopMoved = id := funext fun l => if_neg (Bool.eq_false_iff.mp h)
    rw [hid, List.map_id]
  unfold State.advanceClock Calendar.advanced
  cases hclock : s.calendar.clock with
  | none =>
    have hnone : s.calendar.clock.any Clock.isWrap = false := by rw [hclock]; rfl
    simp only [State.onPlant, hkept hnone]
    rfl
  | some k =>
    dsimp only
    by_cases hwrap : k.isWrap = true
    · have hmoved : s.calendar.stopMoved = Load.stopBy Stamp.wrapped :=
        funext fun l => if_pos (by rw [hclock]; exact hwrap)
      rw [if_pos hwrap, if_pos (Clock.isWrap_iff.mp hwrap).1, if_pos (Clock.isWrap_iff.mp hwrap).1, hmoved,
        State.adjustStopTimes_eq, ← Clock.advance_wrap hwrap]
      rfl
    · have hnone : s.calendar.clock.any Clock.isWrap = false := by
        rw [hclock]
        exact Bool.eq_false_iff.mpr hwrap
      rw [if_neg hwrap]
      simp only [State.onPlant, hkept hnone]
      split <;> rfl

/-! ## The seconds event up to the wakes -/

theorem State.takeProfiles_link (s : State) : s.takeProfiles.link = s.link := by
  have hchange (before : Vector Bool 4) (t : State) (p : ProfileId) : (t.raiseChange before p).link = t.link := by
    unfold State.raiseChange
    split
    · rfl
    · split <;> simp
  have hfold (before : Vector Bool 4) (ps : List ProfileId) (t : State) :
      (ps.foldl (fun t p => t.raiseChange before p) t).link = t.link := by
    induction ps generalizing t with
    | nil => rfl
    | cons p ps ih => rw [List.foldl_cons, ih, hchange]
  exact hfold _ _ _

/-- Until the wakes a seconds event changes of the plant only ages, timers and stop times. -/
theorem State.clockTaken_plant (s : State) : s.clockTaken.plant =
    { s.plant.ageAll with loads := s.plant.ageAll.loads.map s.calendar.stopMoved } := by
  have hprofiles (t : State) : t.takeProfiles.plant = t.plant := by
    have := congrArg Blocks.plant t.takeProfiles_onlyNotices.blocks
    exact this
  have hadvanced : (s.onPlant Plant.ageAll).advanceClock.plant =
      { s.plant.ageAll with loads := s.plant.ageAll.loads.map s.calendar.stopMoved } := by
    rw [State.advanceClock_eq]
    rfl
  unfold State.clockTaken
  split
  · rw [hprofiles, hadvanced]
  · exact hadvanced

theorem State.clockTaken_alerts (s : State) : s.alerts.sameButQueue s.clockTaken.alerts := by
  have hadvanced : (s.onPlant Plant.ageAll).advanceClock.alerts = s.alerts := by
    rw [State.advanceClock_eq]
    rfl
  have hprofiles (t : State) : t.alerts.sameButQueue t.takeProfiles.alerts := t.takeProfiles_onlyNotices.alerts
  unfold State.clockTaken
  split
  · have := hprofiles (s.onPlant Plant.ageAll).advanceClock
    rwa [hadvanced] at this
  · rw [hadvanced]

theorem State.clockTaken_link (s : State) : s.clockTaken.link = s.link := by
  have hadvanced : (s.onPlant Plant.ageAll).advanceClock.link = s.link := by
    rw [State.advanceClock_eq]
    rfl
  unfold State.clockTaken
  split
  · rw [State.takeProfiles_link, hadvanced]
  · exact hadvanced

theorem State.lookAndWake_alerts (waiting batch : List Nat) (s : State) : (s.lookAndWake waiting batch).alerts = s.alerts := by
  unfold State.lookAndWake
  split
  · rfl
  · split
    · rfl
    · split <;> rfl

theorem State.lookAndWake_sameFrame (waiting batch : List Nat) (s : State) :
    s.plant.SameFrame (s.lookAndWake waiting batch).plant := by
  have hwake (t : State) : t.plant.SameFrame (t.wakeAll batch).plant := by
    rw [State.wakeAll_plant]
    exact Plant.sameFrame_wakeAll _ _ t.plant
  unfold State.lookAndWake
  split
  · exact s.lookOff_sameFrame waiting
  · split
    · exact hwake s
    · split
      · exact (s.lookOff_sameFrame waiting).trans (hwake _)
      · exact (hwake s).trans (State.lookOff_sameFrame waiting _)

/-! ## The loads through a seconds event -/

theorem State.clockTaken_load? (hl : s.load? n = some l) :
    s.clockTaken.load? n = some (s.calendar.stopMoved l.secondOlder) := by
  have hnum (x : Load) : (s.calendar.stopMoved x.secondOlder).num = x.num := by
    rw [Calendar.stopMoved_kept]
    rfl
  rw [State.load?, State.clockTaken_plant,
    Plant.load?_map (p := s.plant) (f := fun x => s.calendar.stopMoved x.secondOlder) hnum ?_]
  · exact Option.map_eq_some_iff.mpr ⟨l, hl, rfl⟩
  · change s.plant.ageAll.loads.map _ = _
    rw [Plant.ageAll_loads, List.map_map]
    rfl

theorem State.secondPasses_load? {y : Load} (hy : s.secondWoken.load? n = some y) :
    s.secondPasses.load? n = some y.countDwell := by
  have hload : s.secondPasses.load? n = (s.secondWoken.load? n).map Load.countDwell :=
    Plant.load?_map (p := s.secondWoken.plant) (f := Load.countDwell) (fun x => x.countDwell_num.1) rfl n
  rw [hload, hy]
  rfl

theorem Load.countDwell_stopTime (l : Load) : l.countDwell.stopTime = l.stopTime ∧ l.countDwell.sampleAge = l.sampleAge := by
  unfold Load.countDwell
  split_ifs <;> exact ⟨rfl, rfl⟩

/-- What the wrap makes of a stop time. -/
theorem Calendar.stopMoved_stopTime (c : Calendar) (l : Load) : (c.stopMoved l).stopTime =
    if c.clock.any (fun k => k.seconds == 86399 && k.date == { year := 2099, month := 12, day := 31 }) then
      l.stopTime.map (fun stop => if 0 < stop.absolute then Stamp.wrapped else stop)
    else l.stopTime := by
  unfold Calendar.stopMoved
  change (if c.clock.any Clock.isWrap then _ else _ : Load).stopTime = if c.clock.any Clock.isWrap then _ else _
  split
  · rw [Load.stopBy, Stamp.wrapped_absolute]
  · rfl

/-- A seconds event evaluates the profiles exactly at a slot boundary (R100). -/
theorem Calendar.secondLater_held (c : Calendar) : c.secondLater.held = (match c.secondLater.clock with
    | none => c.held
    | some k => if k.seconds % 1800 = 0 then c.secondLater.values else c.held) := by
  unfold Calendar.secondLater Calendar.atBoundary
  cases hclock : c.advanced.clock with
  | none =>
    rw [if_neg Bool.false_ne_true, hclock]
    exact c.advanced_held.1
  | some k =>
    by_cases hslot : k.seconds % 1800 = 0
    · have hclock' : c.advanced.evaluated.clock = some k := hclock
      rw [if_pos (beq_iff_eq.mpr hslot), hclock']
      exact (if_pos hslot).symm
    · rw [if_neg (hslot ∘ beq_iff_eq.mp), hclock]
      exact c.advanced_held.1.trans (if_neg hslot).symm

/-- Settles O12: the clock goes on, the calendar is purged and evaluated, and the wrap moves the stop times. -/
theorem secondsEventAdvancesTheClock : Obligations.SecondsEventAdvancesTheClock := by
  intro s hs
  refine ⟨s.secondPasses.settlePins, State.perform_out hs _, ?_⟩
  have hcalendar := s.secondPasses_calendar
  have hupkeep := s.upkeep_secondPasses
  have hwoken := s.works_secondWoken
  have hadvanced := s.calendar.advanced_held
  simp only [State.settlePins_calendar, State.settlePins_plant, State.settlePins_sweep, State.settlePins_assent,
    State.settlePins_link, State.settlePins_inReset, State.settlePins_pending, State.settlePins_alerts]
  have hsecond : s.calendar.secondLater = { s.calendar.advanced with held := s.calendar.secondLater.held } := by
    unfold Calendar.secondLater
    split <;> rfl
  refine ⟨?_, ?_, ?_, ?_, fun n l hl => ?_, ?_, ?_, ?_, ?_, ?_, hupkeep.inReset.trans hs, hupkeep.pending, ?_⟩
  · rw [hcalendar, hsecond]
    exact s.calendar.advanced_clock
  · rw [hcalendar, hsecond]
    exact hadvanced.2
  · rw [hcalendar, hsecond]
    exact s.calendar.advanced_holidays
  · rw [hcalendar]
    exact s.calendar.secondLater_held
  · obtain ⟨y, hy, hcore⟩ := (State.lookAndWake_sameFrame _ _ s.clockTaken).bound (State.clockTaken_load? hl)
    refine ⟨_, State.secondPasses_load? hy, ?_, ?_⟩
    · have hcfg := congrArg Load.cfg hcore
      rw [y.countDwell_num.2]
      rw [Calendar.stopMoved_kept] at hcfg
      exact hcfg
    · have hstop := congrArg Load.stopTime hcore
      rw [y.countDwell_stopTime.1]
      exact hstop.trans (Calendar.stopMoved_stopTime _ _)
  · have := hwoken.plant.groups
    rw [State.clockTaken_plant] at this
    exact this.trans s.plant.frame_ageAll.groups
  · have := hwoken.plant.curves
    rw [State.clockTaken_plant] at this
    exact this.trans s.plant.frame_ageAll.curves
  · exact hwoken.beyond.2.1.trans s.clockTaken_sweep.1
  · exact hwoken.beyond.2.2.1.trans s.clockTaken_sweep.2
  · exact hwoken.beyond.2.2.2.1.trans s.clockTaken_link
  · have halerts : s.secondPasses.alerts = s.clockTaken.alerts := State.lookAndWake_alerts _ _ _
    rw [halerts]
    exact s.clockTaken_alerts

/-! ## The dwell (R39, R40) -/

theorem State.moves_lookOff (waiting : List Nat) (hp : s.plant.sound) :
    s.plant.Moves Load.Woken (s.lookOff waiting).plant := by
  rw [State.lookOff, State.onPlantNow_plant]
  exact (Plant.moves_attemptFor s.calendar.clock _ hp).mono fun x y h => .of_calm x y (.of_grants x y h)

theorem State.moves_wakeAll (batch : List Nat) (hp : s.plant.sound) : s.plant.Moves Load.Woken (s.wakeAll batch).plant := by
  rw [State.wakeAll_plant]
  exact Plant.moves_wakeAll _ batch hp

theorem State.moves_lookAndWake (waiting batch : List Nat) (hp : s.plant.sound) :
    s.plant.Moves Load.Woken (s.lookAndWake waiting batch).plant := by
  unfold State.lookAndWake
  split
  · exact State.moves_lookOff waiting hp
  · split
    · exact State.moves_wakeAll batch hp
    · split
      · have hlook := State.moves_lookOff waiting hp
        exact hlook.trans Load.Woken.trans (State.moves_wakeAll batch hlook.sound)
      · have hwake := State.moves_wakeAll batch hp
        exact hwake.trans Load.Woken.trans (State.moves_lookOff waiting hwake.sound)

/-- No wake and no grant makes a load IDLING, and none touches one. -/
theorem Load.Woken.idling {x y : Load} (h : x.Woken y) (hidle : x.state = .idling ∨ y.state = .idling) : y = x := by
  obtain ⟨-, hmove⟩ := h
  have hway {y : Load} (hy : y.onItsWay) : y.state ≠ .idling := by
    rcases hy with hy | ⟨w, hy⟩ <;> simp [hy]
  cases hx : x.state with
  | parked =>
    rw [hx] at hmove hidle
    exact hmove.resolve_right fun h => hway h.1 (hidle.resolve_left LoadState.noConfusion)
  | wakeQueued =>
    rw [hx] at hmove hidle
    exact absurd (hidle.resolve_left LoadState.noConfusion) (hway hmove.1)
  | parking step =>
    rw [hx] at hmove hidle
    refine hmove.resolve_right fun h => ?_
    have hy := hidle.resolve_left LoadState.noConfusion
    rw [h] at hy
    exact LoadState.noConfusion hy
  | offline =>
    rw [hx] at hmove hidle
    refine hmove.resolve_right fun h => ?_
    have hy := hidle.resolve_left LoadState.noConfusion
    rw [h.2] at hy
    exact LoadState.noConfusion hy
  | _ =>
    rw [hx] at hmove
    exact hmove

theorem Load.countDwell_other (h : l.state ≠ .idling) : l.countDwell = l := if_neg fun hi => h hi.1

theorem Load.countDwell_fresh (hidle : l.state = .idling) (hfresh : l.isFresh = true) : l.countDwell =
    if l.cfg.idleDwell ≤ l.dwell + 1 then { l with dwell := l.cfg.idleDwell, state := .parkPending, manual := false }
    else { l with dwell := l.dwell + 1 } := if_pos ⟨hidle, hfresh⟩

theorem Load.countDwell_stale (h : l.isFresh = false) : l.countDwell = l := if_neg fun hi => by simp [h] at hi

/-- Settles O14: the wakes and grants touch no IDLING load, and then every IDLING load with a fresh sample counts. -/
theorem secondsEventCountsDwell : Obligations.SecondsEventCountsDwell := by
  intro s n l hs hp hl
  obtain ⟨y, hy, hwoken⟩ := (State.moves_lookAndWake (s.plant.waitingOff s.calendar.clock) s.secondBatch
    (s.upkeep_clockTaken.plant hp)).loads.bound Load.Woken.num (State.clockTaken_load? hl)
  have hx : s.calendar.stopMoved l.secondOlder = { l.secondOlder with stopTime := (s.calendar.stopMoved l.secondOlder).stopTime } :=
    Calendar.stopMoved_kept _ _
  generalize s.calendar.stopMoved l.secondOlder = x at hx hwoken
  have hage : x.sampleAge = l.sampleAge.map (fun a => min 31 (a + 1)) := by rw [hx]; rfl
  have hdwell : x.dwell = l.dwell := by rw [hx]; rfl
  have hstate : x.state = l.state := by rw [hx]; rfl
  have hcfg : x.cfg = l.cfg := by rw [hx]; rfl
  have hageCore := congrArg Load.sampleAge hwoken.1
  have hdwellCore := congrArg Load.dwell hwoken.1
  refine ⟨_, y.countDwell, State.perform_out hs _, State.secondPasses_load? hy, ?_, fun hother => ?_, fun hidle hbelow => ?_⟩
  · rw [y.countDwell_stopTime.2]
    exact hageCore.trans hage
  · have hy : y.state ≠ .idling := fun hy => hother (by rw [← hstate, ← hwoken.idling (.inr hy), hy])
    rw [Load.countDwell_other hy]
    exact hdwellCore.trans hdwell
  · rw [hwoken.idling (.inl (hstate.trans hidle))]
    have hfresh : x.isFresh = l.sampleAge.any (fun a => decide (a + 1 ≤ 30)) := by
      rw [Load.isFresh, hage]
      cases l.sampleAge with
      | none => rfl
      | some a =>
        have hle : min 31 (a + 1) ≤ 30 ↔ a + 1 ≤ 30 := by omega
        exact decide_eq_decide.mpr hle
    rw [← hfresh]
    by_cases hf : x.isFresh = true
    · rw [if_pos hf, Load.countDwell_fresh (hstate.trans hidle) hf, hcfg, hdwell]
      by_cases hend : l.dwell + 1 = l.cfg.idleDwell
      · rw [if_pos hend, if_pos hend.ge]
        exact ⟨rfl, rfl, rfl⟩
      · rw [if_neg hend, if_neg (show ¬l.cfg.idleDwell ≤ l.dwell + 1 by omega)]
        exact ⟨hstate.trans hidle, rfl⟩
    · rw [if_neg hf, Load.countDwell_stale (Bool.eq_false_iff.mpr hf)]
      exact ⟨hstate.trans hidle, hdwell⟩

end

end Sys2Proof.Machine
end

section
/-!
PROOFS. What brings a grant: the end of the spacing and of a minimum off, and a feeder without spacing (R79, R81 to R83).
-/

namespace Sys2Proof.Machine

section

variable {p q : Plant} {s : State} {clock : Option Clock} {i j : FeederId} {e : QueueEntry} {rest : List QueueEntry} {l : Load}

/-! ## A grant to the oldest entry -/

theorem Plant.eligible_of (hl : p.load? e.load = some l) (hlive : (p.station l.cfg.station).link = .live)
    (hlock : l.hold.byLockout = false) (hfan : l.awaitingFan = false)
    (hoff : l.cfg.kind = .compressor → minimumOffElapsed clock l = true) : p.eligible clock e = true := by
  have hkind : (l.cfg.kind != .compressor || minimumOffElapsed clock l) = true := by
    simp only [Bool.or_eq_true, bne_iff_ne]
    exact not_or_of_imp hoff
  simp [Plant.eligible, hl, Plant.eligibleLoad, Plant.linkOf, hlive, hlock, hfan, hkind]

theorem Plant.demandOf_bound (hl : p.load? e.load = some l) : p.demandOf e = l.cfg.demand := by
  rw [Plant.demandOf, hl]

/-- With a spacing and no timer running, an eligible oldest entry that fits is granted. -/
theorem Plant.grantAttempt_oldest (hl : p.load? e.load = some l) (hqueue : (p.feeder i).queue = e :: rest)
    (htimer : (p.feeder i).spacingTimer = none) (hspacing : 0 < (p.feeder i).spacing)
    (heligible : p.eligible clock e = true) (hfits : l.cfg.demand ≤ (p.feeder i).free) :
    p.grantAttempt clock i = p.grantTo i e.load rest := by
  refine Plant.grantAttempt_of_pick clock i p htimer hspacing.ne' ?_
  rw [hqueue]
  exact pickEntry_of_fits heligible (by rwa [Plant.demandOf_bound hl])

theorem Plant.load?_grantTo (hp : p.numbered) (hl : p.load? e.load = some l) (hlock : l.hold.byLockout = false) :
    (p.grantTo i e.load rest).load? e.load = some l.granted ∧
      ∀ m, m ≠ e.load → (p.grantTo i e.load rest).load? m = p.load? m := by
  have hset := Plant.setLoad_bound hl Load.granted (fun _ => rfl)
  have hload (m : Nat) := Plant.load?_of_loads (n := m) (Plant.grantTo_loads hp i rest hl hlock)
  exact ⟨(hload _).trans hset.1, fun m hm => (hload m).trans (hset.2.1 m hm)⟩

theorem Feeder.gave_spaced {f : Feeder} (h : 0 < f.spacing) (units : Nat) (rest : List QueueEntry) : f.gave units rest =
    { f with free := f.free - units, queue := rest, spacingTimer := some (Timer.start f.spacing) } := by
  rw [Feeder.gave, if_neg h.ne']

/-! ## The end of the spacing (R83) -/

theorem exec_spacingTimerExpiry (i : FeederId) (s : State) : exec (.spacingTimerExpiry (i.val + 1)) s =
    s.perform (State.onPlantNow (fun c => Plant.spacingExpired c i)) := by
  change s.perform (fun s => match index? 4 (i.val + 1) with
    | none => s
    | some i => s.onPlantNow (fun c => Plant.spacingExpired c i)) = _
  rw [index?_succ]

theorem Plant.spacingExpired_none (h : (p.feeder i).spacingTimer = none) : p.spacingExpired clock i = p := by
  rw [Plant.spacingExpired, h]
  rfl

/-- The feeder's timer has run off. -/
def Plant.spacingOver (i : FeederId) (p : Plant) : Plant := p.setFeeder i (fun f => { f with spacingTimer := none })

theorem Plant.spacingExpired_running (h : (p.feeder i).spacingTimer ≠ none) :
    p.spacingExpired clock i = (p.spacingOver i).grantAttempt clock i := if_pos (Option.isSome_iff_ne_none.mpr h)

/-! ## A minimum off that elapses (R79, log entry 7) -/

theorem exec_minimumOffElapsed (s : State) : exec .minimumOffElapsed s = s.perform State.minimumOffPasses := rfl

/-- The attempt on one feeder, where one of the loads is its. -/
def Plant.attemptIn (clock : Option Clock) (ls : List Load) (p : Plant) (i : FeederId) : Plant :=
  if ls.any (fun l => l.cfg.feeder == i) then p.grantAttempt clock i else p

theorem Plant.attemptFor_eq (ls : List Load) : p.attemptFor clock ls = feederIds.foldl (Plant.attemptIn clock ls) p := rfl

theorem Plant.moves_attemptIn (ls : List Load) (is : List FeederId) (hp : p.sound) :
    p.Moves Load.Grants (is.foldl (Plant.attemptIn clock ls) p) :=
  .foldl (fun _ => .rfl) Load.Grants.trans (fun q i hq => by
    unfold Plant.attemptIn
    split
    · exact Plant.moves_grantAttempt clock i hq
    · exact .rfl (fun _ => .rfl) hq) is hp

theorem Plant.sameFrame_attemptIn (ls : List Load) (is : List FeederId) :
    p.SameFrame (is.foldl (Plant.attemptIn clock ls) p) :=
  .foldl (fun q i => by
    unfold Plant.attemptIn
    split
    · exact Plant.sameFrame_grantAttempt clock i q
    · exact .rfl) is p

theorem Plant.feeder_attemptIn_other (ls : List Load) (is : List FeederId) (hi : i ∉ is) :
    (is.foldl (Plant.attemptIn clock ls) p).feeder i = p.feeder i := by
  induction is generalizing p with
  | nil => rfl
  | cons j is ih =>
    obtain ⟨hij, his⟩ := not_or.mp (mt List.mem_cons.mpr hi)
    rw [List.foldl_cons, ih his]
    unfold Plant.attemptIn
    split
    · exact Plant.feeder_grantAttempt_other clock hij p
    · rfl

/-- A load that still waits has not been granted. -/
theorem Plant.Moves.waiting (h : p.Moves Load.Grants q) {n : Nat} (hl : p.load? n = some l)
    (hn : n ∈ q.queueOf i) : q.load? n = some l := by
  obtain ⟨m, hm, hgrants⟩ := h.loads.bound Load.Grants.num hl
  rcases hgrants with rfl | ⟨-, -, -, rfl⟩
  · exact hm
  · exact absurd hn (h.sound.not_mem_queueOf hm (by simp [Load.granted]) i)

/-- A load that waited and is in its queue no more has been granted. -/
theorem Plant.Moves.granted (h : p.Moves Load.Grants q) {n : Nat} (hl : p.load? n = some l)
    (hstate : l.state = .wakeQueued) (hn : n ∉ q.queueOf l.cfg.feeder) : q.load? n = some l.granted := by
  obtain ⟨m, hm, hgrants⟩ := h.loads.bound Load.Grants.num hl
  rcases hgrants with rfl | ⟨-, -, -, rfl⟩
  · exact absurd ((h.sound.queuesMatch _ n).mpr ⟨m, hm, hstate, Eq.refl _⟩) hn
  · exact hm

/-- Attempts for loads of the feeder, and of others, grant its eligible oldest entry that fits, once. -/
theorem Plant.attemptFor_oldest (hp : p.sound) {ls : List Load} (hls : ls.any (fun x => x.cfg.feeder == i) = true)
    (hl : p.load? e.load = some l) (hqueue : (p.feeder i).queue = e :: rest)
    (htimer : (p.feeder i).spacingTimer = none) (hspacing : 0 < (p.feeder i).spacing)
    (heligible : ∀ q : Plant, p.SameFrame q → q.load? e.load = some l → q.eligible clock e = true)
    (hfits : l.cfg.demand ≤ (p.feeder i).free) :
    (p.attemptFor clock ls).feeder i = (p.feeder i).gave l.cfg.demand rest ∧
      (p.attemptFor clock ls).load? e.load = some l.granted := by
  obtain ⟨before, after, hids⟩ := List.append_of_mem (mem_feederIds i)
  have hnodup := feederIds_nodup
  rw [hids] at hnodup
  obtain ⟨hbefore, hafter⟩ : i ∉ before ∧ i ∉ after := by
    simp only [List.nodup_append, List.nodup_cons, List.mem_cons] at hnodup
    exact ⟨fun h => hnodup.2.2 i h i (.inl rfl) rfl, hnodup.2.1.1⟩
  have hq := Plant.moves_attemptIn (clock := clock) ls before hp
  have hframe := Plant.sameFrame_attemptIn (p := p) (clock := clock) ls before
  have hfeeder := Plant.feeder_attemptIn_other (p := p) (clock := clock) ls before hbefore
  generalize hqdef : before.foldl (Plant.attemptIn clock ls) p = q at hq hframe hfeeder
  have hmem : e.load ∈ q.queueOf i := by simp [Plant.queueOf, hfeeder, hqueue]
  have hlq := hq.waiting hl hmem
  have hgrant : q.attemptIn clock ls i = q.grantTo i e.load rest := by
    rw [Plant.attemptIn, if_pos hls]
    refine Plant.grantAttempt_oldest hlq ?_ ?_ ?_ (heligible q hframe hlq) ?_ <;> rw [hfeeder] <;> assumption
  have hend : (p.attemptFor clock ls).feeder i = (p.feeder i).gave l.cfg.demand rest := by
    rw [Plant.attemptFor_eq, hids, List.foldl_append, hqdef, List.foldl_cons, hgrant,
      Plant.feeder_attemptIn_other ls after hafter, Plant.feeder_grantTo i rest hlq, hfeeder]
  obtain ⟨x, hx, hstate, hat⟩ := (hp.queuesMatch i e.load).mp (by simp [Plant.queueOf, hqueue])
  obtain rfl : x = l := Option.some.inj (hx.symm.trans hl)
  refine ⟨hend, (Plant.moves_attemptFor clock ls hp).granted hl hstate ?_⟩
  have hfresh := hp.nodup i
  rw [Plant.queueOf, hqueue, List.map_cons, List.nodup_cons] at hfresh
  rw [hat, Plant.queueOf, hend]
  exact hfresh.1

/-! ## A feeder without spacing (R81) -/

theorem Plant.grantAttempt_unspaced (htimer : (p.feeder i).spacingTimer = none) (hspacing : (p.feeder i).spacing = 0)
    (h : pickEntry (p.eligible clock) p.demandOf (p.feeder i).free (p.feeder i).queue = some (e, rest)) :
    p.grantAttempt clock i = (p.grantTo i e.load rest).grantAttempt clock i := by
  obtain ⟨before, after, hqueue, heligible, -, -, hrest⟩ := pickEntry_eq_some_iff.mp h
  obtain ⟨l, hl⟩ : ∃ l, p.load? e.load = some l := by
    cases hl : p.load? e.load with
    | none => simp [Plant.eligible, hl] at heligible
    | some l => exact ⟨l, rfl⟩
  have hlength : ((p.grantTo i e.load rest).feeder i).queue.length + 1 = (p.feeder i).queue.length := by
    rw [Plant.feeder_grantTo i rest hl, hqueue]
    simp [Feeder.gave, hrest, Nat.add_assoc]
  rw [Plant.grantAttempt, ← hlength, Plant.grantLoop, htimer, h]
  simp only [Option.isSome_none, Bool.false_eq_true, if_false, hspacing, if_true]
  rfl

/-- Settles O17. -/
theorem arrivalsGrantTheOldest : Obligations.ArrivalsGrantTheOldest := by
  refine ⟨fun s i e rest l hs hp hqueue hl hlive hlock hfan hoff hfits hspacing =>
    ⟨fun htimer => ?_, fun stop k htimer hkind hclock hstop hmin habs => ?_, fun htimer => ?_⟩,
    fun s hs hnone => ?_, fun clock i p e rest htimer hspacing h => Plant.grantAttempt_unspaced htimer hspacing h⟩
  · have hover : (s.plant.spacingOver i).sound :=
      (Plant.sameUnits_setFeeder (f := fun f => { f with spacingTimer := none }) (fun _ => rfl) s.plant).sound hp
    have hfeeder : (s.plant.spacingOver i).feeder i = { s.plant.feeder i with spacingTimer := none } :=
      Plant.feeder_setFeeder_self _ _ _
    have hgrant : (s.plant.spacingOver i).grantAttempt s.calendar.clock i =
        (s.plant.spacingOver i).grantTo i e.load rest := by
      refine Plant.grantAttempt_oldest (l := l) hl ?_ ?_ ?_ (Plant.eligible_of hl hlive hlock hfan hoff) ?_
      · rw [hfeeder]
        exact hqueue
      · rw [hfeeder]
      · rw [hfeeder]
        exact hspacing
      · rw [hfeeder]
        exact hfits
    have hplant : (s.onPlantNow (fun c => Plant.spacingExpired c i)).plant =
        (s.plant.spacingOver i).grantTo i e.load rest := by
      rw [State.onPlantNow_plant, Plant.spacingExpired_running htimer, hgrant]
    obtain ⟨hself, hother⟩ := Plant.load?_grantTo (i := i) (rest := rest) hover.numbered (l := l) hl hlock
    have hframe := Plant.sameFrame_grantTo i e.load rest (s.plant.spacingOver i)
    refine ⟨_, (exec_spacingTimerExpiry i s).trans (State.perform_out hs _), ?_, ?_, ⟨fun m hm => ?_, ?_, ?_⟩, rfl,
      rfl, rfl, rfl, rfl, rfl, rfl, rfl⟩
    · rw [State.load?, State.settlePins_plant, hplant]
      exact hself
    · rw [State.settlePins_plant, hplant, Plant.feeder_grantTo (p := s.plant.spacingOver i) i rest hl, hfeeder]
      exact Feeder.gave_spaced (f := { s.plant.feeder i with spacingTimer := none }) hspacing _ _
    · rw [State.settlePins_plant, hplant]
      exact hother m hm
    · rw [State.settlePins_plant, hplant]
      exact hframe.groups
    · rw [State.settlePins_plant, hplant]
      exact hframe.curves
  · have helapses : minimumOffElapses s.calendar.clock l = true :=
      (minimumOffElapses_iff _ _).mpr ⟨stop, k, hstop, hclock, hmin, habs⟩
    obtain ⟨x, hx, hstate, hat⟩ := (hp.queuesMatch i e.load).mp (by simp [Plant.queueOf, hqueue])
    obtain rfl : x = l := Option.some.inj (hx.symm.trans hl)
    have hany : (s.plant.loads.filter
        (fun l => l.isQueuedCompressor && minimumOffElapses s.calendar.clock l)).any (fun x => x.cfg.feeder == i) = true := by
      refine List.any_eq_true.mpr ⟨x, List.mem_filter.mpr ⟨Plant.mem_of_load? hl, ?_⟩, beq_iff_eq.mpr hat⟩
      simp [Load.isQueuedCompressor, hstate, hkind, helapses]
    obtain ⟨hfeeder, hload⟩ := Plant.attemptFor_oldest (clock := s.calendar.clock) hp hany hl hqueue htimer hspacing
      (fun q hframe hlq => Plant.eligible_of hlq (by
        have := congrArg Station.link (hframe.stations x.cfg.station)
        exact this.trans hlive) hlock hfan hoff) hfits
    refine ⟨_, (exec_minimumOffElapsed s).trans (State.perform_out hs _), ?_, ?_, rfl, rfl, rfl, rfl, rfl, rfl, rfl, rfl⟩
    · exact hload
    · exact hfeeder.trans (Feeder.gave_spaced hspacing _ _)
  · refine ⟨_, (exec_spacingTimerExpiry i s).trans (State.perform_out hs _), ?_, rfl⟩
    have hplant : (s.onPlantNow (fun c => Plant.spacingExpired c i)).plant = s.plant := by
      rw [State.onPlantNow_plant, Plant.spacingExpired_none htimer]
    exact congrArg (fun p => { s.blocks with plant := p }) hplant
  · have hempty : s.plant.loads.filter (fun l => l.isQueuedCompressor && minimumOffElapses s.calendar.clock l) = [] := by
      refine List.filter_eq_nil_iff.mpr fun l hl helapses => ?_
      obtain ⟨hqueued, helapses⟩ := Bool.and_eq_true_iff.mp helapses
      obtain ⟨hstate, hkind⟩ := Bool.and_eq_true_iff.mp hqueued
      obtain ⟨stop, k, hstop, hclock, hmin, habs⟩ := (minimumOffElapses_iff _ _).mp helapses
      exact hnone l hl (beq_iff_eq.mp hstate) (beq_iff_eq.mp hkind) stop k hstop hclock hmin habs
    have hplant : s.minimumOffPasses.plant = s.plant := by
      rw [State.minimumOffPasses, State.onPlantNow_plant, hempty, Plant.attemptFor_nil]
    refine ⟨_, (exec_minimumOffElapsed s).trans (State.perform_out hs _), ?_, rfl⟩
    exact congrArg (fun p => { s.blocks with plant := p }) hplant

end

end Sys2Proof.Machine
end

section
/-!
PROOFS. The settle timer (R86), and the requests HOLD, RELEASE, PARK NOW and CANCEL PARK (R18, R65 to R67).
-/

namespace Sys2Proof.Machine

section

variable {p : Plant} {s : State} {n : Nat} {l : Load} {clock : Option Clock}

/-! ## The settle timer (R86) -/

/-- A load as the settle timer's expiry on an unheard station leaves it before the order is withdrawn. -/
def Load.unsettled (l : Load) : Load := { l with state := .offline, timer := none, parkOwned := true, wakeDue := false }

/-- What the settle timer's expiry makes of a load before the order is withdrawn. -/
def Load.settleEnds (heard : Bool) (l : Load) : Load := if heard then l.failing else l.unsettled

theorem Load.settleEnds_num (heard : Bool) (l : Load) : (l.settleEnds heard).num = l.num := by
  cases heard <;> rfl

/-- The station still hears the part: a load on it faults, one on any other station goes OFFLINE. -/
def Plant.hears (p : Plant) (l : Load) : Bool := decide (p.linkOf l = .live ∨ p.linkOf l = .suspect)

theorem State.settleExpired_plant (hl : s.load? n = some l) (hwaking : l.isWaking = true) : (s.settleExpired n).plant =
    ((s.plant.finish n (Load.settleEnds (s.plant.hears l))).giveBack l).grantAttempt s.calendar.clock l.cfg.feeder := by
  simp only [State.settleExpired, hl, Plant.hears]
  by_cases hheard : s.plant.linkOf l = .live ∨ s.plant.linkOf l = .suspect
  · simp only [hheard, if_true, decide_true, State.enterFaulted, hl, hwaking]
    simp only [State.returnUnits_plant, State.countFault_plant, State.raiseLoad_plant, State.withdraw_plant,
      State.setLoad_plant, State.countFault_calendar, State.raiseLoad_calendar, State.withdraw_calendar,
      State.setLoad_calendar]
    rfl
  · simp only [hheard, if_false, decide_false, State.raiseLoad_plant, State.returnUnits_plant, State.withdraw_plant,
      State.setLoad_plant, State.withdraw_calendar, State.setLoad_calendar]
    rfl

theorem State.settleExpired_alerts (hl : s.load? n = some l) (hwaking : l.isWaking = true) :
    if s.plant.hears l then s.alerts.faultCounted (s.settleExpired n).alerts
    else s.alerts.sameButQueue (s.settleExpired n).alerts := by
  simp only [State.settleExpired, hl, Plant.hears, decide_eq_true_eq]
  split
  · simp only [State.enterFaulted, hl, hwaking, if_true]
    have hraised := ((s.setLoad n Load.failing).withdraw n).raiseLoad_alerts n .faulted
    change s.alerts.faultCounted (((s.setLoad n Load.failing).withdraw n).raiseLoad n .faulted).countFault.alerts
    rw [State.countFault_alerts, hraised]
    exact Alerts.faultCounted_countFault _
  · exact (((s.setLoad n Load.unsettled).withdraw n).returnUnits l).raiseLoad_alerts n .offline

theorem exec_settleTimerExpiry (hl : s.load? n = some l) (hwaking : l.isWaking = true) (htimer : l.timer ≠ none)
    (hs : s.inReset = false) : exec (.settleTimerExpiry n) s = .next (s.settleExpired n).settlePins := by
  have hif : s.ifLoad n (fun l => l.isWaking && l.timer.isSome) (State.settleExpired n) = s.settleExpired n :=
    State.ifLoad_true hl (by simp [hwaking, Option.isSome_iff_ne_none.mpr htimer])
  have hout := State.perform_out hs (State.ifLoad n (fun l => l.isWaking && l.timer.isSome) (State.settleExpired n))
  rw [hif] at hout
  exact hout

/-- Settles O21. -/
theorem settleTimerExpires : Obligations.SettleTimerExpires := by
  intro s n l w hs hp hl hstate htimer
  have hwaking : l.isWaking = true := Load.isWaking_iff.mpr ⟨w, hstate⟩
  have hself := (State.becomes_settleExpired hp hl hwaking).self hl (fun x => by split <;> rfl) (by split <;> nofun)
  have halerts := State.settleExpired_alerts hl hwaking
  refine ⟨_, exec_settleTimerExpiry hl hwaking htimer hs, (s.works_settleExpired n).beyond, ?_, fun hempty => ?_⟩
  · change if s.plant.linkOf l = .live ∨ s.plant.linkOf l = .suspect then _ else _
    simp only [Plant.hears, decide_eq_true_eq] at halerts
    split
    · next hheard =>
      rw [if_pos hheard] at halerts hself
      exact ⟨hself, halerts⟩
    · next hheard =>
      rw [if_neg hheard] at halerts hself
      exact ⟨hself, halerts⟩
  · have hqueue : (((s.plant.finish n (Load.settleEnds (s.plant.hears l))).giveBack l).feeder l.cfg.feeder).queue = [] := by
      rw [Plant.feeder_giveBack, Plant.feeder_of_feeders Plant.finish_feeders]
      exact hempty
    have hplant : (s.settleExpired n).settlePins.plant =
        (s.plant.finish n (Load.settleEnds (s.plant.hears l))).giveBack l := by
      rw [State.settlePins_plant, State.settleExpired_plant hl hwaking, Plant.grantAttempt_empty _ _ _ hqueue]
    rw [hplant]
    refine ⟨Plant.finish_sameButLoad n _ s.plant (Load.settleEnds_num _), ?_⟩
    have hfeeders := Plant.finish_feeders (p := s.plant) (n := n) (f := Load.settleEnds (s.plant.hears l))
    simp only [Plant.giveBack, Plant.setFeeder, hfeeders]

/-! ## Requests that change one load (R18, R65 to R67) -/

/-- A request that changes one bound load. -/
theorem State.perform_loadChanged (hs : s.ready) {f : Frame} {effect : State → State × Answer} {g : Load → Load}
    (hg : ∀ x, (g x).num = x.num) (hl : s.load? n = some l)
    (he : effect (s.holding f) = ((s.holding f).setLoad n g).accept) :
    ∃ t, s.perform (State.request f effect) = .next t ∧ t.answers f.kind f.tag .done [] ∧ t.load? n = some (g l) ∧
      (∀ m, m ≠ n → t.load? m = s.load? m) ∧
      t.blocks = { s.blocks with plant := { s.plant with loads := t.plant.loads } } := by
  obtain ⟨t, ht, hanswers, hblocks⟩ := State.perform_plantChanged hs f effect (Plant.setLoad n g) he
  have hplant : t.plant = s.plant.setLoad n g := congrArg Blocks.plant hblocks
  obtain ⟨hself, hother⟩ := Plant.setLoad_bound hl g hg
  refine ⟨t, ht, hanswers, ?_, fun m hm => ?_, ?_⟩
  · rw [State.load?, hplant]
    exact hself
  · rw [State.load?, hplant]
    exact hother.1 m hm
  · rw [hblocks, hplant]
    rfl

theorem exec_hold (tag : Byte) (n : Nat) (s : State) :
    exec (.hold tag n) s = s.perform (State.request { kind := 17, tag, payload := [b8 n] } (doHold n)) := rfl

theorem exec_release (tag : Byte) (n : Nat) (s : State) :
    exec (.release tag n) s = s.perform (State.request { kind := 18, tag, payload := [b8 n] } (doRelease n)) := rfl

theorem exec_parkNow (tag : Byte) (n : Nat) (s : State) :
    exec (.parkNow tag n) s = s.perform (State.request { kind := 19, tag, payload := [b8 n] } (doParkNow n)) := rfl

theorem exec_cancelPark (tag : Byte) (n : Nat) (s : State) :
    exec (.cancelPark tag n) s = s.perform (State.request { kind := 20, tag, payload := [b8 n] } (doCancelPark n)) := rfl

/-- PARK NOW makes the load wait for its gates, by hand. -/
def Load.parkedByHand (l : Load) : Load := { l with state := .parkPending, manual := true }

/-- CANCEL PARK takes back a PARK NOW. -/
def Load.byHandNoMore (l : Load) : Load := { l with manual := false }

theorem doParkNow_accepted (h1 : 1 ≤ n) (h96 : n ≤ 96) (hl : s.load? n = some l)
    (hstate : l.state = .active ∨ l.state = .idling) : doParkNow n s = (s.setLoad n Load.parkedByHand).accept := by
  rw [doParkNow, State.forLoad_bound h1 h96 hl, if_pos hstate]
  rfl

theorem doParkNow_refused (h1 : 1 ≤ n) (h96 : n ≤ 96) (hl : s.load? n = some l)
    (hstate : ¬(l.state = .active ∨ l.state = .idling)) : doParkNow n s = s.refuse .wrongState := by
  rw [doParkNow, State.forLoad_bound h1 h96 hl, if_neg hstate]

/-- The plant that CANCEL PARK leaves. -/
def Plant.cancelPark (clock : Option Clock) (n : Nat) (p : Plant) : Plant :=
  (p.setLoad n Load.byHandNoMore).enterActive clock n

theorem doCancelPark_accepted (h1 : 1 ≤ n) (h96 : n ≤ 96) (hl : s.load? n = some l) (hstate : l.state = .parkPending) :
    doCancelPark n s = (s.onPlant (Plant.cancelPark s.calendar.clock n)).accept := by
  rw [doCancelPark, State.forLoad_bound h1 h96 hl, if_pos hstate]
  rfl

theorem doCancelPark_refused (h1 : 1 ≤ n) (h96 : n ≤ 96) (hl : s.load? n = some l) (hstate : l.state ≠ .parkPending) :
    doCancelPark n s = s.refuse .wrongState := by
  rw [doCancelPark, State.forLoad_bound h1 h96 hl, if_neg hstate]

theorem Plant.becomes_cancelPark (hp : p.sound) (hl : p.load? n = some l) (hstate : l.state = .parkPending) :
    Plant.Becomes n (fun x => x.byHandNoMore.activeNow) p (p.cancelPark clock n) := by
  have hrests : l.rests := Load.rests_of_state (by simp [hstate]) (by simp [hstate])
  have hset : (p.setLoad n Load.byHandNoMore).sound :=
    Plant.sound_setLoad_rests hp hl hrests (f := Load.byHandNoMore) (fun _ => rfl) hrests
  have hcalm := Plant.calm_enterActive hset (Plant.load?_set (f := Load.byHandNoMore) hl) hrests clock
  rwa [Plant.setLoad_setLoad n Load.byHandNoMore Load.activeNow (fun _ => rfl)] at hcalm

/-- Without a fan of a zone the load alone changes. -/
theorem Plant.cancelPark_plain (hl : p.load? n = some l) (hfan : l.cfg.kind ≠ .fan ∨ l.cfg.zone = 0) :
    p.cancelPark clock n = p.setLoad n (fun x => x.byHandNoMore.activeNow) := by
  have hnone : ¬l.byHandNoMore.isZoneFan := fun h => hfan.elim (fun hk => hk h.1) h.2
  rw [Plant.cancelPark, Plant.enterActive_bound (Plant.load?_set (f := Load.byHandNoMore) hl), if_neg hnone,
    Plant.setLoad_setLoad n Load.byHandNoMore Load.activeNow (fun _ => rfl)]

/-- Settles O49: each request changes its load by the load's state, and else is refused. -/
theorem holdsAndParkingRequests : Obligations.HoldsAndParkingRequests := by
  intro s tag n l hs h1 h96 hl
  refine ⟨?_, ?_, fun hstate => ?_, fun hactive hidling => ?_, fun hstate hp => ?_, fun hstate => ?_⟩
  · rw [exec_hold]
    exact State.perform_loadChanged hs (g := Load.withHost true) (fun _ => rfl) hl
      (State.forLoad_bound (s := s.holding _) h1 h96 hl _)
  · rw [exec_release]
    exact State.perform_loadChanged hs (g := Load.withHost false) (fun _ => rfl) hl
      (State.forLoad_bound (s := s.holding _) h1 h96 hl _)
  · rw [exec_parkNow]
    exact State.perform_loadChanged hs (g := Load.parkedByHand) (fun _ => rfl) hl
      (doParkNow_accepted (s := s.holding _) h1 h96 hl hstate)
  · rw [exec_parkNow]
    exact s.perform_refused hs _ _ .wrongState
      (doParkNow_refused (s := s.holding _) h1 h96 hl fun h => h.elim hactive hidling)
  · obtain ⟨t, ht, hanswers, hblocks⟩ := State.perform_plantChanged hs { kind := 20, tag, payload := [b8 n] }
      (doCancelPark n) (Plant.cancelPark s.calendar.clock n) (doCancelPark_accepted (s := s.holding _) h1 h96 hl hstate)
    have hplant : t.plant = s.plant.cancelPark s.calendar.clock n := congrArg Blocks.plant hblocks
    have hbecomes := Plant.becomes_cancelPark (clock := s.calendar.clock) hp hl hstate
    rw [← hplant] at hbecomes hblocks
    refine ⟨t, ht, hanswers, hbecomes.self hl (fun _ => rfl) nofun, hblocks,
      fun m x hm hx hx' => hbecomes.other (fun _ => rfl) hm hx hx', fun hfan => ⟨fun m hm => ?_, ?_⟩⟩
    · rw [State.load?, hplant, Plant.cancelPark_plain hl hfan]
      exact Plant.load?_set_other (f := fun x => x.byHandNoMore.activeNow) hm
    · rw [hblocks, hplant, Plant.cancelPark_plain hl hfan]
      rfl
  · rw [exec_cancelPark]
    exact s.perform_refused hs _ _ .wrongState (doCancelPark_refused (s := s.holding _) h1 h96 hl hstate)

end

end Sys2Proof.Machine
end

section
/-!
PROOFS. WAKE NOW, the order of wake requests, and what a fan dependency wakes (R69 to R76).
-/

namespace Sys2Proof.Machine

/-! ## The order of wake requests (R69) -/

/-- The order in which wake requests are made: by rank, and among equals by number. -/
abbrev Load.wakesBefore (a b : Load) : Prop :=
  a.cfg.wakeRank < b.cfg.wakeRank ∨ (a.cfg.wakeRank = b.cfg.wakeRank ∧ a.num < b.num)

theorem insertByRank_perm (l : Load) (acc : List Load) : (insertByRank l acc).Perm (l :: acc) := by
  induction acc with
  | nil => exact .refl _
  | cons x rest ih =>
    rw [insertByRank]
    split
    · exact .refl _
    · exact (ih.cons x).trans (.swap l x rest)

/-- A load of a number above all is inserted behind its equals. -/
theorem insertByRank_sorted {l : Load} {acc : List Load} (h : acc.Pairwise Load.wakesBefore)
    (hl : ∀ x ∈ acc, x.num < l.num) : (insertByRank l acc).Pairwise Load.wakesBefore := by
  induction acc with
  | nil => exact List.pairwise_singleton _ _
  | cons x rest ih =>
    obtain ⟨hx, hrest⟩ := List.pairwise_cons.mp h
    rw [insertByRank]
    split
    · next hlow =>
      refine List.pairwise_cons.mpr ⟨fun y hy => .inl ?_, h⟩
      rcases List.mem_cons.mp hy with rfl | hy
      · exact hlow
      · rcases hx y hy with hxy | ⟨hxy, -⟩
        · exact hlow.trans hxy
        · exact hlow.trans_eq hxy
    · next hhigh =>
      refine List.pairwise_cons.mpr ⟨fun y hy => ?_, ih hrest fun y hy => hl y (List.mem_cons_of_mem x hy)⟩
      rcases List.mem_cons.mp ((insertByRank_perm l rest).subset hy) with rfl | hy
      · rcases (Nat.not_lt.mp hhigh).lt_or_eq with hlt | heq
        · exact .inl hlt
        · exact .inr ⟨heq, hl x List.mem_cons_self⟩
      · exact hx y hy

theorem byRank_perm (ls : List Load) : (byRank ls).Perm ls := by
  have hfold (acc : List Load) : (ls.foldl (fun acc l => insertByRank l acc) acc).Perm (acc ++ ls) := by
    induction ls generalizing acc with
    | nil => simp
    | cons l ls ih =>
      refine (ih _).trans (((insertByRank_perm l acc).append_right ls).trans ?_)
      rw [List.cons_append]
      exact List.perm_middle.symm
  exact hfold []

theorem byRank_sorted {ls : List Load} (h : ls.Pairwise (fun a b => a.num < b.num)) :
    (byRank ls).Pairwise Load.wakesBefore := by
  have hfold (acc : List Load) (hacc : acc.Pairwise Load.wakesBefore) (hbelow : ∀ x ∈ acc, ∀ l ∈ ls, x.num < l.num) :
      (ls.foldl (fun acc l => insertByRank l acc) acc).Pairwise Load.wakesBefore := by
    induction ls generalizing acc with
    | nil => exact hacc
    | cons l ls ih =>
      obtain ⟨hl, hls⟩ := List.pairwise_cons.mp h
      refine ih hls _ (insertByRank_sorted hacc fun x hx => hbelow x hx l List.mem_cons_self) fun x hx y hy => ?_
      rcases List.mem_cons.mp ((insertByRank_perm l acc).subset hx) with rfl | hx
      · exact hl y hy
      · exact hbelow x hx y (List.mem_cons_of_mem l hy)
  exact hfold [] .nil fun x hx => absurd hx List.not_mem_nil

section

variable {p q : Plant} {s : State} {n k : Nat} {l x f : Load} {i : FeederId} {clock : Option Clock} {fans : List Load}

/-! ## What a wake request without judgement leaves (R70, R71) -/

/-- A load that no wake of another touches: not WAKE_QUEUED, or still awaiting a fan. -/
abbrev Load.settled (x : Load) : Prop := x.state ≠ .wakeQueued ∨ x.awaitingFan = true

theorem Load.Grants.eq {x y : Load} (h : x.Grants y) (hx : x.settled) : y = x := by
  refine h.resolve_right fun ⟨hstate, _, hfan, _⟩ => ?_
  rcases hx with hx | hx
  · exact hx hstate
  · rw [hfan] at hx
    exact Bool.false_ne_true hx

theorem Plant.load?_queueUp_other (h : k ≠ l.num) : (p.queueUp l).load? k = p.load? k := by
  rw [Plant.load?_of_loads (p.queueUp_loads l)]
  exact Plant.load?_set_other (f := Load.queuedNow) h

theorem Plant.grantAttempt_settled (hp : p.sound) (hx : p.load? k = some x) (hsettled : x.settled) :
    (p.grantAttempt clock i).load? k = some x := by
  obtain ⟨y, hy, hgrants⟩ := (Plant.moves_grantAttempt clock i hp).loads.bound Load.Grants.num hx
  rwa [hgrants.eq hsettled] at hy

/-- A wake request leaves every other settled load. -/
theorem Plant.wakePlain_other (hp : p.sound) (h : k ≠ n) (hx : p.load? k = some x) (hsettled : x.settled) :
    (p.wakePlain clock n).load? k = some x := by
  have hset : (p.setLoad n (fun l => { l with wakeDue := true })).load? k = some x :=
    (Plant.load?_set_other h).trans hx
  rw [Plant.wakePlain, Plant.wakeBy]
  split
  · exact hx
  · next l hl =>
    obtain rfl := Plant.load?_num hl
    split
    · next hstate =>
      exact Plant.grantAttempt_settled (Plant.moves_queueUp hp hl hstate).sound
        ((Plant.load?_queueUp_other h).trans hx) hsettled
    · exact hset
    · split
      · exact hset
      · exact hx
    · exact hx

/-- A PARKED load is on its way after a wake request without judgement, and awaits no fan that it did not await. -/
theorem Plant.wakePlain_parked (hp : p.sound) (hl : p.load? n = some l) (hstate : l.state = .parked) :
    ∃ m, (p.wakePlain clock n).load? n = some m ∧ m.onItsWay ∧ m.wakeDue = false ∧ m.core = l.core ∧
      (l.awaitingFan = false → m.awaitingFan = false) := by
  obtain rfl := Plant.load?_num hl
  have hqueue := Plant.moves_queueUp hp hl hstate
  rw [Plant.wakePlain, Plant.wakeBy_parked hl hstate, Plant.joinPlain_eq]
  obtain ⟨m, hm, hcalm⟩ := (Plant.calm_grantAttempt clock l.cfg.feeder hqueue.sound).loads.bound Load.Calm.num
    (Plant.load?_queueUp hl)
  refine ⟨m, hm, ?_⟩
  rcases hcalm with rfl | ⟨-, hway, hcore, hdue, hfan⟩
  · exact ⟨.inl rfl, rfl, rfl, id⟩
  · exact ⟨hway, hdue, hcore, hfan⟩

/-- A load in PARKING, or OFFLINE and park-owned: a wake request only notes that the load is to wake. -/
abbrev Load.wakesLater (l : Load) : Prop := (∃ step, l.state = .parking step) ∨ (l.state = .offline ∧ l.parkOwned = true)

theorem Plant.wakeBy_later {join : Load → Plant → Plant} (hl : p.load? n = some l) (h : l.wakesLater) :
    p.wakeBy join n = p.setLoad n (fun l => { l with wakeDue := true }) := by
  rcases h with ⟨step, hstate⟩ | ⟨hstate, hown⟩
  · exact Plant.wakeBy_parking hl hstate join
  · exact Plant.wakeBy_owned hl hstate hown join

theorem Load.Woken.later {x y : Load} (h : x.Woken y) (hlater : x.wakesLater) : y = x ∨ y = { x with wakeDue := true } := by
  have hmove := h.2
  rcases hlater with ⟨step, hstate⟩ | ⟨hstate, -⟩
  · rwa [hstate] at hmove ⊢
  · rw [hstate] at hmove ⊢
    exact hmove.imp_right And.right

/-! ## The wakes of a zone's fans (R76) -/

theorem Plant.wakeFans_other (hp : p.sound) (h : ∀ fan ∈ fans, fan.num ≠ k) (hx : p.load? k = some x)
    (hsettled : x.settled) : (p.wakeFans clock fans).load? k = some x := by
  induction fans generalizing p with
  | nil => exact hx
  | cons fan fans ih =>
    exact ih (Plant.moves_wakePlain clock fan.num hp).sound (fun y hy => h y (List.mem_cons_of_mem fan hy))
      (Plant.wakePlain_other hp (h fan List.mem_cons_self).symm hx hsettled)

/-- The wakes of fans up to the first of a number, its own, and those after it. -/
theorem Plant.wakeFans_split (hp : p.sound) (hk : k ∈ fans.map Load.num) (hx : p.load? k = some x) (hsettled : x.settled) :
    ∃ (before : List Load) (after : List Load), (p.wakeFans clock before).sound ∧
      (p.wakeFans clock before).load? k = some x ∧
      p.wakeFans clock fans = ((p.wakeFans clock before).wakePlain clock k).wakeFans clock after := by
  induction fans generalizing p with
  | nil => exact absurd hk List.not_mem_nil
  | cons fan fans ih =>
    by_cases hfan : fan.num = k
    · subst hfan
      exact ⟨[], fans, hp, hx, rfl⟩
    · have hrest : k ∈ fans.map Load.num := (List.mem_cons.mp hk).resolve_left fun h => hfan h.symm
      obtain ⟨before, after, hsound, hload, heq⟩ := ih (Plant.moves_wakePlain clock fan.num hp).sound hrest
        (Plant.wakePlain_other hp (Ne.symm hfan) hx hsettled)
      exact ⟨fan :: before, after, hsound, hload, heq⟩

theorem Plant.wakeFans_parked (hp : p.sound) (hk : k ∈ fans.map Load.num) (hx : p.load? k = some x)
    (hstate : x.state = .parked) :
    ∃ g, (p.wakeFans clock fans).load? k = some g ∧ g.onItsWay ∧ g.wakeDue = false ∧ g.core = x.core := by
  obtain ⟨before, after, hsound, hload, heq⟩ := Plant.wakeFans_split (clock := clock) hp hk hx (.inl (by simp [hstate]))
  obtain ⟨m, hm, hway, hdue, hcore, -⟩ := Plant.wakePlain_parked (clock := clock) hsound hload hstate
  obtain ⟨g, hg, hwoken⟩ := (Plant.moves_wakeFans clock after (Plant.moves_wakePlain clock k hsound).sound).loads.bound
    Load.Woken.num hm
  obtain ⟨gway, gdue⟩ := hwoken.onItsWay hway
  exact ⟨g, heq ▸ hg, gway, gdue.trans hdue, hwoken.1.trans hcore⟩

theorem Plant.wakeFans_later (hp : p.sound) (hk : k ∈ fans.map Load.num) (hx : p.load? k = some x) (hlater : x.wakesLater) :
    (p.wakeFans clock fans).load? k = some { x with wakeDue := true } := by
  have hsettled : x.state ≠ .wakeQueued := by
    rcases hlater with ⟨step, h⟩ | ⟨h, -⟩ <;> simp [h]
  obtain ⟨before, after, hsound, hload, heq⟩ := Plant.wakeFans_split (clock := clock) hp hk hx (.inl hsettled)
  have hm : ((p.wakeFans clock before).wakePlain clock k).load? k = some { x with wakeDue := true } := by
    rw [Plant.wakePlain, Plant.wakeBy_later hload hlater]
    exact Plant.load?_set (f := fun l => { l with wakeDue := true }) hload
  obtain ⟨g, hg, hwoken⟩ := (Plant.moves_wakeFans clock after (Plant.moves_wakePlain clock k hsound).sound).loads.bound
    Load.Woken.num hm
  have hg' : g = { x with wakeDue := true } := (hwoken.later hlater).elim id id
  rw [heq, hg, hg']

/-! ## The queue of a feeder whose spacing timer runs (R73, R83) -/

/-- A feeder whose spacing timer runs makes no grant: a wake only lengthens its queue. -/
theorem Plant.feeder_grantAttempt_spaced (j : FeederId) (h : (p.feeder i).spacingTimer ≠ none) :
    (p.grantAttempt clock j).feeder i = p.feeder i := by
  by_cases hj : i = j
  · subst hj
    rw [Plant.grantAttempt_spaced clock i p (Option.isSome_iff_ne_none.mpr h)]
  · exact Plant.feeder_grantAttempt_other clock hj p

theorem Plant.feeder_queueUp (l : Load) (p : Plant) : (p.queueUp l).feeder i =
    { p.feeder i with
      queue := (p.feeder i).queue ++ if l.cfg.feeder = i then [{ load := l.num, passed := 0 }] else [] } := by
  have hset : (p.queueUp l).feeder i = (p.setFeeder l.cfg.feeder
      (fun f => { f with queue := f.queue ++ [{ load := l.num, passed := 0 }] })).feeder i := rfl
  rw [hset]
  by_cases hi : i = l.cfg.feeder
  · subst hi
    rw [if_pos rfl, Plant.feeder_setFeeder_self]
  · rw [if_neg fun h => hi h.symm, List.append_nil, Plant.feeder_setFeeder_other p hi]

theorem Plant.feeder_wakePlain (hx : p.load? n = some x) (h : (p.feeder i).spacingTimer ≠ none) :
    (p.wakePlain clock n).feeder i =
      { p.feeder i with
        queue := (p.feeder i).queue ++
          if x.state = .parked ∧ x.cfg.feeder = i then [{ load := n, passed := 0 }] else [] } := by
  by_cases hstate : x.state = .parked
  · obtain rfl := Plant.load?_num hx
    have hqueue := Plant.feeder_queueUp (i := i) x p
    rw [Plant.wakePlain, Plant.wakeBy_parked hx hstate, Plant.joinPlain_eq,
      Plant.feeder_grantAttempt_spaced x.cfg.feeder (by rw [hqueue]; exact h), hqueue]
    simp only [hstate, true_and]
  · rw [if_neg fun hand => hstate hand.1, List.append_nil, Plant.wakePlain]
    simp only [Plant.wakeBy, hx]
    split
    · next hparked => exact absurd hparked hstate
    · rfl
    · split <;> rfl
    · rfl

/-- A load that stands in the plant with the same place and rank as before, and is PARKED if it was. -/
def Plant.standsAs (q : Plant) (fan : Load) : Prop :=
  ∃ x, q.load? fan.num = some x ∧ (x.state = .parked ↔ fan.state = .parked) ∧ x.cfg = fan.cfg

theorem Plant.standsAs_wakePlain (hq : q.sound) (h : f.num ≠ n) (hstands : q.standsAs f) :
    (q.wakePlain clock n).standsAs f := by
  obtain ⟨x, hx, hparked, hcfg⟩ := hstands
  by_cases hstate : x.state = .wakeQueued
  · obtain ⟨y, hy, hwoken⟩ := (Plant.moves_wakePlain clock n hq).loads.bound Load.Woken.num hx
    have hycfg : y.cfg = x.cfg := by
      have := congrArg Load.cfg hwoken.1
      exact this
    refine ⟨y, hy, iff_of_false (fun hy => ?_) fun hf => ?_, hycfg.trans hcfg⟩
    · rcases (hwoken.onItsWay (.inl hstate)).1 with h | ⟨w, h⟩ <;> simp [h] at hy
    · rw [hparked.mpr hf] at hstate
      exact LoadState.noConfusion hstate
  · exact ⟨x, Plant.wakePlain_other hq h hx (.inl hstate), hparked, hcfg⟩

theorem Plant.feeder_wakeFans (hq : q.sound) (hnodup : (fans.map Load.num).Nodup) (hstands : ∀ fan ∈ fans, q.standsAs fan)
    (h : (q.feeder i).spacingTimer ≠ none) : (q.wakeFans clock fans).feeder i =
      { q.feeder i with
        queue := (q.feeder i).queue ++
          (fans.filter (fun fan => fan.state == .parked && fan.cfg.feeder == i)).map (fun fan => { load := fan.num, passed := 0 }) } := by
  induction fans generalizing q with
  | nil => simp [Plant.wakeFans]
  | cons fan fans ih =>
    obtain ⟨hfan, hfans⟩ := List.nodup_cons.mp hnodup
    obtain ⟨x, hx, hparked, hcfg⟩ := hstands fan List.mem_cons_self
    have hstep := Plant.feeder_wakePlain (clock := clock) hx h
    have hrest := ih (q := q.wakePlain clock fan.num) (Plant.moves_wakePlain clock fan.num hq).sound hfans
      (fun y hy => Plant.standsAs_wakePlain hq (fun heq => hfan (heq ▸ List.mem_map_of_mem hy))
        (hstands y (List.mem_cons_of_mem fan hy))) (by rw [hstep]; exact h)
    rw [Plant.wakeFans, List.foldl_cons]
    refine hrest.trans ?_
    rw [hstep, List.filter_cons]
    by_cases hjoin : x.state = .parked ∧ x.cfg.feeder = i
    · have hbool : (fan.state == .parked && fan.cfg.feeder == i) = true := by
        simp [← hparked, ← hcfg, hjoin.1, hjoin.2]
      simp [hjoin, hbool]
    · have hbool : ¬(fan.state == .parked && fan.cfg.feeder == i) = true := by
        simpa [← hparked, ← hcfg] using hjoin
      simp [if_neg hjoin, hbool]

/-! ## A wake that needs a fan (R76) -/

/-- The load awaits a fan of its zone. -/
def Load.awaits (l : Load) : Load := { l with awaitingFan := true }

theorem servesZone_iff {z : Nat} {f : Load} : servesZone z f = true ↔ f.cfg.kind = .fan ∧ f.cfg.zone = z := by
  simp [servesZone]

/-- The join of a load that is no fan leaves the fans. -/
theorem Plant.queueUp_fans (hp : p.numbered) (hl : p.load? l.num = some l) (hkind : l.cfg.kind ≠ .fan) (z : Nat) :
    (p.queueUp l).loads.filter (servesZone z) = p.loads.filter (servesZone z) := by
  rw [Plant.queueUp_loads, Plant.setLoad, List.filter_map]
  have hsame : servesZone z ∘ (fun x => if x.num == l.num then Load.queuedNow x else x) = servesZone z := by
    funext x
    simp only [Function.comp_apply]
    split <;> rfl
  rw [hsame]
  refine (List.map_congr_left fun x hx => ?_).trans (List.map_id _)
  obtain ⟨hmem, hserves⟩ := List.mem_filter.mp hx
  refine if_neg fun hnum => hkind ?_
  have hload := Plant.load?_of_mem hp hmem
  rw [beq_iff_eq.mp hnum, hl] at hload
  rw [Option.some.inj hload]
  exact (servesZone_iff.mp hserves).1

theorem Load.isAssessed_eq_false (h : x.state ≠ .active ∧ x.state ≠ .idling ∧ x.state ≠ .parkPending) : x.isAssessed = false := by
  rw [Load.isAssessed_eq]
  simp [h]

/-- A load that is no fan awaits one, where its zone has fans and none runs. -/
theorem Plant.queueUp_needsFan (hp : p.numbered) (hl : p.load? l.num = some l) (hkind : l.cfg.kind ≠ .fan)
    (hzone : l.cfg.zone ≠ 0) (hserved : ∃ f ∈ p.loads, f.cfg.kind = .fan ∧ f.cfg.zone = l.cfg.zone)
    (hresting : ∀ f ∈ p.loads, f.cfg.kind = .fan → f.cfg.zone = l.cfg.zone →
      f.state ≠ .active ∧ f.state ≠ .idling ∧ f.state ≠ .parkPending) : (p.queueUp l).needsFan l = true := by
  have hfans (f : Load) : (f ∈ (p.queueUp l).loads ∧ servesZone l.cfg.zone f = true) ↔
      (f ∈ p.loads ∧ servesZone l.cfg.zone f = true) := by
    rw [← List.mem_filter, ← List.mem_filter, Plant.queueUp_fans hp hl hkind]
  have hany : (p.queueUp l).loads.any (servesZone l.cfg.zone) = true := by
    obtain ⟨f, hf, hserves⟩ := hserved
    obtain ⟨hmem, hserves⟩ := (hfans f).mpr ⟨hf, servesZone_iff.mpr hserves⟩
    exact List.any_eq_true.mpr ⟨f, hmem, hserves⟩
  have hnone : (p.queueUp l).loads.any (fun f => servesZone l.cfg.zone f && f.isAssessed) = false := by
    refine List.any_eq_false.mpr fun f hf hboth => ?_
    obtain ⟨hserves, hrunning⟩ := Bool.and_eq_true_iff.mp hboth
    obtain ⟨hmem, -⟩ := (hfans f).mp ⟨hf, hserves⟩
    obtain ⟨hfan, hat⟩ := servesZone_iff.mp hserves
    rw [Load.isAssessed_eq_false (hresting f hmem hfan hat)] at hrunning
    exact Bool.false_ne_true hrunning
  simp [Plant.needsFan, hkind, hzone, hany, hnone]

/-- The plant in which the load has joined its queue and awaits a fan. -/
def Plant.queueAwaiting (l : Load) (p : Plant) : Plant := (p.queueUp l).setLoad l.num Load.awaits

theorem Plant.queueAwaiting_sound (hp : p.sound) (hl : p.load? l.num = some l) (hstate : l.state = .parked) :
    (p.queueAwaiting l).sound :=
  Plant.SameUnits.sound (Plant.sameUnits_setLoad l.num _ (p.queueUp l)) (Plant.moves_queueUp hp hl hstate).sound

theorem Plant.load?_queueAwaiting (hl : p.load? l.num = some l) :
    (p.queueAwaiting l).load? l.num = some l.queuedNow.awaits ∧
      ∀ k, k ≠ l.num → (p.queueAwaiting l).load? k = p.load? k :=
  ⟨Plant.load?_set (f := Load.awaits) (Plant.load?_queueUp hl), fun _ hk =>
    (Plant.load?_set_other (f := Load.awaits) hk).trans (Plant.load?_queueUp_other hk)⟩

theorem Plant.wake_needing (hp : p.numbered) (hl : p.load? l.num = some l) (hstate : l.state = .parked)
    (hkind : l.cfg.kind ≠ .fan) (hneeds : (p.queueUp l).needsFan l = true) : p.wake clock l.num =
      ((p.queueAwaiting l).wakeFans clock (byRank (p.loads.filter (servesZone l.cfg.zone)))).grantAttempt clock l.cfg.feeder := by
  rw [Plant.wake, Plant.wakeBy_parked hl hstate, Plant.joinJudged_eq, Plant.judgeFan, if_pos hneeds,
    Plant.queueUp_fans hp hl hkind]
  rfl

/-- The fans of a zone in the order of their wakes. -/
abbrev Plant.fansOf (p : Plant) (z : Nat) : List Load := byRank (p.loads.filter (servesZone z))

theorem Plant.mem_fansOf {z : Nat} : f ∈ p.fansOf z ↔ f ∈ p.loads ∧ servesZone z f = true := by
  rw [(byRank_perm _).mem_iff, List.mem_filter]

theorem Plant.mem_fansOf_num {z : Nat} (hf : p.load? k = some f) (hserves : servesZone z f = true) :
    k ∈ (p.fansOf z).map Load.num :=
  List.mem_map.mpr ⟨f, Plant.mem_fansOf.mpr ⟨Plant.mem_of_load? hf, hserves⟩, Plant.load?_num hf⟩

theorem Plant.fansOf_num_ne {z : Nat} (hp : p.numbered) (hx : p.load? k = some x) (hserves : servesZone z x = false) :
    ∀ fan ∈ p.fansOf z, fan.num ≠ k := by
  intro fan hfan hnum
  obtain ⟨hmem, hfan⟩ := Plant.mem_fansOf.mp hfan
  have hload := Plant.load?_of_mem hp hmem
  rw [hnum, hx] at hload
  rw [Option.some.inj hload, hfan] at hserves
  exact Bool.false_ne_true hserves.symm

theorem Plant.fansOf_nodup {z : Nat} (hp : p.numbered) : ((p.fansOf z).map Load.num).Nodup := by
  refine ((byRank_perm _).map Load.num).nodup_iff.mpr ?_
  have hsorted : (p.loads.filter (servesZone z)).Pairwise (fun a b => a.num < b.num) := hp.1.sublist List.filter_sublist
  exact List.pairwise_map.mpr (hsorted.imp Nat.ne_of_lt)

end

end Sys2Proof.Machine
end

section
/-!
PROOFS. WAKE NOW by the state of its load (R70, R71, R76).
-/

namespace Sys2Proof.Machine

section

variable {p : Plant} {s : State} {n k : Nat} {l x f : Load} {i : FeederId} {clock : Option Clock}

/-- The wake that WAKE NOW makes, with and without the override (R71). -/
def Plant.wakeNow (clock : Option Clock) (override : Bool) (n : Nat) (p : Plant) : Plant :=
  if override then p.wakePlain clock n else p.wake clock n

theorem exec_wakeNow (tag : Byte) (n o : Nat) (s : State) : exec (.wakeNow tag n o) s =
    s.perform (State.request { kind := 21, tag, payload := [b8 n, b8 o] } (doWakeNow n o)) := rfl

theorem doWakeNow_range (h1 : 1 ≤ n) (h96 : n ≤ 96) (hl : s.load? n = some l) {o : Nat} (ho : 1 < o) :
    doWakeNow n o s = s.refuse .range := by
  rw [doWakeNow, State.forLoad_bound h1 h96 hl, bool?_of_lt ho]

theorem doWakeNow_bound (h1 : 1 ≤ n) (h96 : n ≤ 96) (hl : s.load? n = some l) (o : Bool) :
    doWakeNow n o.toNat s = (s.onPlant (Plant.wakeNow s.calendar.clock o n), .plain l.wakeCode) := by
  rw [doWakeNow, State.forLoad_bound h1 h96 hl, bool?_toNat]
  cases o <;> rfl

theorem exec_wakeNow_answers (hs : s.ready) (h1 : 1 ≤ n) (h96 : n ≤ 96) (hl : s.load? n = some l) (tag : Byte) (o : Bool) :
    ∃ t, exec (.wakeNow tag n o.toNat) s = .next t ∧ t.answers 21 tag l.wakeCode [] ∧
      t.blocks = { s.blocks with plant := s.plant.wakeNow s.calendar.clock o n } := by
  obtain ⟨t, ht, hblocks, hanswers, -⟩ := s.perform_request hs { kind := 21, tag, payload := [b8 n, b8 o.toNat] } (doWakeNow n o.toNat)
  rw [doWakeNow_bound (s := s.holding _) h1 h96 hl o] at hblocks hanswers
  exact ⟨t, ht, hanswers, hblocks⟩

theorem Plant.wakeNow_later (hl : p.load? n = some l) (h : l.wakesLater) (o : Bool) :
    p.wakeNow clock o n = p.setLoad n (fun l => { l with wakeDue := true }) := by
  cases o <;> exact Plant.wakeBy_later hl h

theorem Plant.wakeNow_nothing (hl : p.load? n = some l) (hparked : l.state ≠ .parked) (h : ¬l.wakesLater) (o : Bool) :
    p.wakeNow clock o n = p := by
  have hparking (step : ParkStep) : l.state ≠ .parking step := fun hs => h (.inl ⟨step, hs⟩)
  cases o <;> exact Plant.wakeBy_other hl hparked hparking (fun hown => h (.inr hown)) _

/-- What WAKE NOW makes of the PARKED load it names. -/
theorem Plant.wakeNow_parked (hp : p.sound) (hl : p.load? n = some l) (hstate : l.state = .parked) (o : Bool) :
    ∃ m, (p.wakeNow clock o n).load? n = some m ∧ m.onItsWay ∧ m.wakeDue = false ∧ m.core = l.core ∧
      (o = true → l.awaitingFan = false → m.awaitingFan = false) := by
  cases o with
  | false =>
    obtain ⟨m, hm, hway, hdue, hcore⟩ := Plant.wake_parked clock hp hl hstate
    exact ⟨m, hm, hway, hdue, hcore, nofun⟩
  | true =>
    obtain ⟨m, hm, hway, hdue, hcore, hfan⟩ := Plant.wakePlain_parked (clock := clock) hp hl hstate
    exact ⟨m, hm, hway, hdue, hcore, fun _ => hfan⟩

/-- What the wake of a load that awaits a fan leaves: the load in its queue, and the fans' wakes (R76). -/
theorem Plant.wake_awaiting (hp : p.sound) (hl : p.load? l.num = some l) (hstate : l.state = .parked)
    (hkind : l.cfg.kind ≠ .fan) (hneeds : (p.queueUp l).needsFan l = true) :
    (p.wake clock l.num).load? l.num = some l.queuedNow.awaits ∧
      (∀ k f, p.load? k = some f → servesZone l.cfg.zone f = true →
        (f.state = .parked → ∃ g, (p.wake clock l.num).load? k = some g ∧ g.onItsWay ∧ g.wakeDue = false ∧ g.core = f.core) ∧
        (f.wakesLater → (p.wake clock l.num).load? k = some { f with wakeDue := true })) ∧
      ∀ k x, k ≠ l.num → p.load? k = some x → servesZone l.cfg.zone x = false → x.state ≠ .wakeQueued →
        (p.wake clock l.num).load? k = some x := by
  have hq := Plant.queueAwaiting_sound hp hl hstate
  obtain ⟨hself, hothers⟩ := Plant.load?_queueAwaiting hl
  have hwoken := Plant.moves_wakeFans clock (p.fansOf l.cfg.zone) hq
  rw [Plant.wake_needing hp.numbered hl hstate hkind hneeds]
  have hnotfan : servesZone l.cfg.zone l = false := Bool.eq_false_iff.mpr fun h => hkind (servesZone_iff.mp h).1
  have hne {k : Nat} {f : Load} (hf : p.load? k = some f) (hserves : servesZone l.cfg.zone f = true) : k ≠ l.num := by
    rintro rfl
    rw [Option.some.inj (hf.symm.trans hl), hnotfan] at hserves
    exact Bool.false_ne_true hserves
  refine ⟨?_, fun k f hf hserves => ⟨fun hparked => ?_, fun hlater => ?_⟩, fun k x hk hx hserves hqueued => ?_⟩
  · exact Plant.grantAttempt_settled hwoken.sound
      (Plant.wakeFans_other hq (Plant.fansOf_num_ne hp.numbered hl hnotfan) hself (.inr rfl)) (.inr rfl)
  · obtain ⟨g, hg, hway, hdue, hcore⟩ := Plant.wakeFans_parked (clock := clock) hq (Plant.mem_fansOf_num hf hserves)
      ((hothers k (hne hf hserves)).trans hf) hparked
    obtain ⟨y, hy, hcalm⟩ := (Plant.calm_grantAttempt clock l.cfg.feeder hwoken.sound).loads.bound Load.Calm.num hg
    obtain ⟨yway, ydue⟩ := (Load.Woken.of_calm g y hcalm).onItsWay hway
    exact ⟨y, hy, yway, ydue.trans hdue, (Load.Woken.of_calm g y hcalm).1.trans hcore⟩
  · have hload := Plant.wakeFans_later (clock := clock) hq (Plant.mem_fansOf_num hf hserves)
      ((hothers k (hne hf hserves)).trans hf) hlater
    have hqueued : f.state ≠ .wakeQueued := by
      rcases hlater with ⟨step, h⟩ | ⟨h, -⟩ <;> simp [h]
    exact Plant.grantAttempt_settled hwoken.sound hload (.inl hqueued)
  · exact Plant.grantAttempt_settled hwoken.sound (Plant.wakeFans_other hq (Plant.fansOf_num_ne hp.numbered hx hserves)
      ((hothers k hk).trans hx) (.inl hqueued)) (.inl hqueued)

/-- How the queue of a feeder whose spacing timer runs grows (R73, R76). -/
theorem Plant.wake_awaiting_queue (hp : p.sound) (hl : p.load? l.num = some l) (hstate : l.state = .parked)
    (hkind : l.cfg.kind ≠ .fan) (hneeds : (p.queueUp l).needsFan l = true) (h : (p.feeder i).spacingTimer ≠ none) :
    ((p.wake clock l.num).feeder i).queue = (p.feeder i).queue ++
      (if l.cfg.feeder = i then [{ load := l.num, passed := 0 }] else []) ++
      ((p.fansOf l.cfg.zone).filter (fun f => f.state == .parked && f.cfg.feeder == i)).map
        (fun f => { load := f.num, passed := 0 }) := by
  have hq := Plant.queueAwaiting_sound hp hl hstate
  obtain ⟨-, hothers⟩ := Plant.load?_queueAwaiting hl
  have hfeeder : (p.queueAwaiting l).feeder i = _ := Plant.feeder_queueUp l p
  have hstands (f : Load) (hf : f ∈ p.fansOf l.cfg.zone) : (p.queueAwaiting l).standsAs f := by
    obtain ⟨hmem, hserves⟩ := Plant.mem_fansOf.mp hf
    have hload := Plant.load?_of_mem hp.numbered hmem
    refine ⟨f, (hothers f.num fun hnum => hkind ?_).trans hload, .rfl, rfl⟩
    rw [hnum, hl] at hload
    rw [Option.some.inj hload]
    exact (servesZone_iff.mp hserves).1
  have hspaced : ((p.queueAwaiting l).feeder i).spacingTimer ≠ none := by
    rw [hfeeder]
    exact h
  have hwoken := Plant.feeder_wakeFans (clock := clock) hq (Plant.fansOf_nodup hp.numbered) hstands hspaced
  rw [Plant.wake_needing hp.numbered hl hstate hkind hneeds,
    Plant.feeder_grantAttempt_spaced l.cfg.feeder (by rw [hwoken]; exact hspaced), hwoken, hfeeder]

/-- Settles O50: the wake acts by the load's state, and without the override a load without a running fan awaits one. -/
theorem wakeNowActsByTheState : Obligations.WakeNowActsByTheState := by
  intro s tag n l hs h1 h96 hp hl
  refine ⟨fun o ho => ?_, fun o => ⟨fun hstate => ?_, fun hlater => ?_, fun hway => ?_, fun hother => ?_⟩⟩
  · rw [exec_wakeNow]
    exact s.perform_refused hs _ _ .range (doWakeNow_range (s := s.holding _) h1 h96 hl ho)
  · obtain ⟨t, ht, hanswers, hblocks⟩ := exec_wakeNow_answers hs h1 h96 hl tag o
    have hplant : t.plant = s.plant.wakeNow s.calendar.clock o n := congrArg Blocks.plant hblocks
    obtain ⟨m, hm, hway, hdue, hcore, hfan⟩ := Plant.wakeNow_parked (clock := s.calendar.clock) hp hl hstate o
    have hcode : l.wakeCode = .done := by rw [Load.wakeCode, hstate]
    have hown := congrArg Load.parkOwned hcore
    have hcfg := congrArg Load.cfg hcore
    have hhold := congrArg Load.hold hcore
    rw [← hplant] at hblocks hm
    rw [hcode] at hanswers
    refine ⟨t, m, ht, hanswers, hm, hway, hdue, hown, hcfg, hhold, hblocks, hfan, fun ho k x hk hx hqueued => ?_,
      fun ho hkind hzone hserved hresting => ?_⟩
    · rw [State.load?, hplant, ho]
      exact Plant.wakePlain_other hp hk hx (.inl hqueued)
    · obtain rfl := Plant.load?_num hl
      have hneeds := Plant.queueUp_needsFan hp.numbered hl hkind hzone hserved hresting
      obtain ⟨hself, hfans, hothers⟩ := Plant.wake_awaiting (clock := s.calendar.clock) hp hl hstate hkind hneeds
      have hmoves := Plant.moves_wake s.calendar.clock l.num hp
      have hwake : t.plant = s.plant.wake s.calendar.clock l.num := by rw [hplant, ho]; rfl
      rw [← hwake] at hself hfans hothers hmoves
      obtain rfl : m = l.queuedNow.awaits := Option.some.inj (hm.symm.trans hself)
      refine ⟨rfl, rfl, fun k f hf hserves => ⟨fun hparked => ?_, (hfans k f hf hserves).2, fun hkept => ?_⟩, hothers,
        fun i hspaced => ?_⟩
      · obtain ⟨g, hg, gway, gdue, gcore⟩ := (hfans k f hf hserves).1 hparked
        have gcfg := congrArg Load.cfg gcore
        exact ⟨g, hg, gway, gdue, gcfg⟩
      · obtain ⟨y, hy, hwoken⟩ := hmoves.loads.bound Load.Woken.num hf
        have hmove := hwoken.2
        have hsame : y = f := by
          rcases hkept with ⟨w, h⟩ | h | h | ⟨h, hnot⟩
          · rwa [h] at hmove
          · rwa [h] at hmove
          · rwa [h] at hmove
          · rw [h] at hmove
            refine hmove.resolve_right fun hown => ?_
            rw [hnot] at hown
            exact Bool.false_ne_true hown.1
        rwa [hsame] at hy
      · refine ⟨(s.plant.fansOf l.cfg.zone).filter (fun f => f.state == .parked && f.cfg.feeder == i), ?_, ?_, ?_⟩
        · have hfilter := (byRank_perm (s.plant.loads.filter (servesZone l.cfg.zone))).filter
            (fun f => f.state == .parked && f.cfg.feeder == i)
          rw [List.filter_filter] at hfilter
          refine hfilter.trans (.of_eq (List.filter_congr fun f _ => ?_))
          rw [Bool.and_comm, ← Bool.and_assoc]
          rfl
        · have hsorted : (s.plant.loads.filter (servesZone l.cfg.zone)).Pairwise (fun a b => a.num < b.num) :=
            hp.numbered.1.sublist List.filter_sublist
          exact (byRank_sorted hsorted).sublist List.filter_sublist
        · rw [hwake]
          exact Plant.wake_awaiting_queue hp hl hstate hkind hneeds hspaced
  · obtain ⟨t, ht, hanswers, hblocks⟩ := exec_wakeNow_answers hs h1 h96 hl tag o
    have hcode : l.wakeCode = .deferred := by
      rcases hlater with ⟨step, hstate⟩ | ⟨hstate, hown⟩ <;> simp [Load.wakeCode, *]
    rw [hcode] at hanswers
    rw [Plant.wakeNow_later hl hlater] at hblocks
    exact ⟨t, ht, hanswers, hblocks⟩
  · obtain ⟨t, ht, hanswers, hblocks⟩ := exec_wakeNow_answers hs h1 h96 hl tag o
    have hcode : l.wakeCode = .done := by
      rcases hway with hstate | ⟨w, hstate⟩ <;> simp [Load.wakeCode, hstate]
    have hparked : l.state ≠ .parked := by
      rcases hway with hstate | ⟨w, hstate⟩ <;> simp [hstate]
    have hlater : ¬l.wakesLater := by
      rcases hway with hstate | ⟨w, hstate⟩ <;> simp [Load.wakesLater, hstate]
    rw [hcode] at hanswers
    rw [Plant.wakeNow_nothing hl hparked hlater] at hblocks
    exact ⟨t, ht, hblocks, hanswers⟩
  · obtain ⟨t, ht, hanswers, hblocks⟩ := exec_wakeNow_answers hs h1 h96 hl tag o
    have hcode : l.wakeCode = .wrongState := by
      rcases hother with ⟨h, hown⟩ | h | h | h | h | h <;> simp [Load.wakeCode, *]
    have hparked : l.state ≠ .parked := by
      rcases hother with ⟨h, -⟩ | h | h | h | h | h <;> simp [h]
    have hlater : ¬l.wakesLater := by
      rcases hother with ⟨h, hown⟩ | h | h | h | h | h <;> simp [Load.wakesLater, *]
    rw [hcode] at hanswers
    rw [Plant.wakeNow_nothing hl hparked hlater] at hblocks
    exact ⟨t, ht, hblocks, hanswers⟩

end

end Sys2Proof.Machine
end

section
/-!
PROOFS. The wakes of a lapse and of a curfew close (R69, R102, R152).
-/

namespace Sys2Proof.Machine

section

variable {s t : State} {n : Nat} {l : Load}

/-! ## The blocks after a command -/

theorem State.perform_blocks {effect : State → State} (h : s.perform effect = .next t) :
    t.blocks = s.blocks ∨ (s.inReset = false ∧ t.blocks = (effect s).blocks) := by
  cases hs : s.inReset with
  | true =>
    rw [State.perform_in hs] at h
    cases h
    exact .inl rfl
  | false =>
    rw [State.perform_out hs] at h
    cases h
    exact .inr ⟨rfl, rfl⟩

theorem State.request_blocks (hreply : s.link.reply = none) (f : Frame) (effect : State → State × Answer) :
    (State.request f effect s).blocks = (effect (s.holding f)).1.blocks := by
  simp only [State.request, s.drain_idle hreply]
  rfl

/-! ## The wakes of a lapse (R152) -/

/-- A step by which the monitor lapses changes the plant by the fallback wakes alone. -/
def State.WakesAtLapse (s t : State) : Prop :=
  s.assent.state ≠ .lapsed → t.assent.state = .lapsed →
    t.plant = s.plant.wakeAll s.calendar.clock (s.plant.batch (fun l => l.cfg.fallbackWake))

theorem State.WakesAtLapse.of_state {s t : State} (h : t.assent.state = s.assent.state) : s.WakesAtLapse t :=
  fun hrun hlapsed => absurd (h.symm.trans hlapsed) hrun

theorem State.WakesAtLapse.of_running {s t : State} (h : t.assent.state ≠ .lapsed) : s.WakesAtLapse t :=
  fun _ hlapsed => absurd hlapsed h

theorem State.WakesAtLapse.of_blocks {s u v : State} (h : s.WakesAtLapse u) (hv : v.blocks = u.blocks) : s.WakesAtLapse v := by
  intro hrun hlapsed
  have hassent := congrArg Blocks.assent hv
  have hplant := congrArg Blocks.plant hv
  rw [State.blocks_assent, State.blocks_assent] at hassent
  rw [State.blocks_plant, State.blocks_plant] at hplant
  rw [hplant]
  exact h hrun (hassent ▸ hlapsed)

theorem State.WakesAtLapse.from_blocks {s u v : State} (h : u.WakesAtLapse v) (hplant : u.plant = s.plant)
    (hcalendar : u.calendar = s.calendar) (hstate : u.assent.state = s.assent.state) : s.WakesAtLapse v := by
  intro hrun hlapsed
  have := h (hstate ▸ hrun) hlapsed
  rwa [hplant, hcalendar] at this

/-- The lapse itself (R151, R152). -/
theorem State.lapse_plant (byCount : Bool) (s : State) : (s.lapse byCount).plant =
    s.plant.wakeAll s.calendar.clock (s.plant.batch (fun l => l.cfg.fallbackWake)) := by
  have hblocks := (s.lapseBegun_stepped byCount).blocks
  have hplant := congrArg Blocks.plant hblocks
  have hcalendar := congrArg Blocks.calendar hblocks
  rw [State.blocks_plant] at hplant
  rw [State.blocks_calendar] at hcalendar
  have hlapse : (s.lapse byCount).plant = (s.lapseBegun byCount).plant.wakeAll (s.lapseBegun byCount).calendar.clock
      ((s.lapseBegun byCount).plant.batch (fun l => l.cfg.fallbackWake)) := rfl
  rw [hlapse, hplant, hcalendar]
  rfl

theorem State.wakesAtLapse_badStepThen {next : AssentState} (hnext : next ≠ .lapsed) (s : State) :
    s.WakesAtLapse (s.badStepThen next) := by
  have hblocks := s.badStep_stepped.blocks
  have hplant := congrArg Blocks.plant hblocks
  have hcalendar := congrArg Blocks.calendar hblocks
  rw [State.blocks_plant] at hplant
  rw [State.blocks_calendar] at hcalendar
  unfold State.badStepThen
  split
  · intro _ _
    rw [State.lapse_plant, hplant, hcalendar]
    rfl
  · exact .of_running hnext

theorem State.wakesAtLapse_timeOut {restarted : AssentState} (hnext : restarted ≠ .lapsed) (s : State) :
    s.WakesAtLapse (s.timeOut restarted) := by
  unfold State.timeOut
  split
  · exact fun _ _ => s.lapse_plant false
  · exact s.wakesAtLapse_badStepThen hnext

theorem State.wakesAtLapse_answerTimesOut (s : State) : s.WakesAtLapse s.answerTimesOut :=
  (State.wakesAtLapse_timeOut AssentState.noConfusion
    (s.setAssent (fun a => { a with flags := { a.flags with answerTimeout := true } }))).from_blocks rfl rfl rfl

theorem State.wakesAtLapse_requestTimesOut (s : State) : s.WakesAtLapse s.requestTimesOut :=
  (State.wakesAtLapse_timeOut AssentState.noConfusion
    (s.setAssent (fun a => { a with flags := { a.flags with requestTimeout := true } }))).from_blocks rfl rfl rfl

theorem State.wakesAtLapse_quarterPasses (s : State) : s.WakesAtLapse s.quarterPasses := by
  unfold State.quarterPasses
  split
  · split
    · exact s.wakesAtLapse_answerTimesOut
    · exact .of_running AssentState.noConfusion
  · split
    · exact s.wakesAtLapse_requestTimesOut
    · exact .of_running AssentState.noConfusion
  · exact .of_state rfl
  · exact .of_state rfl

theorem State.wakesAtLapse_answerTimeout (s : State) : s.WakesAtLapse s.answerTimeout := by
  unfold State.answerTimeout
  split
  · split
    · exact s.wakesAtLapse_answerTimesOut
    · exact .of_state rfl
  · exact .of_state rfl

theorem State.wakesAtLapse_requestTimeout (s : State) : s.WakesAtLapse s.requestTimeout := by
  unfold State.requestTimeout
  split
  · split
    · exact s.wakesAtLapse_requestTimesOut
    · exact .of_state rfl
  · exact .of_state rfl

/-- A status flag is set, and then a bad step is taken. -/
theorem State.wakesAtLapse_flagged {next : AssentState} (hnext : next ≠ .lapsed) (f : AssentFlags → AssentFlags) (s : State) :
    s.WakesAtLapse ((s.setAssent (fun a => { a with flags := f a.flags })).badStepThen next) :=
  (State.wakesAtLapse_badStepThen hnext (s.setAssent (fun a => { a with flags := f a.flags }))).from_blocks rfl rfl rfl

theorem Assent.started_state (a : Assent) : a.started.state = .awaitAnswer 0 := rfl

theorem State.wakesAtLapse_challenged (s : State) : s.WakesAtLapse s.challenged := by
  cases hstate : s.assent.state with
  | dormant =>
    simp only [State.challenged, hstate]
    have hstart : s.startMonitor.assent = s.assent.started := s.startMonitor_challenged.assent
    refine .of_running fun hlapsed => ?_
    rw [hstart, Assent.started_state] at hlapsed
    exact AssentState.noConfusion hlapsed
  | lapsed => exact fun hrun => absurd hstate hrun
  | awaitChallenge e =>
    simp only [State.challenged, hstate, State.judgeRequest]
    split
    · split
      · exact s.wakesAtLapse_flagged AssentState.noConfusion (fun f => { f with earlyRequest := true })
      · exact .of_running AssentState.noConfusion
      · exact s.wakesAtLapse_flagged AssentState.noConfusion (fun f => { f with lateRequest := true })
    · exact .of_running AssentState.noConfusion
  | awaitAnswer e =>
    simp only [State.challenged, hstate]
    exact s.wakesAtLapse_badStepThen AssentState.noConfusion

theorem State.wakesAtLapse_answered (j : Judgement) (s : State) : s.WakesAtLapse (s.answered j) := by
  cases j with
  | early => exact s.wakesAtLapse_flagged AssentState.noConfusion (fun f => { f with earlyAnswer := true })
  | late => exact s.wakesAtLapse_flagged AssentState.noConfusion (fun f => { f with lateAnswer := true })
  | wrong => exact s.wakesAtLapse_flagged AssentState.noConfusion (fun f => { f with wrongAnswer := true })
  | inWindow => exact .of_running AssentState.noConfusion

theorem wakesAtLapse_doAnswer (echo value : Nat) (s : State) : s.WakesAtLapse (doAnswer echo value s).1 := by
  unfold doAnswer
  split
  · exact .of_state rfl
  · exact .of_state rfl
  · exact s.wakesAtLapse_badStepThen AssentState.noConfusion
  · exact s.wakesAtLapse_answered _

/-- A command by which the monitor can lapse: the windows' events, and on a free link CHALLENGE and ANSWER. -/
abbrev State.mayLapseBy (s : State) (c : Instr) (tag : Byte) (echo value : Nat) : Prop :=
  c = .quarterSecondEvent ∨ c = .answerWindowTimeout ∨ c = .requestWindowTimeout ∨
    (s.link.reply = none ∧ (c = .challenge tag ∨ c = .answer tag echo value))

theorem exec_wakesAtLapse {c : Instr} {tag : Byte} {echo value : Nat} (hc : s.mayLapseBy c tag echo value)
    (h : exec c s = .next t) : s.WakesAtLapse t := by
  have heffect {effect : State → State} (hwakes : s.WakesAtLapse (effect s)) (h : s.perform effect = .next t) :
      s.WakesAtLapse t := by
    rcases State.perform_blocks h with hb | ⟨-, hb⟩
    · exact (State.WakesAtLapse.of_state rfl).of_blocks hb
    · exact hwakes.of_blocks hb
  have hrequest {f : Frame} {effect : State → State × Answer} (hreply : s.link.reply = none)
      (hwakes : (s.holding f).WakesAtLapse (effect (s.holding f)).1) (h : s.perform (State.request f effect) = .next t) :
      s.WakesAtLapse t :=
    heffect ((hwakes.from_blocks rfl rfl rfl).of_blocks (State.request_blocks hreply f effect)) h
  rcases hc with rfl | rfl | rfl | ⟨hreply, rfl | rfl⟩
  · exact heffect s.wakesAtLapse_quarterPasses h
  · exact heffect s.wakesAtLapse_answerTimeout h
  · exact heffect s.wakesAtLapse_requestTimeout h
  · exact hrequest hreply (State.wakesAtLapse_challenged _) h
  · exact hrequest hreply (wakesAtLapse_doAnswer echo value _) h

/-! ## The wakes of a curfew close (R102) -/

/-- A step by which the profiles' held states change moves the plant by the wakes of the closed ones alone. -/
def State.WakesAtClose (s t : State) : Prop :=
  t.plant = s.plant.wakeAll s.calendar.clock (s.plant.batch (closedBy s.calendar.held t.calendar.held))

theorem State.WakesAtClose.of_same {s t : State} (hplant : t.plant = s.plant) (hheld : t.calendar.held = s.calendar.held) :
    s.WakesAtClose t := by
  have hnone : closedBy s.calendar.held s.calendar.held = fun _ => false := funext (closedBy_same _)
  rw [State.WakesAtClose, hplant, hheld, hnone, Plant.batch, List.filter_false]
  rfl

theorem State.WakesAtClose.of_blocks {s u v : State} (h : s.WakesAtClose u) (hv : v.blocks = u.blocks) : s.WakesAtClose v := by
  have hcalendar := congrArg Blocks.calendar hv
  have hplant := congrArg Blocks.plant hv
  rw [State.blocks_calendar, State.blocks_calendar] at hcalendar
  rw [State.blocks_plant, State.blocks_plant] at hplant
  rw [State.WakesAtClose, hplant, hcalendar]
  exact h

theorem State.takeProfiles_plant (s : State) : s.takeProfiles.plant = s.plant := by
  have := congrArg Blocks.plant s.takeProfiles_onlyNotices.blocks
  exact this

/-- An evaluation wakes the loads of the profiles that it closes (R102). -/
theorem State.evaluate_plant (s : State) : s.evaluate.plant =
    s.plant.wakeAll s.calendar.clock (s.plant.batch (closedBy s.calendar.held s.calendar.values)) := by
  rw [State.evaluate, State.wakeAll_plant, State.closeBatch, State.takeProfiles_plant, State.takeProfiles_calendar]
  rfl

theorem State.wakesAtClose_evaluate {f : Calendar → Calendar} (hclock : (f s.calendar).clock = s.calendar.clock)
    (hheld : (f s.calendar).held = s.calendar.held) : s.WakesAtClose (s.setCalendar f).evaluate := by
  rw [State.WakesAtClose, State.evaluate_plant, State.evaluate_calendar, State.setCalendar_calendar, hclock, hheld]
  rfl

theorem State.wakesAtClose_changeHolidays (d : Date) (f : List Holiday → List Holiday) (s : State) :
    s.WakesAtClose (s.changeHolidays d f) := by
  unfold State.changeHolidays
  dsimp only
  split
  · exact State.wakesAtClose_evaluate rfl rfl
  · exact .of_same rfl rfl

theorem wakesAtClose_doSetProfileDay (x y : Nat) (slots : SlotRow) (s : State) :
    s.WakesAtClose (doSetProfileDay x y slots s).1 := by
  unfold doSetProfileDay
  split
  · exact State.wakesAtClose_evaluate rfl rfl
  · exact .of_same rfl rfl

theorem wakesAtClose_doSetHoliday (d : Date) (rule : Nat) (s : State) : s.WakesAtClose (doSetHoliday d rule s).1 := by
  unfold doSetHoliday
  split
  · exact .of_same rfl rfl
  · split
    · exact .of_same rfl rfl
    · split
      · exact .of_same rfl rfl
      · exact s.wakesAtClose_changeHolidays d _

theorem wakesAtClose_doDropHoliday (d : Date) (s : State) : s.WakesAtClose (doDropHoliday d s).1 := by
  unfold doDropHoliday
  split
  · exact .of_same rfl rfl
  · split
    · exact s.wakesAtClose_changeHolidays d _
    · exact .of_same rfl rfl

theorem exec_wakesAtClose {c : Instr} {tag : Byte} {d : Date} {x y : Nat} {slots : SlotRow} (hreply : s.link.reply = none)
    (hc : c = .setProfileDay tag x y slots ∨ c = .setHoliday tag d x ∨ c = .dropHoliday tag d) (h : exec c s = .next t) :
    s.WakesAtClose t := by
  have hrequest {f : Frame} {effect : State → State × Answer} (hwakes : s.WakesAtClose (effect (s.holding f)).1)
      (h : s.perform (State.request f effect) = .next t) : s.WakesAtClose t := by
    rcases State.perform_blocks h with hb | ⟨-, hb⟩
    · exact (State.WakesAtClose.of_same rfl rfl).of_blocks hb
    · exact hwakes.of_blocks (hb.trans (State.request_blocks hreply f effect))
  rcases hc with rfl | rfl | rfl
  · exact hrequest (wakesAtClose_doSetProfileDay x y slots (s.holding _)) h
  · exact hrequest (wakesAtClose_doSetHoliday d x (s.holding _)) h
  · exact hrequest (wakesAtClose_doDropHoliday d (s.holding _)) h

/-- The load's profile went from OPEN to CLOSED, and it wakes at the close. -/
theorem closedBy_eq (before held : Vector Bool 4) : closedBy before held =
    fun l => l.cfg.wakeAtClose && l.cfg.profile.any (fun p => before[p] && !held[p]) := by
  funext l
  unfold closedBy
  cases l.cfg.profile <;> rfl

theorem closedBy_of {before held : Vector Bool 4} {p : ProfileId} (hwake : l.cfg.wakeAtClose = true)
    (hprofile : l.cfg.profile = some p) (hopen : before[p] = true) (hclosed : held[p] = false) :
    closedBy before held l = true := by
  rw [closedBy_eq]
  simpa [hwake, hprofile] using ⟨hopen, hclosed⟩

/-! ## A PARKED load of a batch -/

/-- What the batch's wakes make of a PARKED load in it. -/
abbrev Load.WakesAs (l m : Load) : Prop :=
  (m.state = .wakeQueued ∨ ∃ w, m.state = .waking w) ∧ m.cfg = l.cfg ∧ m.parkOwned = l.parkOwned

theorem Load.WakesAs.of_core {l m : Load} (hway : m.onItsWay) (hcore : m.core = l.core) : l.WakesAs m := by
  have hcfg := congrArg Load.cfg hcore
  have hown := congrArg Load.parkOwned hcore
  exact ⟨hway, hcfg, hown⟩

theorem Plant.mem_batch {p : Plant} {chosen : Load → Bool} (hl : p.load? n = some l) (h : chosen l = true) :
    n ∈ p.batch chosen :=
  List.mem_map.mpr ⟨l, (byRank_perm _).mem_iff.mpr (List.mem_filter.mpr ⟨Plant.mem_of_load? hl, h⟩), Plant.load?_num hl⟩

theorem Plant.wakeAll_batch {p : Plant} (hp : p.sound) {chosen : Load → Bool} (hl : p.load? n = some l)
    (hstate : l.state = .parked) (h : chosen l = true) (clock : Option Clock) :
    ∃ m, (p.wakeAll clock (p.batch chosen)).load? n = some m ∧ l.WakesAs m := by
  obtain ⟨m, hm, hway, -, hcore⟩ := Plant.wakeAll_parked clock hp hl hstate (Plant.mem_batch hl h)
  exact ⟨m, hm, .of_core hway hcore⟩

/-- A PARKED load in the batch of a seconds event is on its way before the dwell is counted. -/
theorem State.lookAndWake_parked (hp : s.plant.sound) (hl : s.load? n = some l) (hstate : l.state = .parked)
    {batch : List Nat} (hn : n ∈ batch) (waiting : List Nat) :
    ∃ m, (s.lookAndWake waiting batch).load? n = some m ∧ m.onItsWay ∧ m.core = l.core := by
  have hbatch (u : State) (hu : u.plant.sound) (hload : u.load? n = some l) :
      ∃ m, (u.wakeAll batch).load? n = some m ∧ m.onItsWay ∧ m.core = l.core := by
    obtain ⟨m, hm, hway, -, hcore⟩ := Plant.wakeAll_parked u.calendar.clock hu hload hstate hn
    exact ⟨m, hm, hway, hcore⟩
  have hempty : batch.isEmpty = false := by
    cases batch with
    | nil => exact absurd hn List.not_mem_nil
    | cons _ _ => rfl
  unfold State.lookAndWake
  rw [if_neg (Bool.eq_false_iff.mp hempty)]
  split
  · exact hbatch s hp hl
  · split
    · refine hbatch _ (State.lookOff_sound hp waiting) ?_
      rw [State.load?, State.lookOff, State.onPlantNow_plant]
      obtain ⟨y, hy, hgrants⟩ := (Plant.moves_attemptFor s.calendar.clock
        (s.plant.offElapsed s.calendar.clock waiting) hp).loads.bound Load.Grants.num hl
      rwa [hgrants.eq (.inl (by simp [hstate]))] at hy
    · obtain ⟨m, hm, hway, hcore⟩ := hbatch s hp hl
      obtain ⟨y, hy, hwoken⟩ := (State.moves_lookOff waiting (State.wakeAll_sound hp batch)).loads.bound Load.Woken.num hm
      exact ⟨y, hy, (hwoken.onItsWay hway).1, hwoken.1.trans hcore⟩

theorem Load.countDwell_owned (l : Load) : l.countDwell.parkOwned = l.parkOwned := by
  unfold Load.countDwell
  split_ifs <;> rfl

/-- A PARKED load through a seconds event, and where its profile closes and it wakes then (R102). -/
theorem State.secondPasses_parked (hp : s.plant.sound) (hl : s.load? n = some l) (hstate : l.state = .parked) {p : ProfileId}
    (hwake : l.cfg.wakeAtClose = true) (hprofile : l.cfg.profile = some p) (hopen : s.calendar.held[p] = true) :
    ∃ m, s.secondPasses.load? n = some m ∧ m.cfg = l.cfg ∧ m.parkOwned = l.parkOwned ∧
      (s.calendar.secondLater.held[p] = false → m.onItsWay) := by
  have hload := State.clockTaken_load? hl
  have hkept := s.calendar.stopMoved_kept l.secondOlder
  generalize s.calendar.stopMoved l.secondOlder = x at hload hkept
  have hparked : x.state = .parked := by rw [hkept]; exact hstate
  have hcfg : x.cfg = l.cfg := by rw [hkept]; rfl
  have hown : x.parkOwned = l.parkOwned := by rw [hkept]; rfl
  have hsound := s.upkeep_clockTaken.plant hp
  by_cases hclosed : s.calendar.secondLater.held[p] = false
  · have hboundary : (s.onPlant Plant.ageAll).advanceClock.atBoundary = true := by
      rw [State.atBoundary_eq, State.advanceClock_calendar, State.onPlant_calendar]
      by_contra hnot
      rw [Calendar.secondLater, if_neg hnot, s.calendar.advanced_held.1, hopen] at hclosed
      exact Bool.false_ne_true hclosed.symm
    have hbatch : n ∈ s.secondBatch := by
      rw [State.secondBatch, if_pos hboundary]
      refine Plant.mem_batch hload (closedBy_of (hcfg ▸ hwake) (hcfg ▸ hprofile) hopen ?_)
      rw [State.clockTaken_calendar]
      exact hclosed
    obtain ⟨y, hy, hway, hcore⟩ := State.lookAndWake_parked hsound hload hparked hbatch
      (s.plant.waitingOff s.calendar.clock)
    have hidle : y.state ≠ .idling := by
      rcases hway with h | ⟨w, h⟩ <;> simp [h]
    have hwakes := Load.WakesAs.of_core hway hcore
    refine ⟨y, ?_, hwakes.2.1.trans hcfg, hwakes.2.2.trans hown, fun _ => hway⟩
    rw [State.secondPasses_load? hy, Load.countDwell_other hidle]
  · obtain ⟨y, hy, hwoken⟩ := (State.moves_lookAndWake (s.plant.waitingOff s.calendar.clock) s.secondBatch
      hsound).loads.bound Load.Woken.num hload
    have ycfg := congrArg Load.cfg hwoken.1
    have yown := congrArg Load.parkOwned hwoken.1
    exact ⟨y.countDwell, State.secondPasses_load? hy, y.countDwell_num.2.trans (ycfg.trans hcfg),
      y.countDwell_owned.trans (yown.trans hown), fun h => absurd h hclosed⟩

/-- A PARKED load whose profile a SET CLOCK closes. -/
theorem State.setClock_parked (hp : s.plant.sound) (hl : s.load? n = some l) (hstate : l.state = .parked) {k : Clock}
    (hclosed : closedBy s.calendar.held (s.setClock k).calendar.held l = true) :
    ∃ m, (s.setClock k).load? n = some m ∧ l.WakesAs m := by
  have hput : (s.clockPut k).plant.sound := ((s.upkeep_setCalendar _).trans (State.keeps_adjustStopTimes _).toUpkeep).plant hp
  have hload : (s.clockPut k).load? n = some (l.stopBy k.stamp) := by
    rw [State.clockPut_eq, State.load?, State.onPlant_plant,
      Plant.load?_map (p := s.plant) (f := Load.stopBy k.stamp) (fun _ => rfl) rfl]
    exact Option.map_eq_some_iff.mpr ⟨l, hl, rfl⟩
  have hheld : (s.setClock k).calendar.held = (s.clockPut k).calendar.values := by
    rw [State.setClock_calendar]
    rfl
  have hbefore : (s.clockPut k).calendar.held = s.calendar.held := rfl
  rw [hheld, ← hbefore] at hclosed
  obtain ⟨m, hm, hwakes⟩ := Plant.wakeAll_batch (chosen := closedBy (s.clockPut k).calendar.held (s.clockPut k).calendar.values)
    hput hload hstate hclosed (s.clockPut k).calendar.clock
  have heval := State.evaluate_plant (s.clockPut k)
  rw [← heval] at hm
  have hsound : (s.clockPut k).evaluate.plant.sound := (State.upkeep_evaluate _).plant hput
  obtain ⟨y, hy, hwoken⟩ := (State.moves_lookOff (s.plant.waitingOff s.calendar.clock) hsound).loads.bound Load.Woken.num hm
  have ycfg := congrArg Load.cfg hwoken.1
  have yown := congrArg Load.parkOwned hwoken.1
  exact ⟨y, hy, (hwoken.onItsWay hwakes.1).1, ycfg.trans hwakes.2.1, yown.trans hwakes.2.2⟩

theorem exec_setClock_parked (hs : s.inReset = false) (hreply : s.link.reply = none) (hp : s.plant.sound)
    (hl : s.load? n = some l) (hstate : l.state = .parked) {p : ProfileId} (hwake : l.cfg.wakeAtClose = true)
    (hprofile : l.cfg.profile = some p) {tag : Byte} {d : Date} {x y : Nat} (h : exec (.setClock tag d x y) s = .next t)
    (hopen : s.calendar.held[p] = true) (hclosed : t.calendar.held[p] = false) : ∃ m, t.load? n = some m ∧ l.WakesAs m := by
  by_cases hvalid : d.valid = true ∧ 1 ≤ x ∧ x ≤ 7 ∧ y ≤ 86399
  · obtain ⟨hd, h1, h7, hsec⟩ := hvalid
    obtain ⟨u, hu, -, hblocks⟩ := State.perform_accepted ⟨hs, hreply⟩
      (f := { kind := 13, tag, payload := d.bytes ++ b8 x :: b24 y })
      (change := State.setClock { date := d, dayOfWeek := x, seconds := y }) (doSetClock_inRange hd h1 h7 hsec _)
    obtain rfl : u = t := by
      have := hu.symm.trans h
      exact (Host.Outcome.next.inj this)
    have hplant := congrArg Blocks.plant hblocks
    have hcalendar := congrArg Blocks.calendar hblocks
    rw [State.blocks_plant, State.blocks_plant] at hplant
    rw [State.blocks_calendar, State.blocks_calendar] at hcalendar
    rw [hcalendar] at hclosed
    obtain ⟨m, hm, hwakes⟩ := State.setClock_parked (s := s.holding _) hp hl hstate (closedBy_of hwake hprofile hopen hclosed)
    exact ⟨m, (congrArg (Plant.load? · n) hplant).trans hm, hwakes⟩
  · obtain ⟨u, hu, hblocks, -⟩ := s.perform_refused ⟨hs, hreply⟩ { kind := 13, tag, payload := d.bytes ++ b8 x :: b24 y }
      (doSetClock d x y) .range (doSetClock_range hvalid _)
    obtain rfl : u = t := by
      have := hu.symm.trans h
      exact (Host.Outcome.next.inj this)
    have hcalendar := congrArg Blocks.calendar hblocks
    rw [State.blocks_calendar, State.blocks_calendar] at hcalendar
    rw [hcalendar, hopen] at hclosed
    exact absurd hclosed.symm Bool.false_ne_true

theorem Assent.afterTimeout_lapsed {a : Assent} {restarted : AssentState} (h : a.params.timeoutLapse = true ∨ a.fails) :
    (a.afterTimeout restarted).state = .lapsed := by
  unfold Assent.afterTimeout
  by_cases hlapse : a.params.timeoutLapse = true
  · rw [if_pos hlapse]
    rfl
  · rw [if_neg hlapse, Assent.afterBad, if_pos (Nat.sub_eq_zero_of_le (h.resolve_left hlapse))]
    rfl

/-- Settles O19: a lapse and a curfew close make the wake requests of their batches, in rank order. -/
theorem lapseAndCurfewCloseWakeParkedLoads : Obligations.LapseAndCurfewCloseWakeParkedLoads := by
  refine ⟨fun s n l hs hp hl hstate => ⟨fun e hfallback hwindow hend hlapses => ?_, fun p hwake hprofile hopen => ?_,
    fun c t tag echo value hfallback hc h hrun hlapsed => ?_,
    fun c t tag d x y slots p hwake hprofile hreply hc h hopen hclosed => ?_⟩,
    fun s t c tag echo value hc h hrun hlapsed => exec_wakesAtLapse hc h hrun hlapsed,
    fun s t c tag d x y slots hreply hc h => ?_, fun p chosen hp => ?_⟩
  · have hends : s.assent.params.answerEnd ≤ e + 1 := hend.le
    have htimes : s.answerTimeout = s.answerTimesOut := (State.answerTimeout_awaitAnswer hwindow).trans (if_pos hends)
    obtain ⟨t, ht, hassent, -⟩ := State.perform_moved hs (effect := State.answerTimeout) (htimes ▸ s.keeps_answerTimesOut)
      (htimes ▸ s.answerTimesOut_moved)
    have hlapsed : t.assent.state = .lapsed := by
      rw [hassent]
      exact Assent.afterTimeout_lapsed (a := s.assent.answerOverdue) hlapses
    have hplant := exec_wakesAtLapse (tag := 0) (echo := 0) (value := 0) (.inr (.inl rfl)) ht (by simp [hwindow]) hlapsed
    obtain ⟨m, hm, hwakes⟩ := Plant.wakeAll_batch (chosen := fun l => l.cfg.fallbackWake) hp hl hstate hfallback
      s.calendar.clock
    rw [← hplant] at hm
    exact ⟨t, m, ht, hlapsed, hm, hwakes⟩
  · obtain ⟨m, hm, hcfg, hown, hway⟩ := State.secondPasses_parked hp hl hstate hwake hprofile hopen
    refine ⟨_, m, State.perform_out hs _, hm, hcfg, hown, fun hclosed => hway ?_⟩
    rw [State.settlePins_calendar, State.secondPasses_calendar] at hclosed
    exact hclosed
  · have hplant := exec_wakesAtLapse hc h hrun hlapsed
    obtain ⟨m, hm, hwakes⟩ := Plant.wakeAll_batch (chosen := fun l => l.cfg.fallbackWake) hp hl hstate hfallback
      s.calendar.clock
    rw [← hplant] at hm
    exact ⟨m, hm, hwakes⟩
  · rcases hc with rfl | hc
    · exact exec_setClock_parked hs hreply hp hl hstate hwake hprofile h hopen hclosed
    · have hplant := exec_wakesAtClose hreply hc h
      obtain ⟨m, hm, hwakes⟩ := Plant.wakeAll_batch hp hl hstate (closedBy_of hwake hprofile hopen hclosed) s.calendar.clock
      rw [← hplant] at hm
      exact ⟨m, hm, hwakes⟩
  · have hplant := exec_wakesAtClose hreply hc h
    rwa [State.WakesAtClose, closedBy_eq] at hplant
  · have hsorted : (p.loads.filter chosen).Pairwise (fun a b => a.num < b.num) := hp.1.sublist List.filter_sublist
    exact ⟨byRank (p.loads.filter chosen), rfl, byRank_perm _, byRank_sorted hsorted, fun _ _ _ => rfl⟩

end

end Sys2Proof.Machine
end

section
/-!
PROOFS. The fields of BIND LOAD and the configuration they stand for (R2, R7, R177).
-/

namespace Sys2Proof.Machine

/-! ## Codes and numbers -/

theorem index?_eq_some_iff {size n : Nat} {i : Fin size} : index? size n = some i ↔ n = i.val + 1 := by
  constructor
  · intro h
    unfold index? at h
    split at h
    · next hn =>
      have hi := Option.some.inj h
      have hval : n - 1 = i.val := congrArg Fin.val hi
      omega
    · cases h
  · rintro rfl
    exact index?_succ i

theorem index?_exists {size n : Nat} (h : 1 ≤ n ∧ n ≤ size) : ∃ i, index? size n = some i := ⟨_, dif_pos h⟩

theorem channel?_eq_some_iff {n : Nat} {c : Channel} : channel? n = some c ↔ n = c.val := by
  constructor
  · intro h
    unfold channel? at h
    split at h
    · exact congrArg Fin.val (Option.some.inj h)
    · cases h
  · rintro rfl
    exact dif_pos c.isLt

theorem LoadKind.ofCode?_eq_some_iff {n : Nat} {k : LoadKind} : LoadKind.ofCode? n = some k ↔ n = k.code := by
  constructor
  · intro h
    unfold LoadKind.ofCode? at h
    split at h <;> cases h <;> rfl
  · rintro rfl
    cases k <;> rfl

theorem LoadKind.code_le (k : LoadKind) : k.code ≤ 3 := by cases k <;> decide

theorem LoadKind.exists_code {n : Nat} (h : n ≤ 3) : ∃ k : LoadKind, n = k.code := by
  match n, h with
  | 0, _ => exact ⟨.press, rfl⟩
  | 1, _ => exact ⟨.compressor, rfl⟩
  | 2, _ => exact ⟨.fan, rfl⟩
  | 3, _ => exact ⟨.auxiliary, rfl⟩

theorem index0?_eq_some_iff {size n : Nat} {x : Option (Fin size)} : index0? size n = some x ↔ n = index0Code x := by
  unfold index0?
  by_cases h0 : n = 0
  · subst h0
    rw [if_pos rfl]
    cases x with
    | none => exact iff_of_true rfl rfl
    | some i => exact iff_of_false (by simp) (by simp [index0Code])
  · rw [if_neg h0, Option.map_eq_some_iff]
    cases x with
    | none => exact iff_of_false (by simp) h0
    | some i => simp [index?_eq_some_iff, index0Code]

theorem index0Code_le {size : Nat} (x : Option (Fin size)) : index0Code x ≤ size := by
  cases x with
  | none => exact Nat.zero_le _
  | some i => exact i.isLt

theorem exists_index0Code {size n : Nat} (h : n ≤ size) : ∃ x : Option (Fin size), n = index0Code x := by
  cases n with
  | zero => exact ⟨none, rfl⟩
  | succ k => exact ⟨some ⟨k, h⟩, rfl⟩

theorem bool?_eq_some_iff {n : Nat} {b : Bool} : bool? n = some b ↔ n = b.toNat := by
  constructor
  · intro h
    unfold bool? at h
    split at h <;> cases h <;> rfl
  · rintro rfl
    exact bool?_toNat b

theorem exists_toNat {n : Nat} (h : n ≤ 1) : ∃ b : Bool, n = b.toNat := by
  match n, h with
  | 0, _ => exact ⟨false, rfl⟩
  | 1, _ => exact ⟨true, rfl⟩

/-! ## The ranges of the fields (R2) -/

theorem onlyFor_iff {applies : Bool} {lo hi n : Nat} :
    onlyFor applies lo hi n = true ↔ if applies then lo ≤ n ∧ n ≤ hi else n = 0 := by
  cases applies <;> simp [onlyFor, within_iff]

/-- The fields stand for this configuration: the coded ones by their codes, and every number within its range. -/
theorem BindFields.config?_eq_some_iff {f : BindFields} {c : LoadConfig} :
    f.config? = some c ↔ f.numbersInRange c.kind = true ∧ f = c.fields := by
  constructor
  · intro h
    simp only [BindFields.config?, Option.bind_eq_bind, Option.bind_eq_some_iff, index?_eq_some_iff, channel?_eq_some_iff,
      LoadKind.ofCode?_eq_some_iff, index0?_eq_some_iff, bool?_eq_some_iff, Option.ite_none_right_eq_some,
      Option.some.injEq] at h
    obtain ⟨station, hstation, channel, hchannel, kind, hkind, feeder, hfeeder, curve, hcurve, airGroup, hairGroup, profile,
      hprofile, wakeAtClose, hwakeAtClose, fallbackWake, hfallback, adoptParked, hadopt, hrange, rfl⟩ := h
    refine ⟨hrange, ?_⟩
    have hevents : f.events < 512 := by
      simp only [BindFields.numbersInRange, Bool.and_eq_true, decide_eq_true_eq] at hrange
      exact hrange.2
    have hcode : (BitVec.ofNat 9 f.events).toNat = f.events := Nat.mod_eq_of_lt hevents
    simp only [LoadConfig.fields, hcode, ← hstation, ← hchannel, ← hkind, ← hfeeder, ← hcurve, ← hairGroup, ← hprofile,
      ← hwakeAtClose, ← hfallback, ← hadopt]
  · rintro ⟨hrange, rfl⟩
    have hchannel : channel? c.fields.channel = some c.channel := channel?_eq_some_iff.mpr rfl
    have hkind : LoadKind.ofCode? c.fields.kind = some c.kind := LoadKind.ofCode?_eq_some_iff.mpr rfl
    have hairGroup : index0? 4 c.fields.airGroup = some c.airGroup := index0?_eq_some_iff.mpr rfl
    have hprofile : index0? 4 c.fields.profile = some c.profile := index0?_eq_some_iff.mpr rfl
    have hstation : index? 40 c.fields.station = some c.station := index?_succ c.station
    have hfeeder : index? 4 c.fields.feeder = some c.feeder := index?_succ c.feeder
    have hcurve : index? 8 c.fields.curve = some c.curve := index?_succ c.curve
    have hwakeAtClose : bool? c.fields.wakeAtClose = some c.wakeAtClose := bool?_toNat c.wakeAtClose
    have hfallback : bool? c.fields.fallback = some c.fallbackWake := bool?_toNat c.fallbackWake
    have hadopt : bool? c.fields.adoptParked = some c.adoptParked := bool?_toNat c.adoptParked
    simp only [BindFields.config?, Option.bind_eq_bind, hstation, hchannel, hkind, hfeeder, hcurve, hairGroup, hprofile,
      hwakeAtClose, hfallback, hadopt, Option.bind_some, if_pos hrange]
    simp only [LoadConfig.fields, BitVec.ofNat_toNat, BitVec.setWidth_eq]

theorem LoadKind.code_eq_zero {k : LoadKind} : k.code = 0 ↔ k = .press := by cases k <;> decide

theorem LoadKind.code_eq_one {k : LoadKind} : k.code = 1 ↔ k = .compressor := by cases k <;> decide

theorem BindFields.numbersInRange_iff {f : BindFields} {k : LoadKind} (hk : f.kind = k.code) :
    f.numbersInRange k = true ↔
      (1 ≤ f.demand ∧ f.demand ≤ 30) ∧ f.zone ≤ 12 ∧ (if f.kind = 1 then f.airGroup ≤ 4 else f.airGroup = 0) ∧
      f.restFloor ≤ 1000 ∧ f.noiseBand ≤ 63 ∧ (1 ≤ f.weight ∧ f.weight ≤ 16) ∧ f.idleThreshold ≤ 999 ∧
      (1 ≤ f.busyThreshold ∧ f.busyThreshold ≤ 1000) ∧ f.idleThreshold < f.busyThreshold ∧
      (60 ≤ f.idleDwell ∧ f.idleDwell ≤ 14400) ∧ (1 ≤ f.wakeRank ∧ f.wakeRank ≤ 255) ∧
      (10 ≤ f.stepLimit ∧ f.stepLimit ≤ 600) ∧
      (if f.kind = 0 then 30 ≤ f.coastLimit ∧ f.coastLimit ≤ 600 else f.coastLimit = 0) ∧
      (if f.kind = 1 then 60 ≤ f.unloadDwell ∧ f.unloadDwell ≤ 900 else f.unloadDwell = 0) ∧
      (if f.kind = 1 then f.minimumOff ≤ 1800 else f.minimumOff = 0) ∧ (5 ≤ f.settleLimit ∧ f.settleLimit ≤ 255) ∧
      f.events < 512 := by
  simp only [BindFields.numbersInRange, Bool.and_eq_true, within_iff, onlyFor_iff, decide_eq_true_eq, beq_iff_eq, and_assoc,
    Nat.zero_le, true_and, hk, LoadKind.code_eq_zero, LoadKind.code_eq_one]

/-- Fields within their ranges stand for a configuration, and no others do (R2, R7 stage 1). -/
theorem BindFields.config?_exists {f : BindFields} : (∃ c, f.config? = some c) ↔
    (1 ≤ f.station ∧ f.station ≤ 40) ∧ f.channel ≤ 3 ∧ (1 ≤ f.feeder ∧ f.feeder ≤ 4) ∧ (1 ≤ f.curve ∧ f.curve ≤ 8) ∧
      f.airGroup ≤ 4 ∧ f.profile ≤ 4 ∧ f.wakeAtClose ≤ 1 ∧ f.fallback ≤ 1 ∧ f.adoptParked ≤ 1 ∧ f.events < 512 ∧
      ∃ k : LoadKind, f.kind = k.code ∧ f.numbersInRange k = true := by
  constructor
  · rintro ⟨c, hc⟩
    obtain ⟨hrange, rfl⟩ := BindFields.config?_eq_some_iff.mp hc
    exact ⟨⟨Nat.succ_pos _, c.station.isLt⟩, Nat.le_of_lt_succ c.channel.isLt, ⟨Nat.succ_pos _, c.feeder.isLt⟩,
      ⟨Nat.succ_pos _, c.curve.isLt⟩, index0Code_le _, index0Code_le _, Bool.toNat_le _, Bool.toNat_le _, Bool.toNat_le _,
      c.events.isLt, c.kind, rfl, hrange⟩
  · rintro ⟨hstation, hchannel, hfeeder, hcurve, hairGroup, hprofile, hclose, hfallback, hadopt, hevents, k, hk, hrange⟩
    obtain ⟨station, hstation⟩ := index?_exists hstation
    obtain ⟨feeder, hfeeder⟩ := index?_exists hfeeder
    obtain ⟨curve, hcurve⟩ := index?_exists hcurve
    obtain ⟨airGroup, hairGroup⟩ := exists_index0Code (size := 4) hairGroup
    obtain ⟨profile, hprofile⟩ := exists_index0Code (size := 4) hprofile
    obtain ⟨close, hclose⟩ := exists_toNat hclose
    obtain ⟨fallback, hfallback⟩ := exists_toNat hfallback
    obtain ⟨adopt, hadopt⟩ := exists_toNat hadopt
    have hchannel' : channel? f.channel = some ⟨f.channel, Nat.lt_succ_of_le hchannel⟩ := dif_pos _
    simp only [BindFields.config?, Option.bind_eq_bind, hstation, hchannel', hfeeder, hcurve,
      LoadKind.ofCode?_eq_some_iff.mpr hk, index0?_eq_some_iff.mpr hairGroup, index0?_eq_some_iff.mpr hprofile,
      bool?_eq_some_iff.mpr hclose, bool?_eq_some_iff.mpr hfallback, bool?_eq_some_iff.mpr hadopt, Option.bind_some,
      if_pos hrange]
    exact ⟨_, rfl⟩

/-! ## BIND LOAD (R7, R8) -/

section

variable {s t : State} {p : Plant} {n m : Nat} {f : BindFields} {c : LoadConfig} {l x : Load}

theorem exec_bindLoad (tag : Byte) (n : Nat) (f : BindFields) (s : State) : exec (.bindLoad tag n f) s =
    s.perform (State.request { kind := 5, tag, payload := b8 n :: f.bytes } (doBindLoad n f)) := rfl

theorem doBindLoad_range (h : n = 0 ∨ 96 < n ∨ f.config? = none) : doBindLoad n f s = s.refuse .range := by
  unfold doBindLoad
  by_cases hn : within 1 Config.loadCount n = true
  · obtain ⟨h1, h96⟩ := within_iff.mp hn
    have hnone : f.config? = none := by
      rcases h with h | h | h
      · omega
      · exact absurd h96 (not_le.mpr h)
      · exact h
    rw [if_neg (not_not.mpr hn), hnone]
  · rw [if_pos hn]

/-- With number and fields within their ranges the load's state and the conflicts decide. -/
theorem doBindLoad_inRange (h1 : 1 ≤ n) (h96 : n ≤ 96) (hc : f.config? = some c) : doBindLoad n f s =
    if (s.load? n).any Load.inFlight then s.refuse .busy
    else if s.plant.bindConflict n c then s.refuse .conflict
    else ((s.bindLoad n c).recheckFans).accept := by
  have hn : ¬¬within 1 Config.loadCount n = true := not_not.mpr (within_iff.mpr ⟨h1, h96⟩)
  rw [doBindLoad, if_neg hn, hc]

theorem Plant.bindConflict_iff : p.bindConflict n c = true ↔
    (∃ x ∈ p.loads, x.num ≠ n ∧ x.cfg.station = c.station ∧ x.cfg.channel = c.channel) ∨
      (p.station c.station).fitted ≤ c.channel.val ∨ (p.feeder c.feeder).capacity < c.demand := by
  simp [Plant.bindConflict, or_assoc, and_assoc]

theorem doBindLoad_busy (h1 : 1 ≤ n) (h96 : n ≤ 96) (hc : f.config? = some c) (hl : s.load? n = some l)
    (h : l.inFlight = true) : doBindLoad n f s = s.refuse .busy := by
  rw [doBindLoad_inRange h1 h96 hc, hl]
  exact if_pos h

theorem doBindLoad_conflict (h1 : 1 ≤ n) (h96 : n ≤ 96) (hc : f.config? = some c)
    (hrests : ∀ l, s.load? n = some l → l.inFlight = false) (h : s.plant.bindConflict n c = true) :
    doBindLoad n f s = s.refuse .conflict := by
  have hany : ¬(s.load? n).any Load.inFlight = true := by
    rw [Option.any_eq_true]
    rintro ⟨l, hl, hflight⟩
    rw [hrests l hl] at hflight
    exact Bool.false_ne_true hflight
  rw [doBindLoad_inRange h1 h96 hc, if_neg hany, if_pos h]

theorem doBindLoad_accepted (h1 : 1 ≤ n) (h96 : n ≤ 96) (hc : f.config? = some c)
    (hrests : ∀ l, s.load? n = some l → l.inFlight = false)
    (hplace : ∀ x ∈ s.plant.loads, x.num ≠ n → ¬(x.cfg.station = c.station ∧ x.cfg.channel = c.channel))
    (hfitted : c.channel.val < (s.station c.station).fitted) (hdemand : c.demand ≤ (s.plant.feeder c.feeder).capacity) :
    doBindLoad n f s = (s.bindLoad n c).recheckFans.accept := by
  have hany : ¬(s.load? n).any Load.inFlight = true := by
    rw [Option.any_eq_true]
    rintro ⟨l, hl, hflight⟩
    rw [hrests l hl] at hflight
    exact Bool.false_ne_true hflight
  have hconflict : ¬s.plant.bindConflict n c = true := by
    rw [Plant.bindConflict_iff]
    rintro (⟨x, hx, hn, hat⟩ | hunfitted | hlarge)
    · exact hplace x hx hn hat
    · exact absurd hunfitted (not_le.mpr hfitted)
    · exact absurd hlarge (not_lt.mpr hdemand)
  rw [doBindLoad_inRange h1 h96 hc, if_neg hany, if_neg hconflict]

/-- The fan recheck moves no load that is not WAKE_QUEUED. -/
theorem State.recheckFans_load? (hp : s.plant.sound) (hx : s.load? m = some x) (hstate : x.state ≠ .wakeQueued) :
    s.recheckFans.load? m = some x := by
  rw [State.load?, State.recheckFans_plant]
  exact (Plant.calm_recheckAll s.calendar.clock hp).eq hx hstate

theorem State.recheckFans_unbound (hp : s.plant.sound) (hnone : s.load? m = none) : s.recheckFans.load? m = none := by
  rw [State.load?, State.recheckFans_plant]
  exact (Plant.calm_recheckAll s.calendar.clock hp).loads.unbound Load.Calm.num hnone

theorem State.bindLoad_unbound (hnone : s.load? n = none) (c : LoadConfig) :
    s.bindLoad n c = s.onPlant (fun p => p.bind (Load.bound n c (p.holdAt c false))) := by
  rw [State.bindLoad, hnone]

theorem notInFlight_of (h1 : ∀ step, l.state ≠ .parking step) (h2 : l.state ≠ .wakeQueued) (h3 : ∀ w, l.state ≠ .waking w) :
    l.inFlight = false := by
  refine Bool.eq_false_iff.mpr fun h => ?_
  rcases Load.inFlight_iff.mp h with ⟨step, h⟩ | h | ⟨w, h⟩
  · exact h1 step h
  · exact h2 h
  · exact h3 w h

/-- A binding of an UNBOUND record, and the recheck after it (R8, R12). -/
theorem State.bindLoad_new (hp : s.plant.sound) (hnone : s.load? n = none) (h1 : 1 ≤ n) (h96 : n ≤ 96) (c : LoadConfig) :
    (s.bindLoad n c).recheckFans.load? n = some (Load.bound n c (s.plant.holdAt c false)) ∧
      (∀ m x, m ≠ n → s.load? m = some x → x.state ≠ .wakeQueued → (s.bindLoad n c).recheckFans.load? m = some x) ∧
      (s.bindLoad n c).recheckFans.blocks = { s.blocks with plant := (s.bindLoad n c).recheckFans.plant } := by
  have hnew : (Load.bound n c (s.plant.holdAt c false)).num = n := rfl
  have hsound := Plant.bind_sound (l := Load.bound n c (s.plant.holdAt c false)) hp hnone h1 h96 (Load.rests_of_state nofun nofun)
  rw [State.bindLoad_unbound hnone]
  refine ⟨State.recheckFans_load? hsound (Plant.load?_bind_self hp.numbered (hnew.symm ▸ hnone) h1 h96) LoadState.noConfusion,
    fun m x hm hx hstate => State.recheckFans_load? hsound ?_ hstate, rfl⟩
  exact (Plant.load?_bind_other (l := Load.bound n c (s.plant.holdAt c false)) hp.numbered hnone h1 h96 hm).trans hx

/-- Settles O41: the ranges, the stages of the check in order, and the record of a new load. -/
theorem bindingIsCheckedAndBinds : Obligations.BindingIsCheckedAndBinds := by
  refine ⟨fun f => ⟨?_, fun c hc => (BindFields.config?_eq_some_iff.mp hc).2.symm⟩,
    fun s tag n f hs => ⟨fun h => ?_, fun c h1 h96 hc => ⟨fun l hl hflight => ?_, fun hrests hconflict => ?_,
      fun hp hnone hplace hfitted hdemand => ?_⟩⟩⟩
  · rw [Option.ne_none_iff_exists', BindFields.config?_exists]
    constructor
    · rintro ⟨hstation, hchannel, hfeeder, hcurve, hairGroup, hprofile, hclose, hfallback, hadopt, hevents, k, hk, hrange⟩
      have hcode : f.kind ≤ 3 := hk ▸ k.code_le
      rw [BindFields.numbersInRange_iff hk] at hrange
      tauto
    · intro h
      obtain ⟨k, hk⟩ := LoadKind.exists_code (n := f.kind) (by tauto)
      have hair : f.airGroup ≤ 4 := by
        have hif : if f.kind = 1 then f.airGroup ≤ 4 else f.airGroup = 0 := by tauto
        split at hif <;> omega
      have hrange := (BindFields.numbersInRange_iff hk).mpr (by tauto)
      refine ⟨?_, ?_, ?_, ?_, hair, ?_, ?_, ?_, ?_, ?_, k, hk, hrange⟩ <;> tauto
  · rw [exec_bindLoad]
    exact s.perform_refused hs _ _ .range (doBindLoad_range h)
  · rw [exec_bindLoad]
    exact s.perform_refused hs _ _ .busy (doBindLoad_busy (s := s.holding _) h1 h96 hc hl (Load.inFlight_iff.mpr hflight))
  · rw [exec_bindLoad]
    exact s.perform_refused hs _ _ .conflict (doBindLoad_conflict (s := s.holding _) h1 h96 hc
      (fun l hl => notInFlight_of (hrests l hl).1 (hrests l hl).2.1 (hrests l hl).2.2) (Plant.bindConflict_iff.mpr hconflict))
  · obtain ⟨t, ht, hanswers, hblocks⟩ := State.perform_accepted hs (f := { kind := 5, tag, payload := b8 n :: f.bytes })
      (change := fun s => (s.bindLoad n c).recheckFans)
      (doBindLoad_accepted (s := s.holding _) h1 h96 hc (fun l hl => absurd (hnone.symm.trans hl) (Option.some_ne_none l).symm)
        (fun x hx _ => hplace x hx) hfitted hdemand)
    have hplant := congrArg Blocks.plant hblocks
    rw [State.blocks_plant, State.blocks_plant] at hplant
    obtain ⟨hself, hothers, hrest⟩ := State.bindLoad_new (s := s.holding { kind := 5, tag, payload := b8 n :: f.bytes })
      hp hnone h1 h96 c
    rw [hrest, ← hplant] at hblocks
    exact ⟨t, ht, hanswers, (congrArg (Plant.load? · n) hplant).trans hself,
      fun m x hm hx hstate => (congrArg (Plant.load? · m) hplant).trans (hothers m x hm hx hstate), hblocks⟩

end

end Sys2Proof.Machine
end

section
/-!
PROOFS. Binding a bound load again, and unbinding it (R9 to R11).
-/

namespace Sys2Proof.Machine

section

variable {s t : State} {p : Plant} {n m : Nat} {c : LoadConfig} {l x : Load}

/-- The same place on the field. -/
abbrev LoadConfig.samePlace (a b : LoadConfig) : Prop := a.station = b.station ∧ a.channel = b.channel

/-- What an accepted BIND LOAD makes of a bound load (R9, R10). -/
def Plant.rebound (p : Plant) (c : LoadConfig) (l x : Load) : Load :=
  if l.cfg.samePlace c then Load.reconfigure c x else p.reboundAs c l x

theorem Plant.rebound_rests (h : l.rests) : (p.rebound c l l).rests := by
  unfold Plant.rebound
  split
  · exact Load.reconfigure_rests c h
  · exact Load.rests_of_state LoadState.noConfusion fun _ => LoadState.noConfusion

theorem Plant.rebindElsewhere_load? (hp : p.numbered) (hl : p.load? n = some l) :
    (p.rebindElsewhere c l).load? n = some (p.reboundAs c l l) ∧
      ∀ m, m ≠ n → (p.rebindElsewhere c l).load? m = p.load? m := by
  obtain rfl := Plant.load?_num hl
  rw [Plant.rebindElsewhere_eq hp]
  have hundue : (p.withdraw l.num).load? l.num = some l.undue := by rw [Plant.withdraw_load?, if_pos rfl, hl]; rfl
  refine ⟨(Plant.load?_set (f := p.reboundAs c l) hundue).trans rfl, fun m hm => ?_⟩
  rw [Plant.load?_set_other (f := p.reboundAs c l) hm, Plant.withdraw_load?, if_neg hm]

theorem State.bindLoad_bound (hp : s.plant.numbered) (hl : s.load? n = some l) :
    (s.bindLoad n c).load? n = some (s.plant.rebound c l l) ∧ (∀ m, m ≠ n → (s.bindLoad n c).load? m = s.load? m) ∧
      (l.state ≠ .faulted → (s.bindLoad n c).blocks = { s.blocks with plant := (s.bindLoad n c).plant }) := by
  simp only [State.bindLoad, hl]
  unfold Plant.rebound
  by_cases hplace : l.cfg.samePlace c
  · rw [if_pos hplace, if_pos hplace]
    exact ⟨Plant.load?_set (f := Load.reconfigure c) hl, fun m hm => Plant.load?_set_other (f := Load.reconfigure c) hm,
      fun _ => rfl⟩
  · obtain ⟨hself, hothers⟩ := Plant.rebindElsewhere_load? (c := c) hp hl
    rw [if_neg hplace, if_neg hplace]
    split
    · next hfaulted =>
      refine ⟨?_, fun m hm => ?_, fun h => absurd hfaulted h⟩
      · rw [State.load?, State.evaluateBeacon_plant]
        exact hself
      · rw [State.load?, State.evaluateBeacon_plant]
        exact hothers m hm
    · exact ⟨hself, hothers, fun _ => rfl⟩

/-- A binding of a load at rest, and the recheck after it. -/
theorem State.bindLoad_again (hp : s.plant.sound) (hl : s.load? n = some l) (h1 : 1 ≤ n) (h96 : n ≤ 96)
    (hrests : l.inFlight = false) (c : LoadConfig) :
    (s.bindLoad n c).recheckFans.load? n = some (s.plant.rebound c l l) ∧
      (∀ m x, m ≠ n → s.load? m = some x → x.state ≠ .wakeQueued → (s.bindLoad n c).recheckFans.load? m = some x) ∧
      (l.state ≠ .faulted →
        (s.bindLoad n c).recheckFans.blocks = { s.blocks with plant := (s.bindLoad n c).recheckFans.plant }) := by
  have hsound := State.bindLoad_sound hp h1 h96 c (by rw [hl]; simp [hrests])
  obtain ⟨hself, hothers, hblocks⟩ := State.bindLoad_bound (c := c) hp.numbered hl
  refine ⟨State.recheckFans_load? hsound hself (Plant.rebound_rests (Load.rests_of_notInFlight hrests)).1,
    fun m x hm hx hstate => State.recheckFans_load? hsound ((hothers m hm).trans hx) hstate, fun hfaulted => ?_⟩
  have hrecheck : (s.bindLoad n c).recheckFans.blocks =
      { (s.bindLoad n c).blocks with plant := (s.bindLoad n c).recheckFans.plant } := rfl
  rw [hrecheck, hblocks hfaulted]

/-! ## UNBIND LOAD (R11) -/

theorem exec_unbindLoad (tag : Byte) (n : Nat) (s : State) : exec (.unbindLoad tag n) s =
    s.perform (State.request { kind := 6, tag, payload := [b8 n] } (doUnbindLoad n)) := rfl

theorem doUnbindLoad_busy (h1 : 1 ≤ n) (h96 : n ≤ 96) (hl : s.load? n = some l) (h : l.inFlight = true) :
    doUnbindLoad n s = s.refuse .busy := by
  rw [doUnbindLoad, State.forLoad_bound h1 h96 hl, if_pos h]

theorem doUnbindLoad_accepted (h1 : 1 ≤ n) (h96 : n ≤ 96) (hl : s.load? n = some l) (h : l.inFlight = false) :
    doUnbindLoad n s = (s.unbindLoad l).recheckFans.accept := by
  rw [doUnbindLoad, State.forLoad_bound h1 h96 hl, if_neg (Bool.eq_false_iff.mp h)]

theorem State.unbindLoad_rest (hp : s.plant.sound) (hl : s.load? n = some l) (hrests : l.inFlight = false) :
    (s.unbindLoad l).recheckFans.load? n = none ∧
      (∀ m x, m ≠ n → s.load? m = some x → x.state ≠ .wakeQueued → (s.unbindLoad l).recheckFans.load? m = some x) ∧
      (l.state ≠ .faulted →
        (s.unbindLoad l).recheckFans.blocks = { s.blocks with plant := (s.unbindLoad l).recheckFans.plant }) := by
  obtain rfl := Plant.load?_num hl
  have hgone := Plant.unbindOrdered_sound hp hl (Load.rests_of_notInFlight hrests)
  have hplant := s.unbindLoad_plant l
  rw [← hplant] at hgone
  have hnumbered : (s.plant.withdraw l.num).numbered := ((Plant.sameUnits_withdraw l.num hp.numbered).sound hp).numbered
  refine ⟨State.recheckFans_unbound hgone ?_, fun m x hm hx hstate => State.recheckFans_load? hgone ?_ hstate,
    fun hfaulted => ?_⟩
  · rw [State.load?, hplant]
    exact Plant.load?_unbind_self _ _
  · rw [State.load?, hplant, Plant.unbindOrdered, Plant.load?_unbind_other hnumbered hm, Plant.withdraw_load?, if_neg hm]
    exact hx
  · have hunbind : s.unbindLoad l = (s.withdraw l.num).onPlant (Plant.unbind l.num) := if_neg hfaulted
    rw [hunbind]
    rfl

/-- Settles O42: the record by its place, and the unbound record. -/
theorem rebindingAndUnbinding : Obligations.RebindingAndUnbinding := by
  intro s tag n f c l hs hp hl
  obtain ⟨h1, h96⟩ : 1 ≤ n ∧ n ≤ 96 := by
    have hnum := hp.numbered.2 l (Plant.mem_of_load? hl)
    rwa [Plant.load?_num hl] at hnum
  refine ⟨fun hflight => ?_, fun hparking hqueued hwaking => ⟨?_, fun hc hplace hfitted hdemand => ?_⟩⟩
  · rw [exec_unbindLoad]
    exact s.perform_refused hs _ _ .busy (doUnbindLoad_busy (s := s.holding _) h1 h96 hl (Load.inFlight_iff.mpr hflight))
  · have hrests := notInFlight_of hparking hqueued hwaking
    obtain ⟨t, ht, hanswers, hblocks⟩ := State.perform_accepted hs (f := { kind := 6, tag, payload := [b8 n] })
      (change := fun s => (s.unbindLoad l).recheckFans) (doUnbindLoad_accepted (s := s.holding _) h1 h96 hl hrests)
    have hplant := congrArg Blocks.plant hblocks
    rw [State.blocks_plant, State.blocks_plant] at hplant
    obtain ⟨hself, hothers, hrest⟩ := State.unbindLoad_rest (s := s.holding { kind := 6, tag, payload := [b8 n] }) hp hl hrests
    refine ⟨t, ht, hanswers, (congrArg (Plant.load? · n) hplant).trans hself,
      fun m x hm hx hstate => (congrArg (Plant.load? · m) hplant).trans (hothers m x hm hx hstate), fun hfaulted => ?_⟩
    rw [hrest hfaulted, ← hplant] at hblocks
    exact hblocks
  · have hrests := notInFlight_of hparking hqueued hwaking
    have honly (y : Load) (hy : s.load? n = some y) : y.inFlight = false := by
      rwa [Option.some.inj (hy.symm.trans hl)]
    obtain ⟨t, ht, hanswers, hblocks⟩ := State.perform_accepted hs (f := { kind := 5, tag, payload := b8 n :: f.bytes })
      (change := fun s => (s.bindLoad n c).recheckFans)
      (doBindLoad_accepted (s := s.holding _) h1 h96 hc honly hplace hfitted hdemand)
    have hplant := congrArg Blocks.plant hblocks
    rw [State.blocks_plant, State.blocks_plant] at hplant
    obtain ⟨hself, hothers, hrest⟩ := State.bindLoad_again
      (s := s.holding { kind := 5, tag, payload := b8 n :: f.bytes }) hp hl h1 h96 hrests c
    refine ⟨t, ht, hanswers, (congrArg (Plant.load? · n) hplant).trans (hself.trans (congrArg some ?_)),
      fun m x hm hx hstate => (congrArg (Plant.load? · m) hplant).trans (hothers m x hm hx hstate), fun hfaulted => ?_⟩
    · unfold Plant.rebound
      split
      · have hdwell : (l.state = .idling ∧ min l.dwell c.idleDwell = c.idleDwell) ↔
            (l.state = .idling ∧ c.idleDwell ≤ l.dwell) := by rw [min_eq_right_iff]
        simp only [Load.reconfigure, hdwell]
        rfl
      · rw [← Plant.load?_num hl]
        rfl
    · rw [hrest hfaulted, ← hplant] at hblocks
      exact hblocks

end

end Sys2Proof.Machine
end

section
/-!
PROOFS. What the assessment of a report makes of a load's record, case by case (R5, R29, R35 to R38).
-/

namespace Sys2Proof.Machine

section

variable {curves : Vector Knots 8} {now : Option Stamp} {r : Report} {l : Load}

/-! ## The parts of an assessment -/

/-- The latest flags after a report, by the kind of the load (R5). -/
def LatestFlags.after (kind : LoadKind) (r : Report) (f : LatestFlags) : LatestFlags :=
  match kind with
  | .press => { f with safeStop := r.safeStop, speedLow := r.speedLow }
  | .compressor => { f with unloaded := r.unloaded }
  | _ => f

theorem Load.keepFlags_eq (r : Report) (l : Load) : l.keepFlags r = { l with latest := l.latest.after l.cfg.kind r } := by
  unfold Load.keepFlags
  cases hk : l.cfg.kind <;> rfl

/-- The record with the sample of a report, if it has a valid one (R29). -/
def Load.seen (curves : Vector Knots 8) (now : Option Stamp) (r : Report) (l : Load) : Load :=
  match r.sample with
  | none => l
  | some raw => l.smoothed curves now raw

theorem Load.seen_kept (curves : Vector Knots 8) (now : Option Stamp) (r : Report) (l : Load) : l.seen curves now r =
    { l with a16 := (l.seen curves now r).a16, sampleAge := (l.seen curves now r).sampleAge,
             sampleTime := (l.seen curves now r).sampleTime } := by
  unfold Load.seen
  cases r.sample <;> rfl

theorem Load.underReport_eq (curves : Vector Knots 8) (now : Option Stamp) (r : Report) (l : Load) :
    l.underReport curves now r = ((l.heldBy r).seen curves now r).keepFlags r := by
  unfold Load.underReport Load.seen
  cases r.sample <;> rfl

/-- The strokes of a press in a report: none counts as 0. -/
theorem Load.flagged_eq (r : Report) (l : Load) : l.flagged r = (l.struck (r.strokes.getD 0)).keepFlags r := by
  unfold Load.flagged
  cases r.strokes with
  | none =>
    have hnone : l.struck 0 = l := if_neg fun h => absurd h.2.2 (Nat.lt_irrefl 0)
    exact congrArg (Load.keepFlags r) hnone.symm
  | some k => rfl

/-- The record after the sample and, in an assessed state, its judgement. -/
def Load.judged (r : Report) (l : Load) : Load := if r.sample.isSome = true ∧ l.isAssessed = true then l.idleMoved else l

theorem Load.assessed_eq (curves : Vector Knots 8) (now : Option Stamp) (r : Report) (l : Load) :
    l.assessed curves now r = (((l.seen curves now r).judged r).struck (r.strokes.getD 0)).keepFlags r := by
  unfold Load.assessed Load.seen Load.judged
  cases hs : r.sample with
  | none => exact l.flagged_eq r
  | some raw =>
    dsimp only
    rw [Load.flagged_eq, Load.sampleTaken]
    have hsame : (l.smoothed curves now raw).isAssessed = l.isAssessed := rfl
    simp [hsame]

/-- A load that is not assessed takes hold, sample and latest flags alone. -/
theorem Load.assessed_resting (h : l.isAssessed = false) : (l.heldBy r).assessed curves now r = l.underReport curves now r := by
  have hseen : ((l.heldBy r).seen curves now r).isAssessed = false := by rw [Load.seen_kept]; exact h
  have hjudged : ((l.heldBy r).seen curves now r).judged r = (l.heldBy r).seen curves now r :=
    if_neg fun hand => Bool.false_ne_true (hseen.symm.trans hand.2)
  have hstruck : ((l.heldBy r).seen curves now r).struck (r.strokes.getD 0) = (l.heldBy r).seen curves now r :=
    if_neg fun hand => Bool.false_ne_true (hseen.symm.trans hand.2.1)
  rw [Load.assessed_eq, hjudged, hstruck, Load.underReport_eq]

/-! ## Strokes of a press (R37) -/

theorem Load.isAssessed_iff : l.isAssessed = true ↔ l.state = .active ∨ l.state = .idling ∨ l.state = .parkPending := by
  rw [Load.isAssessed_eq]
  simp [or_assoc]

/-- The judgement of an idle flag changes state, dwell and idle flag alone, keeps an assessed load assessed, and takes a
load to ACTIVE only from a state that it leaves without a manual flag. -/
theorem Load.idleMoved_kept (l : Load) :
    l.idleMoved = { l with state := l.idleMoved.state, dwell := l.idleMoved.dwell, idle := l.idleMoved.idle } := by
  unfold Load.idleMoved
  split
  · rfl
  · split
    · split <;> rfl
    · split
      · rfl
      · split <;> rfl
      · rfl

theorem Load.idleMoved_isAssessed (h : l.isAssessed = true) : l.idleMoved.isAssessed = true := by
  unfold Load.idleMoved
  split
  · exact h
  · split
    · split
      · rfl
      · exact h
    · split
      · rfl
      · split
        · exact h
        · rfl
      · exact h

theorem Load.idleMoved_active (hmanual : l.manual = true → l.state = .parkPending) (h : l.idleMoved.state = .active) :
    l.manual = false := by
  cases hm : l.manual with
  | false => rfl
  | true =>
    have hstate := hmanual hm
    rw [Load.idleMoved] at h
    split at h
    · rw [hstate] at h
      exact LoadState.noConfusion h
    · split at h
      · rw [if_neg (by rw [hstate]; exact LoadState.noConfusion)] at h
        change l.state = _ at h
        rw [hstate] at h
        exact LoadState.noConfusion h
      · simp [hstate, hm] at h

theorem Load.struck_press {k : Nat} (hkind : l.cfg.kind = .press) (h : l.isAssessed = true) (hk : 0 < k)
    (hmanual : l.state = .active → l.manual = false) :
    l.struck k = { l with state := .active, idle := false, dwell := 0, manual := false } := by
  rw [Load.struck, if_pos ⟨hkind, h, hk⟩]
  split
  · next hactive =>
    rw [← hactive, ← hmanual hactive]
  · rfl

theorem Load.judged_cases (r : Report) (l : Load) : l.judged r = l.idleMoved ∨ l.judged r = l := by
  unfold Load.judged
  split
  · exact .inl rfl
  · exact .inr rfl

/-- Strokes leave an assessed press ACTIVE, whatever its sample says. -/
theorem Load.assessed_strokes (hkind : l.cfg.kind = .press) (h : l.isAssessed = true)
    (hmanual : l.manual = true → l.state = .parkPending) (hk : 0 < r.strokes.getD 0) :
    (l.heldBy r).assessed curves now r =
      { l.underReport curves now r with state := .active, idle := false, dwell := 0, manual := false } := by
  rw [Load.assessed_eq, Load.underReport_eq]
  have hkept := (l.heldBy r).seen_kept curves now r
  have hx : ((l.heldBy r).seen curves now r).isAssessed = true := by rw [hkept]; exact h
  have hxkind : ((l.heldBy r).seen curves now r).cfg.kind = .press := by rw [hkept]; exact hkind
  have hxmanual : ((l.heldBy r).seen curves now r).manual = true → ((l.heldBy r).seen curves now r).state = .parkPending := by
    rw [hkept]
    exact hmanual
  generalize (l.heldBy r).seen curves now r = x at hx hxkind hxmanual
  rcases x.judged_cases r with hj | hj
  · rw [hj]
    have hactive (ha : x.idleMoved.state = .active) : x.idleMoved.manual = false :=
      (congrArg Load.manual x.idleMoved_kept).trans (Load.idleMoved_active (l := x) hxmanual ha)
    have hmkind : x.idleMoved.cfg.kind = .press := by rw [Load.idleMoved_kept]; exact hxkind
    rw [Load.struck_press hmkind (Load.idleMoved_isAssessed hx) hk hactive, Load.idleMoved_kept, Load.keepFlags_eq,
      Load.keepFlags_eq]
  · rw [hj]
    have hactive : x.state = .active → x.manual = false := fun ha => by
      cases hm : x.manual with
      | false => rfl
      | true => exact absurd (ha.symm.trans (hxmanual hm)) LoadState.noConfusion
    rw [Load.struck_press hxkind hx hk hactive, Load.keepFlags_eq, Load.keepFlags_eq]

/-! ## An entry into ACTIVE (R36, R38) -/

/-- The assessment of a load that its report has just brought to ACTIVE. -/
theorem Load.assessed_activeNow (l : Load) : (l.heldBy r).activeNow.assessed curves now r = l.activated curves now r := by
  have hseen : (l.heldBy r).activeNow.seen curves now r = ((l.heldBy r).seen curves now r).activeNow := by
    unfold Load.seen
    cases r.sample <;> rfl
  rw [Load.assessed_eq, hseen, Load.activated, Load.underReport_eq]
  have hcfg : ((l.heldBy r).seen curves now r).cfg = l.cfg := by rw [Load.seen_kept]; rfl
  generalize (l.heldBy r).seen curves now r = x at hcfg
  have hreported : ({ x.keepFlags r with state := .active, dwell := 0, idle := false } : Load).reported = x.reported := by
    rw [Load.keepFlags_eq]
    rfl
  have hassessed : x.activeNow.isAssessed = true := rfl
  dsimp only
  rw [hreported, ← hcfg]
  by_cases hidle : r.sample.isSome = true ∧ x.reported ≤ x.cfg.idleThreshold
  · have hjudge : x.activeNow.judgedIdle = true := if_pos hidle.2
    have hmoved : x.activeNow.judged r = { x.activeNow with idle := true, state := .idling, dwell := 0 } := by
      rw [Load.judged, if_pos ⟨hidle.1, hassessed⟩, Load.idleMoved, hjudge, if_neg (show ¬true = x.activeNow.idle from nofun),
        if_pos rfl, if_pos (show x.activeNow.state = .active from rfl)]
    rw [if_pos hidle, hmoved]
    by_cases hpress : x.cfg.kind = .press ∧ 0 < r.strokes.getD 0
    · rw [if_pos hpress, Load.struck, if_pos ⟨hpress.1, rfl, hpress.2⟩, if_neg (show ¬LoadState.idling = .active from nofun),
        Load.keepFlags_eq, Load.keepFlags_eq]
      rfl
    · rw [if_neg hpress, Load.struck, if_neg fun h => hpress ⟨h.1, h.2.2⟩, Load.keepFlags_eq, Load.keepFlags_eq]
      rfl
  · have hsame : x.activeNow.judged r = x.activeNow := by
      unfold Load.judged
      split
      · next hand =>
        have hjudge : x.activeNow.judgedIdle = x.activeNow.idle := by
          have hbusy : ¬x.activeNow.reported ≤ x.activeNow.cfg.idleThreshold := fun h => hidle ⟨hand.1, h⟩
          rw [Load.judgedIdle, if_neg hbusy]
          split <;> rfl
        rw [Load.idleMoved, if_pos hjudge]
      · rfl
    have hstruck : x.activeNow.struck (r.strokes.getD 0) = x.activeNow := by
      rw [Load.struck]
      split
      · exact if_pos rfl
      · rfl
    rw [if_neg hidle, hsame, hstruck, Load.keepFlags_eq, Load.keepFlags_eq]
    rfl

/-! ## A sample without strokes (R35, R36) -/

/-- What the judgement makes of idle flag, state and dwell of an assessed load. -/
theorem Load.idleMoved_cases (h : (l.state = .active ∧ l.idle = false) ∨ (l.state = .idling ∧ l.idle = true) ∨
      l.state = .parkPending) :
    if l.judgedIdle = true ∧ l.state = .active then
      l.idleMoved.idle = true ∧ l.idleMoved.state = .idling ∧ l.idleMoved.dwell = 0
    else if l.judgedIdle = false ∧ l.idle = true ∧ (l.state = .idling ∨ (l.state = .parkPending ∧ l.manual = false)) then
      l.idleMoved.idle = false ∧ l.idleMoved.state = .active ∧ l.idleMoved.dwell = 0
    else l.idleMoved.idle = l.judgedIdle ∧ l.idleMoved.state = l.state ∧ l.idleMoved.dwell = l.dwell := by
  unfold Load.idleMoved
  rcases h with ⟨hstate, hidle⟩ | ⟨hstate, hidle⟩ | hstate
  · cases hj : l.judgedIdle <;> simp [hstate, hidle]
  · cases hj : l.judgedIdle <;> simp [hstate, hidle, Load.activeNow]
  · cases hj : l.judgedIdle <;> cases hi : l.idle <;> cases hm : l.manual <;> simp [hstate, hi, Load.activeNow]

/-- An assessed load takes a valid sample: without strokes the judgement is the whole assessment. -/
theorem Load.assessed_sample {raw : Nat} (h : l.isAssessed = true) (hs : r.sample = some raw)
    (hstrokes : l.cfg.kind = .press → r.strokes = none ∨ r.strokes = some 0) :
    l.assessed curves now r = ((l.smoothed curves now raw).idleMoved).keepFlags r := by
  have hseen : l.seen curves now r = l.smoothed curves now raw := by rw [Load.seen, hs]
  have hjudged : (l.smoothed curves now raw).judged r = (l.smoothed curves now raw).idleMoved :=
    if_pos ⟨by rw [hs]; rfl, h⟩
  have hstruck (x : Load) (hx : x.cfg = l.cfg) : x.struck (r.strokes.getD 0) = x := by
    refine if_neg fun hpress => ?_
    rcases hstrokes (hx ▸ hpress.1) with h0 | h0 <;> simp [h0] at hpress
  rw [Load.assessed_eq, hseen, hjudged, hstruck _ (by rw [Load.idleMoved_kept]; rfl)]

end

end Sys2Proof.Machine
end

section
/-!
PROOFS. A report without an edge (R5, R15 to R18, R29, R35 to R38).
-/

namespace Sys2Proof.Machine

section

variable {p q : Plant} {s t : State} {n m : Nat} {l x y : Load} {r : Report} {how : Adoption} {clock : Option Clock}

/-! ## A load that its report brings to ACTIVE -/

/-- The entry into ACTIVE, and the assessment of the same report. -/
def Plant.runs (clock : Option Clock) (n : Nat) (r : Report) (q : Plant) : Plant := (q.enterActive clock n).assess clock n r

theorem Plant.enterActive_clears_of (hset : (p.setLoad n Load.activeNow).sound) (hl : p.load? n = some l)
    (hfan : l.isZoneFan) (clock : Option Clock) (hm : m ≠ n) (hx : p.load? m = some x) (hstate : x.state = .wakeQueued)
    (hzone : x.cfg.zone = l.cfg.zone) : ∃ z, (p.enterActive clock n).load? m = some z ∧ z.awaitingFan = false := by
  have hx' := (Plant.load?_set_other (f := Load.activeNow) hm).trans hx
  rw [Plant.enterActive_bound hl, if_pos hfan]
  have hcleared := Plant.clearAwaiting_load? hx' hstate hzone
  have hclear := Plant.calm_clearAwaiting l.cfg.zone hset
  obtain ⟨z, hz, hcalm⟩ := (Plant.calm_grantAll clock hclear.sound).loads.bound Load.Calm.num hcleared
  refine ⟨z, hz, ?_⟩
  rcases hcalm with rfl | ⟨-, -, -, -, hkeep⟩
  · rfl
  · exact hkeep rfl

/-- The plant in which a load is about to enter ACTIVE: the load as it is then, the others as before. -/
structure Plant.Starts (n : Nat) (p q : Plant) (y : Load) : Prop where
  self : q.load? n = some y
  others : ∀ m, m ≠ n → q.load? m = p.load? m
  curves : q.curves = p.curves
  sound : (q.setLoad n Load.activeNow).sound

theorem Plant.Starts.numbered (h : p.Starts n q y) : q.numbered :=
  Plant.numbered_congr (Plant.setLoad_nums n Load.activeNow q).symm h.sound.numbered

theorem Plant.enterActive_curves (clock : Option Clock) (n : Nat) (q : Plant) : (q.enterActive clock n).curves = q.curves :=
  (Plant.frame_enterActive clock n q).curves

theorem Load.assessed_not_queued {curves : Vector Knots 8} {now : Option Stamp} (y : Load) :
    (y.activeNow.assessed curves now r).state ≠ .wakeQueued :=
  fun h => LoadState.noConfusion ((Load.sameUnitView_assessed curves now y.activeNow r).queued.mp h)

theorem Plant.Starts.becomes (h : p.Starts n q y) (clock : Option Clock) (r : Report) :
    Plant.Becomes n (fun x => x.activeNow.assessed p.curves (clock.map Clock.stamp) r) q (q.runs clock n r) := by
  have hactive := Plant.calm_enterActive_of h.sound h.self clock
  have hassess := Plant.becomes_assess hactive.sound (hactive.self h.self (fun _ => rfl) LoadState.noConfusion) clock r
  rw [Plant.enterActive_curves, h.curves] at hassess
  exact hactive.next h.numbered h.self (fun _ => rfl) LoadState.noConfusion hassess

theorem Load.runs_num {curves : Vector Knots 8} {now : Option Stamp} (x : Load) :
    (x.activeNow.assessed curves now r).num = x.num := (Load.sameUnitView_assessed curves now x.activeNow r).num

/-- The load itself. -/
theorem Plant.Starts.runs_self (h : p.Starts n q y) (clock : Option Clock) (r : Report) :
    (q.runs clock n r).load? n = some (y.activeNow.assessed p.curves (clock.map Clock.stamp) r) :=
  (h.becomes clock r).self h.self Load.runs_num y.assessed_not_queued

/-- Every other load that is not WAKE_QUEUED. -/
theorem Plant.Starts.runs_other (h : p.Starts n q y) (clock : Option Clock) (r : Report) (hm : m ≠ n)
    (hx : p.load? m = some x) (hstate : x.state ≠ .wakeQueued) : (q.runs clock n r).load? m = some x :=
  (h.becomes clock r).other Load.runs_num hm ((h.others m hm).trans hx) hstate

/-- Without a fan of a zone the load alone changes. -/
theorem Plant.Starts.runs_plain (h : p.Starts n q y) (clock : Option Clock) (r : Report) (hfan : ¬y.isZoneFan) :
    (∀ m, m ≠ n → (q.runs clock n r).load? m = p.load? m) ∧ (q.runs clock n r).feeders = q.feeders := by
  have hplant : q.runs clock n r = (q.setLoad n Load.activeNow).setLoad n
      (Load.assessed q.curves (clock.map Clock.stamp) r) := by
    rw [Plant.runs, Plant.enterActive_plain h.self hfan]
    exact Plant.assess_plain h.sound (Plant.load?_set (f := Load.activeNow) h.self) (fun hand => hfan hand.1) clock r
  rw [hplant]
  refine ⟨fun m hm => ?_, rfl⟩
  rw [Plant.load?_set_other hm fun x => (Load.sameUnitView_assessed _ _ x r).num,
    Plant.load?_set_other (f := Load.activeNow) hm, h.others m hm]

/-- A fan of a zone ends the waiting of the zone's loads (R77). -/
theorem Plant.Starts.runs_clears (h : p.Starts n q y) (clock : Option Clock) (r : Report) (hfan : y.isZoneFan) (hm : m ≠ n)
    (hx : p.load? m = some x) (hstate : x.state = .wakeQueued) (hzone : x.cfg.zone = y.cfg.zone) :
    ∃ z, (q.runs clock n r).load? m = some z ∧ z.awaitingFan = false := by
  obtain ⟨z, hz, hfree⟩ := Plant.enterActive_clears_of h.sound h.self hfan clock hm ((h.others m hm).trans hx) hstate hzone
  have hactive := Plant.calm_enterActive_of h.sound h.self clock
  have hassess := Plant.becomes_assess hactive.sound (hactive.self h.self (fun _ => rfl) LoadState.noConfusion) clock r
  obtain ⟨w, hw, hcalm⟩ := hassess.loads.bound Load.Calm.num
    ((Plant.load?_set_other hm fun x => (Load.sameUnitView_assessed _ _ x r).num).trans hz)
  refine ⟨w, hw, ?_⟩
  rcases hcalm with rfl | ⟨-, -, -, -, hkeep⟩
  · exact hfree
  · exact hkeep hfree

end

end Sys2Proof.Machine
end

section
/-!
PROOFS. A report without an edge, by the state of its load (R5, R15 to R18, R29, R35 to R38).
-/

namespace Sys2Proof.Machine

section

variable {p q : Plant} {s t : State} {n m : Nat} {l x y : Load} {r : Report} {how : Adoption}

theorem RunState.isRunning_iff {run : RunState} : run.isRunning = true ↔ run ≠ .stopped := by
  cases run <;> decide

theorem RunState.not_isRunning : ¬RunState.isRunning .stopped = true := Bool.false_ne_true

theorem State.callEdge_same (n : Nat) (r : Report) (s : State) : s.callEdge n r.call r = s := by
  unfold State.callEdge
  cases r.call <;> rfl

theorem State.lockoutEdge_same (n : Nat) (r : Report) (s : State) : s.lockoutEdge n r.lockout r = s := by
  unfold State.lockoutEdge
  cases r.lockout <;> rfl

/-- Without an edge a report sets the holds, and then run state and assessment follow. -/
theorem State.takeReport_plain (n : Nat) (how : Adoption) (r : Report) (s : State) :
    s.takeReport n how r.call r.lockout r =
      ((s.heldBy n r).applyRunState n how r).onPlantNow (fun c => Plant.assess c n r) := by
  rw [State.takeReport, State.applyHolds_eq, State.callEdge_same, State.lockoutEdge_same]

theorem State.heldBy_load? (hl : s.load? n = some l) (r : Report) : (s.heldBy n r).load? n = some (l.heldBy r) :=
  Plant.load?_set (f := Load.heldBy r) hl

/-- The assessment of a load that has just been changed: beyond a fan of a zone its record alone changes. -/
theorem Plant.assess_set {f : Load → Load} (hf : ∀ x, (f x).num = x.num) (hp : p.sound) (hset : (p.setLoad n f).sound)
    (hl : p.load? n = some l) (h : ¬((f l).isZoneFan ∧ (f l).isAssessed = true)) (clock : Option Clock) (r : Report) :
    (p.setLoad n f).assess clock n r =
      p.setLoad n (fun _ => (f l).assessed p.curves (clock.map Clock.stamp) r) := by
  rw [Plant.assess_plain hset (Plant.load?_set hl hf) h, Plant.setLoad_setLoad n f _ hf]
  exact Plant.setLoad_congr hp.numbered fun x hx => by rw [hl] at hx; cases hx; rfl

/-! ## The run state of a report (R15 to R18) -/

theorem State.applyRunState_still (hl : s.load? n = some l)
    (h : ((l.state = .active ∨ l.state = .idling ∨ l.state = .parkPending) ∧ r.run ≠ .stopped) ∨ l.state = .faulted ∨
      (r.run ≠ .running ∧ ∃ w, l.state = .waking w) ∨
        (r.run = .stopped ∧ (l.state = .stopped ∨ l.state = .parked ∨ l.state = .wakeQueued))) :
    s.applyRunState n how r = s := by
  simp only [State.applyRunState, hl]
  rcases h with ⟨hstate, hrun⟩ | hstate | ⟨hrun, w, hstate⟩ | ⟨hrun, hstate⟩
  · have hrunning := RunState.isRunning_iff.mpr hrun
    rcases hstate with hstate | hstate | hstate <;> simp [hstate, hrunning]
  · simp [hstate]
  · simp [hstate, State.wakingReport, hrun]
  · rcases hstate with hstate | hstate | hstate <;> simp [hstate, hrun, RunState.isRunning]

theorem State.applyRunState_stopped (hl : s.load? n = some l)
    (hstate : l.state = .active ∨ l.state = .idling ∨ l.state = .parkPending) (hrun : r.run = .stopped) :
    s.applyRunState n how r = s.stoppedAtMachine n := by
  simp only [State.applyRunState, hl]
  rcases hstate with hstate | hstate | hstate <;> simp [hstate, hrun, RunState.isRunning]

theorem State.applyRunState_starts (hl : s.load? n = some l) (hrun : r.run ≠ .stopped) :
    (l.state = .stopped → s.applyRunState n how r = s.enterActive n) ∧
    (l.state = .parked → s.applyRunState n how r = s.localStart n) ∧
    (l.state = .wakeQueued → s.applyRunState n how r = s.queuedLocalStart n) := by
  have hrunning := RunState.isRunning_iff.mpr hrun
  refine ⟨fun hstate => ?_, fun hstate => ?_, fun hstate => ?_⟩ <;> simp only [State.applyRunState, hl, hstate] <;>
    exact if_pos hrunning

/-! ## Reports that move the load by their assessment alone -/

/-- A report whose run state moves nothing: the load after it. -/
theorem State.takeReport_still_load? (hp : s.plant.sound) (hl : s.load? n = some l)
    (hstill : (s.heldBy n r).applyRunState n how r = s.heldBy n r) :
    (s.takeReport n how r.call r.lockout r).load? n = some ((l.heldBy r).assessed s.plant.curves s.now r) := by
  rw [State.takeReport_plain, hstill]
  have hheld := State.heldBy_sound hp n r
  have hself := State.heldBy_load? hl r
  cases hq : l.state == .wakeQueued with
  | false =>
    exact (Plant.becomes_assess hheld hself s.calendar.clock r).self hself
      (fun x => (Load.sameUnitView_assessed _ _ x r).num)
      (fun h => beq_eq_false_iff_ne.mp hq ((Load.sameUnitView_assessed _ _ (l.heldBy r) r).queued.mp h))
  | true =>
    have hstate := beq_iff_eq.mp hq
    have hassessed : (l.heldBy r).isAssessed = false := by
      rw [Bool.eq_false_iff, ne_eq, Load.isAssessed_iff]
      rintro (h | h | h) <;> exact LoadState.noConfusion (hstate.symm.trans h)
    have hplain := Plant.assess_plain hheld hself (fun h => Bool.false_ne_true (hassessed.symm.trans h.2))
      s.calendar.clock r
    have hload : ((s.heldBy n r).plant.assess s.calendar.clock n r).load? n =
        some ((l.heldBy r).assessed s.plant.curves s.now r) := by
      rw [hplain]
      exact Plant.load?_set hself fun x => (Load.sameUnitView_assessed _ _ x r).num
    exact hload

/-- A report whose run state moves nothing, and that assesses no fan of a zone: the whole state after it. -/
theorem State.takeReport_still (hp : s.plant.sound) (hl : s.load? n = some l)
    (hstill : (s.heldBy n r).applyRunState n how r = s.heldBy n r) (h : ¬(l.isZoneFan ∧ l.isAssessed = true)) :
    s.takeReport n how r.call r.lockout r =
      { s with plant := s.plant.setLoad n (fun _ => (l.heldBy r).assessed s.plant.curves s.now r) } := by
  rw [State.takeReport_plain, hstill]
  exact congrArg (fun p => ({ s with plant := p } : State))
    (Plant.assess_set (f := Load.heldBy r) (fun _ => rfl) hp (State.heldBy_sound hp n r) hl h s.calendar.clock r)

theorem Load.isAssessed_of_still
    (h : l.state = .faulted ∨ (r.run ≠ .running ∧ ∃ w, l.state = .waking w) ∨
        (r.run = .stopped ∧ (l.state = .stopped ∨ l.state = .parked ∨ l.state = .wakeQueued))) : l.isAssessed = false := by
  rw [Bool.eq_false_iff, ne_eq, Load.isAssessed_iff]
  rcases h with h | ⟨-, w, h⟩ | ⟨-, h | h | h⟩ <;> simp [h]

/-! ## A running load found stopped (R15) -/

/-- An event of a load and a change that keeps its event enables, in either order. -/
theorem State.raiseLoad_onPlantNow {f : Option Clock → Plant → Plant} {e : LoadEvent} (hl : s.load? n = some l)
    (hm : (s.onPlantNow f).load? n = some x) (hevents : x.cfg.events = l.cfg.events) :
    (s.raiseLoad n e).onPlantNow f = (s.onPlantNow f).raiseLoad n e := by
  rw [State.raiseLoad_bound hl, State.raiseLoad_bound hm, hevents]
  unfold State.offer
  rw [State.onPlantNow_alerts]
  split <;> rfl

theorem Load.underReport_stoppedNow (curves : Vector Knots 8) (now : Option Stamp) (r : Report) (l : Load) :
    l.stoppedNow.underReport curves now r = (l.underReport curves now r).stoppedNow := by
  rw [Load.underReport_eq, Load.underReport_eq, Load.keepFlags_eq, Load.keepFlags_eq]
  unfold Load.seen
  cases r.sample <;> rfl

theorem State.takeReport_stopped (hp : s.plant.sound) (hl : s.load? n = some l)
    (hstate : l.state = .active ∨ l.state = .idling ∨ l.state = .parkPending) (hrun : r.run = .stopped) :
    s.takeReport n how r.call r.lockout r =
      ({ s with plant := s.plant.setLoad n (fun _ => (l.underReport s.plant.curves s.now r).stoppedNow) } : State).raiseLoad n
        .stoppedExt := by
  have hheld := State.heldBy_load? hl r
  have hrests := Load.rests_of_assessed (Load.isAssessed_iff.mpr hstate)
  have hset : (s.plant.setLoad n (fun x => (x.heldBy r).stoppedNow)).sound :=
    Plant.sound_setLoad_rests hp hl hrests (fun _ => rfl) (Load.rests_of_state nofun nofun)
  have hstopped : ((s.heldBy n r).setLoad n Load.stoppedNow).onPlantNow (fun c => Plant.assess c n r) =
      { s with plant := s.plant.setLoad n (fun _ => (l.underReport s.plant.curves s.now r).stoppedNow) } := by
    have hplant := Plant.setLoad_setLoad n (Load.heldBy r) Load.stoppedNow (fun _ => rfl) s.plant
    have hassess := Plant.assess_set (f := fun x => (x.heldBy r).stoppedNow) (fun _ => rfl) hp hset hl (fun h => Bool.false_ne_true h.2) s.calendar.clock r
    rw [show (l.heldBy r).stoppedNow = l.stoppedNow.heldBy r from rfl, Load.assessed_resting (l := l.stoppedNow) rfl,
      Load.underReport_stoppedNow, ← hplant] at hassess
    exact congrArg (fun p => ({ s with plant := p } : State)) hassess
  have hself : ((s.heldBy n r).setLoad n Load.stoppedNow).load? n = some (l.heldBy r).stoppedNow :=
    Plant.load?_set (f := Load.stoppedNow) hheld
  have hafter : (s.plant.setLoad n (fun _ => (l.underReport s.plant.curves s.now r).stoppedNow)).load? n =
      some (l.underReport s.plant.curves s.now r).stoppedNow := by
    rw [Plant.setLoad_congr hp.numbered (g := fun x => (x.underReport s.plant.curves s.now r).stoppedNow) fun x hx => by
      rw [show s.plant.load? n = some l from hl] at hx; cases hx; rfl]
    exact Plant.load?_set hl fun x => x.underReport_num s.plant.curves s.now r
  rw [State.takeReport_plain, State.applyRunState_stopped hheld hstate hrun]
  refine (State.raiseLoad_onPlantNow hself (x := (l.underReport s.plant.curves s.now r).stoppedNow) ?_ ?_).trans ?_
  · rw [hstopped]
    exact hafter
  · exact congrArg LoadConfig.events (l.underReport_cfg s.plant.curves s.now r)
  · rw [hstopped]

/-! ## A load found running (R16 to R18) -/

theorem Plant.starts_stopped (hp : p.sound) (hl : p.load? n = some l) (hstate : l.state = .stopped) (r : Report) :
    p.Starts n (p.setLoad n (Load.heldBy r)) (l.heldBy r) where
  self := Plant.load?_set (f := Load.heldBy r) hl
  others _ hm := Plant.load?_set_other (f := Load.heldBy r) hm
  curves := rfl
  sound := by
    have hheld := (Plant.sameUnits_setLoad n (Load.heldBy r) p).sound hp
    have hrests : (l.heldBy r).rests := Load.rests_of_state (by simp [Load.heldBy, hstate]) (by simp [Load.heldBy, hstate])
    exact Plant.sound_setLoad_rests hheld (Plant.load?_set (f := Load.heldBy r) hl) hrests (fun _ => rfl)
      (Load.rests_activeNow _)

/-- The record of a PARKED load whose local start is about to bring it into ACTIVE (R17). -/
def Load.noLongerParked (l : Load) : Load := { l with parkOwned := false, wakeDue := false }

/-- A load that rests, with a change that leaves it resting, and its order withdrawn. -/
theorem Plant.starts_finish {f : Load → Load} (hp : p.sound) (hl : p.load? n = some l) (hrests : (l.heldBy r).rests)
    (hfl : (f (l.heldBy r)).rests) (hf : ∀ x, (f x).num = x.num := by intro; rfl) :
    p.Starts n ((p.setLoad n (Load.heldBy r)).finish n f) (f (l.heldBy r)).undue := by
  have hheld := (Plant.sameUnits_setLoad n (Load.heldBy r) p).sound hp
  have hself : (p.setLoad n (Load.heldBy r)).load? n = some (l.heldBy r) := Plant.load?_set (f := Load.heldBy r) hl
  have hfinish := Plant.becomes_finish (f := f) hheld hself hrests hfl hf
  have hsame := Plant.finish_sameButLoad n f (p.setLoad n (Load.heldBy r)) hf
  have hafter := Plant.finish_load? (f := f) hself hf
  refine ⟨hafter, fun m hm => (hsame.1 m hm).trans (Plant.load?_set_other (f := Load.heldBy r) hm), hsame.2.2, ?_⟩
  exact Plant.sound_setLoad_rests hfinish.sound hafter hfl (fun _ => rfl) (Load.rests_activeNow _)

theorem Plant.starts_parked (hp : p.sound) (hl : p.load? n = some l) (hstate : l.state = .parked) (r : Report) :
    p.Starts n ((p.setLoad n (Load.heldBy r)).finish n Load.noLongerParked)
      ({ l with parkOwned := false, wakeDue := false, due := none }.heldBy r) := by
  have hrests : (l.heldBy r).rests := Load.rests_of_state (by simp [Load.heldBy, hstate]) (by simp [Load.heldBy, hstate])
  exact Plant.starts_finish (f := Load.noLongerParked) hp hl hrests hrests

theorem Plant.starts_queued (hp : p.sound) (hl : p.load? n = some l) (hstate : l.state = .wakeQueued) (r : Report) :
    p.Starts n ((p.setLoad n (Load.heldBy r)).leftRunning n)
      ({ l with parkOwned := false, awaitingFan := false, due := none }.heldBy r) := by
  have hheld := (Plant.sameUnits_setLoad n (Load.heldBy r) p).sound hp
  have hself : (p.setLoad n (Load.heldBy r)).load? n = some (l.heldBy r) := Plant.load?_set (f := Load.heldBy r) hl
  have hloads := Plant.leftRunning_loads hheld.numbered hself
  have hactive : (((p.setLoad n (Load.heldBy r)).leftRunning n).setLoad n Load.activeNow).loads =
      ((p.setLoad n (Load.heldBy r)).setLoad n Load.startedQueued).loads := Plant.setLoad_loads_of hloads Load.activeNow
  refine ⟨Plant.load?_leftRunning hheld.numbered hself, fun m hm => ?_, ?_, ?_⟩
  · rw [Plant.load?_of_loads hloads, Plant.load?_set_other (f := Load.leftQueue) hm,
      Plant.load?_set_other (f := Load.heldBy r) hm]
  · rw [Plant.leftRunning, (Plant.sameFrame_withdraw n _).curves]
    exact (Plant.sameFrame_leaveQueue n _).curves
  · exact Plant.leaveQueue_sound (f := Load.startedQueued) hheld hself hstate (fun _ => rfl) (Load.rests_activeNow _) hactive
      (Plant.leftRunning_feeders hself)

/-- What a start by its report makes of the plant. -/
theorem Plant.Starts.ran (h : s.plant.Starts n q (x.heldBy r)) (hcfg : x.cfg = l.cfg)
    (ht : t.plant = q.runs s.calendar.clock n r) :
    t.load? n = some (x.activated s.plant.curves s.now r) ∧
      (∀ m y, m ≠ n → s.load? m = some y → y.state ≠ .wakeQueued → t.load? m = some y) ∧
      (l.cfg.kind ≠ .fan ∨ l.cfg.zone = 0 → (∀ m, m ≠ n → t.load? m = s.load? m) ∧ t.plant.feeders = q.feeders) ∧
      (l.cfg.kind = .fan → l.cfg.zone ≠ 0 → ∀ m y, m ≠ n → s.load? m = some y → y.state = .wakeQueued →
        y.cfg.zone = l.cfg.zone → ∃ z, t.load? m = some z ∧ z.awaitingFan = false) := by
  have hload (m : Nat) : t.load? m = (q.runs s.calendar.clock n r).load? m := by rw [State.load?, ht]
  have hfan : (x.heldBy r).isZoneFan ↔ l.cfg.kind = .fan ∧ l.cfg.zone ≠ 0 := by rw [← hcfg]; exact Iff.rfl
  simp only [hload, ht]
  refine ⟨?_, fun m y hm hy hstate => h.runs_other _ r hm hy hstate, fun hplain => ?_, fun hkind hzone m y hm hy hstate hsame =>
    h.runs_clears _ r (hfan.mpr ⟨hkind, hzone⟩) hm hy hstate (hsame.trans (congrArg LoadConfig.zone hcfg.symm))⟩
  · rw [h.runs_self, Load.assessed_activeNow]
    rfl
  · exact h.runs_plain _ r fun hand => hplain.elim (fun hkind => hkind (hfan.mp hand).1) (fun hzone => (hfan.mp hand).2 hzone)

/-! ## The obligation -/

theorem State.localStart_plant (n : Nat) (s : State) :
    (s.localStart n).plant = (s.plant.finish n Load.noLongerParked).enterActive s.calendar.clock n := by
  rw [State.localStart, State.raiseLoad_plant]
  rfl

theorem State.queuedLocalStart_plant (n : Nat) (s : State) :
    (s.queuedLocalStart n).plant = (s.plant.leftRunning n).enterActive s.calendar.clock n := by
  rw [State.queuedLocalStart, State.raiseLoad_plant]
  rfl

/-- The alert block after a local start, whose record keeps its event enables up to the event. -/
theorem State.started_alerts {u : State} (hl : s.load? n = some l) (hu : u.load? n = some x) (hcfg : x.cfg = l.cfg)
    (hcalendar : u.calendar = s.calendar) (halerts : u.alerts = s.alerts) :
    (u.raiseLoad n .localStart).alerts = (s.raiseLoad n .localStart).alerts :=
  State.raiseLoad_alerts_congr hl hu (congrArg LoadConfig.events hcfg) hcalendar halerts

/-- Where a start by its report leaves the plant, and with it the alert block. -/
theorem State.takeReport_starts (hp : s.plant.sound) (hl : s.load? n = some l) (hrun : r.run ≠ .stopped)
    (hx : (l.state = .stopped ∧ x = l) ∨
      (l.state = .parked ∧ x = { l with parkOwned := false, wakeDue := false, due := none }) ∨
      (l.state = .wakeQueued ∧ x = { l with parkOwned := false, awaitingFan := false, due := none })) :
    ∃ q, s.plant.Starts n q (x.heldBy r) ∧ x.cfg = l.cfg ∧
      (s.takeReport n how r.call r.lockout r).plant = q.runs s.calendar.clock n r ∧
      q.feeders = (if l.state = .wakeQueued then
          s.plant.setFeeder l.cfg.feeder (fun f => { f with queue := f.queue.filter (fun e => e.load != n) })
        else s.plant).feeders ∧
      (s.takeReport n how r.call r.lockout r).alerts =
        (if l.state = .stopped then s else s.raiseLoad n .localStart).alerts := by
  have hheld := State.heldBy_load? hl r
  obtain ⟨hstopped, hparked, hqueued⟩ := State.applyRunState_starts (how := how) hheld hrun
  rw [State.takeReport_plain, State.onPlantNow_plant, State.onPlantNow_alerts]
  have hactive {u : State} {q : Plant} {y : Load} (hstarts : s.plant.Starts n q y) (hu : u.plant = q) (hcfg : y.cfg = l.cfg) :
      ∃ z, (u.enterActive n).load? n = some z ∧ z.cfg = l.cfg := by
    subst hu
    exact ⟨_, (Plant.calm_enterActive_of hstarts.sound hstarts.self _).self hstarts.self (fun _ => rfl)
      LoadState.noConfusion, hcfg⟩
  rcases hx with ⟨hstate, rfl⟩ | ⟨hstate, rfl⟩ | ⟨hstate, rfl⟩
  · refine ⟨_, Plant.starts_stopped hp hl hstate r, rfl, ?_⟩
    rw [hstopped hstate, if_neg (by rw [hstate]; exact LoadState.noConfusion), if_pos hstate]
    exact ⟨rfl, rfl, rfl⟩
  · have hstarts := Plant.starts_parked hp hl hstate r
    have hplant := State.localStart_plant n (s.heldBy n r)
    refine ⟨_, hstarts, rfl, ?_⟩
    rw [hparked hstate, if_neg (by rw [hstate]; exact LoadState.noConfusion),
      if_neg (by rw [hstate]; exact LoadState.noConfusion)]
    refine ⟨?_, Plant.finish_feeders, ?_⟩
    · rw [hplant]
      unfold State.localStart
      rw [State.raiseLoad_calendar]
      rfl
    · obtain ⟨z, hz, hcfg⟩ := hactive (u := ((s.heldBy n r).setLoad n Load.noLongerParked).withdraw n) hstarts rfl rfl
      exact State.started_alerts hl hz hcfg rfl rfl
  · have hstarts := Plant.starts_queued hp hl hstate r
    have hplant := State.queuedLocalStart_plant n (s.heldBy n r)
    refine ⟨_, hstarts, rfl, ?_⟩
    rw [hqueued hstate, if_pos hstate, if_neg (by rw [hstate]; exact LoadState.noConfusion)]
    refine ⟨?_, (Plant.leftRunning_feeders (Plant.load?_set (f := Load.heldBy r) hl)).trans rfl, ?_⟩
    · rw [hplant]
      unfold State.queuedLocalStart
      rw [State.raiseLoad_calendar]
      rfl
    · obtain ⟨z, hz, hcfg⟩ := hactive (u := (((s.heldBy n r).onPlant (Plant.leaveQueue n)).setLoad n
        (fun l => { l with parkOwned := false })).withdraw n) hstarts rfl rfl
      exact State.started_alerts hl hz hcfg rfl rfl

/-- The idle judgement of a running report's sample (R29, R35, R36). -/
theorem Load.assessed_sample_fields {curves : Vector Knots 8} {now : Option Stamp} {raw : Nat}
    (hstate : (l.state = .active ∧ l.idle = false) ∨ (l.state = .idling ∧ l.idle = true) ∨ l.state = .parkPending)
    (hs : r.sample = some raw) (hstrokes : l.cfg.kind = .press → r.strokes = none ∨ r.strokes = some 0) :
    ∃ m, (l.heldBy r).assessed curves now r = m ∧ m.cfg = l.cfg ∧ m.manual = l.manual ∧
      m.parkOwned = l.parkOwned ∧ m.due = l.due ∧ m.a16 = l.sampled curves[l.cfg.curve] raw ∧
      m.sampleAge = some 0 ∧ m.sampleTime = now ∧
      m.hold = { byCall := r.call, byHost := l.hold.byHost, byLockout := r.lockout } ∧
      (let idle :=
        if m.reported ≤ l.cfg.idleThreshold then true
        else if l.cfg.busyThreshold ≤ m.reported then false else l.idle
      if idle = true ∧ l.state = .active then m.idle = true ∧ m.state = .idling ∧ m.dwell = 0
      else if idle = false ∧ l.idle = true ∧ (l.state = .idling ∨ (l.state = .parkPending ∧ l.manual = false)) then
        m.idle = false ∧ m.state = .active ∧ m.dwell = 0
      else m.idle = idle ∧ m.state = l.state ∧ m.dwell = l.dwell) := by
  have hassessed : (l.heldBy r).isAssessed = true :=
    Load.isAssessed_iff.mpr (hstate.imp And.left (Or.imp_left And.left))
  have hcases := Load.idleMoved_cases (l := (l.heldBy r).smoothed curves now raw) hstate
  rw [Load.assessed_sample hassessed hs hstrokes, Load.keepFlags_eq]
  have hkept := ((l.heldBy r).smoothed curves now raw).idleMoved_kept
  refine ⟨_, rfl, ?_⟩
  rw [hkept]
  exact ⟨rfl, rfl, rfl, rfl, rfl, rfl, rfl, rfl, hcases⟩

/-- Settles O27: hold flags, run state and assessment of a report without an edge, by the state of its load. -/
theorem runningReportIsAssessed : Obligations.RunningReportIsAssessed := by
  refine ⟨fun s n l r raw how hp hl hstate hrun hs hstrokes => ?_, fun s n l r how hp hl => ?_⟩
  · have hassessed : l.state = .active ∨ l.state = .idling ∨ l.state = .parkPending :=
      hstate.imp And.left (Or.imp_left And.left)
    have hstill := State.applyRunState_still (how := how) (State.heldBy_load? hl r) (.inl ⟨hassessed, hrun⟩)
    have hload := State.takeReport_still_load? (how := how) hp hl hstill
    obtain ⟨m, hm, hfields⟩ := Load.assessed_sample_fields (curves := s.plant.curves) (now := s.now) hstate hs hstrokes
    exact ⟨m, hload.trans (congrArg some hm), hfields⟩
  · refine ⟨fun hkind hstate hmanual hrun ⟨k, hk, hpos⟩ => ?_, fun hstate hrun => State.takeReport_stopped hp hl hstate hrun,
      fun h => ?_, fun x hrun hx => ?_⟩
    · have hstill := State.applyRunState_still (how := how) (State.heldBy_load? hl r) (.inl ⟨hstate, hrun⟩)
      have hnofan : ¬(l.isZoneFan ∧ l.isAssessed = true) := fun h => nomatch hkind.symm.trans h.1.1
      rw [State.takeReport_still hp hl hstill hnofan,
        Load.assessed_strokes hkind (Load.isAssessed_iff.mpr hstate) hmanual (by rw [hk]; exact hpos)]
    · have hstill := State.applyRunState_still (how := how) (State.heldBy_load? hl r) (.inr h)
      have hresting := Load.isAssessed_of_still h
      rw [State.takeReport_still hp hl hstill (fun hand => Bool.false_ne_true (hresting.symm.trans hand.2)),
        Load.assessed_resting hresting]
    · obtain ⟨q, hstarts, hcfg, hplant, hfeeders, halerts⟩ := State.takeReport_starts (how := how) hp hl hrun hx
      obtain ⟨hself, hothers, hplain, hclears⟩ := hstarts.ran hcfg hplant
      exact ⟨hself, (State.works_takeReport n how r.call r.lockout r s).beyond, halerts, hothers,
        fun h => ⟨(hplain h).1, (hplain h).2.trans hfeeders⟩, hclears⟩

end

end Sys2Proof.Machine
end

section
/-!
PROOFS. The adoption of an OFFLINE load (R13, R14, R87, R117).
-/

namespace Sys2Proof.Machine

section

variable {s : State} {n : Nat} {l : Load} {r : Report} {how : Adoption}

/-- The record of an adopted load that its report shows stopped, and that was not parked by the part (R13). -/
def Load.adoptedStopped (l : Load) : Load := { l with state := .stopped, wakeDue := false, dwell := 0 }

/-- The load was parked by the part, or is to be adopted as PARKED (R13, R14). -/
abbrev Load.toBeParked (l : Load) : Prop := l.parkOwned = true ∨ l.cfg.adoptParked = true

theorem State.adopt_running (hl : s.load? n = some l) (hrun : r.run ≠ .stopped) :
    s.adopt n how r =
      if l.parkOwned then
        ((s.setLoad n (fun l => { l with wakeDue := false, parkOwned := false })).enterActive n).raiseLoad n .localStart
      else (s.setLoad n (fun l => { l with wakeDue := false, parkOwned := false })).enterActive n := by
  simp only [State.adopt, hl, if_pos (RunState.isRunning_iff.mpr hrun)]

theorem State.adopt_parks (hl : s.load? n = some l) (hrun : r.run = .stopped) (hparks : l.toBeParked) :
    s.adopt n how r = s.adoptParked n how l := by
  have hstopped : ¬r.run.isRunning = true := by rw [hrun]; exact RunState.not_isRunning
  simp only [State.adopt, hl, if_neg hstopped, if_pos hparks]

theorem State.adopt_stops (hl : s.load? n = some l) (hrun : r.run = .stopped) (hparks : ¬l.toBeParked) :
    s.adopt n how r = s.setLoad n Load.adoptedStopped := by
  have hstopped : ¬r.run.isRunning = true := by rw [hrun]; exact RunState.not_isRunning
  simp only [State.adopt, hl, if_neg hstopped, if_neg hparks]
  rfl

theorem Load.rests_of_offline (hstate : l.state = .offline) : l.rests :=
  Load.rests_of_state (by simp [hstate]) (by simp [hstate])

theorem State.adopt_running_load? (hp : s.plant.sound) (hl : s.load? n = some l) (hstate : l.state = .offline)
    (hrun : r.run ≠ .stopped) : (s.adopt n how r).load? n = some l.adoptedActive := by
  have hrests := Load.rests_of_offline hstate
  have hactive : ((s.setLoad n (fun l => { l with wakeDue := false, parkOwned := false })).enterActive n).load? n =
      some l.adoptedActive :=
    (Plant.becomes_setThenActive (fun l => { l with wakeDue := false, parkOwned := false }) hp hl hrests hrests
      s.calendar.clock).self hl (fun _ => rfl) LoadState.noConfusion
  rw [State.adopt_running hl hrun]
  split
  · rw [State.load?, State.raiseLoad_plant]
    exact hactive
  · exact hactive

theorem State.adopt_running_alerts (hp : s.plant.sound) (hl : s.load? n = some l) (hstate : l.state = .offline)
    (hrun : r.run ≠ .stopped) :
    (s.adopt n how r).alerts = (if l.parkOwned = true then s.raiseLoad n .localStart else s).alerts := by
  have hrests := Load.rests_of_offline hstate
  have hactive : ((s.setLoad n (fun l => { l with wakeDue := false, parkOwned := false })).enterActive n).load? n =
      some l.adoptedActive :=
    (Plant.becomes_setThenActive (fun l => { l with wakeDue := false, parkOwned := false }) hp hl hrests hrests
      s.calendar.clock).self hl (fun _ => rfl) LoadState.noConfusion
  rw [State.adopt_running hl hrun]
  split
  · exact State.raiseLoad_alerts_congr hl hactive rfl rfl rfl
  · rfl

/-! ## Adoption as PARKED -/

theorem Load.adoptedParked_cfg (l : Load) :
    l.adoptedParked.cfg = if l.parkOwned = true then l.cfg else { l.cfg with adoptParked := false } := by
  unfold Load.adoptedParked
  cases l.parkOwned <;> simp

theorem State.adoptParked_still (hp : s.plant.sound) (hl : s.load? n = some l) (hstate : l.state = .offline)
    (hwake : ¬(l.wakeDue = true ∨ how = .interrupted)) : (s.adoptParked n how l).load? n = some (l.adoptedStill how) := by
  rw [State.adoptParked_eq, if_neg hwake]
  exact (State.becomes_adoptStill hp hl (Load.rests_of_offline hstate) how).self hl (fun _ => rfl) LoadState.noConfusion

theorem State.adoptParked_wakes (hp : s.plant.sound) (hl : s.load? n = some l) (hstate : l.state = .offline)
    (hwake : l.wakeDue = true ∨ how = .interrupted) :
    ∃ m, (s.adoptParked n how l).load? n = some m ∧ m.onItsWay ∧ m.wakeDue = false ∧ m.core = (l.adoptedStill how).core := by
  have hstill := State.becomes_adoptStill hp hl (Load.rests_of_offline hstate) how
  rw [State.adoptParked_eq, if_pos hwake]
  exact Plant.wake_parked (s.adoptStill n how).calendar.clock hstill.sound
    (hstill.self hl (fun _ => rfl) LoadState.noConfusion) rfl

theorem State.adoptStill_alerts (how : Adoption) (n : Nat) (s : State) : (s.adoptStill n how).alerts = s.alerts := by
  unfold State.adoptStill
  split <;> rfl

theorem State.adoptParked_alerts (how : Adoption) (n : Nat) (l : Load) (s : State) :
    (s.adoptParked n how l).alerts = s.alerts := by
  rw [State.adoptParked_eq]
  split
  · exact State.adoptStill_alerts how n s
  · exact State.adoptStill_alerts how n s

/-- What the core of a woken load tells of its configured fields, hold set and assessment. -/
theorem Load.adoptedParked_of_core {m : Load} (h : m.core = (l.adoptedStill how).core) :
    m.a16 = l.a16 ∧ m.hold = l.hold ∧ m.sampleAge = l.sampleAge ∧ m.stopTime = l.stopTime ∧ m.parkOwned = true ∧
      m.cfg = l.adoptedParked.cfg := by
  have ha16 := congrArg Load.a16 h
  have hhold := congrArg Load.hold h
  have hage := congrArg Load.sampleAge h
  have hstop := congrArg Load.stopTime h
  have hown := congrArg Load.parkOwned h
  have hcfg := congrArg Load.cfg h
  exact ⟨ha16, hhold, hage, hstop, hown, hcfg⟩

/-! ## The table of adoption -/

theorem RunState.ne_stopped_iff {run : RunState} : run = .running ∨ run = .starting ↔ run ≠ .stopped := by
  cases run <;> decide

/-- The adoption by a report for an OFFLINE load (R13). -/
theorem State.adopt_plain (hp : s.plant.sound) (hl : s.load? n = some l) (hstate : l.state = .offline) (r : Report) :
    ∃ m, (s.adopt n .plain r).load? n = some m ∧ m.a16 = l.a16 ∧ m.hold = l.hold ∧ m.sampleAge = l.sampleAge ∧
      m.stopTime = l.stopTime ∧
      (if r.run = .running ∨ r.run = .starting then
        m = { l with state := .active, dwell := 0, idle := false, wakeDue := false, parkOwned := false }
      else if l.parkOwned = true ∨ l.cfg.adoptParked = true then
        m.parkOwned = true ∧
        m.cfg = (if l.parkOwned = true then l.cfg else { l.cfg with adoptParked := false }) ∧
        (if l.wakeDue = true then m.state = .wakeQueued ∨ ∃ w, m.state = .waking w
        else m.state = .parked ∧ m.wakeDue = false ∧ m.due = l.due)
      else m = { l with state := .stopped, dwell := 0, wakeDue := false }) := by
  by_cases hrun : r.run = .stopped
  · have hstopped : ¬(r.run = .running ∨ r.run = .starting) := fun h => RunState.ne_stopped_iff.mp h hrun
    by_cases hparks : l.toBeParked
    · simp only [if_neg hstopped, if_pos hparks, ← Load.adoptedParked_cfg]
      rw [State.adopt_parks hl hrun hparks]
      by_cases hwake : l.wakeDue = true
      · obtain ⟨m, hm, hway, -, hcore⟩ := State.adoptParked_wakes (how := .plain) hp hl hstate (.inl hwake)
        obtain ⟨ha16, hhold, hage, hstop, hown, hcfg⟩ := Load.adoptedParked_of_core hcore
        exact ⟨m, hm, ha16, hhold, hage, hstop, hown, hcfg, by rw [if_pos hwake]; exact hway⟩
      · have hstill := State.adoptParked_still (how := .plain) hp hl hstate (fun h => hwake (h.resolve_right nofun))
        refine ⟨_, hstill, rfl, rfl, rfl, rfl, rfl, rfl, ?_⟩
        rw [if_neg hwake]
        exact ⟨rfl, Bool.eq_false_iff.mpr hwake, rfl⟩
    · simp only [if_neg hstopped, if_neg hparks]
      rw [State.adopt_stops hl hrun hparks]
      exact ⟨_, Plant.load?_set (f := Load.adoptedStopped) hl, rfl, rfl, rfl, rfl, rfl⟩
  · simp only [if_pos (RunState.ne_stopped_iff.mpr hrun)]
    exact ⟨_, State.adopt_running_load? hp hl hstate hrun, rfl, rfl, rfl, rfl, rfl⟩

theorem State.adopt_alerts (hp : s.plant.sound) (hl : s.load? n = some l) (hstate : l.state = .offline) (r : Report) :
    (s.adopt n how r).alerts =
      (if r.run ≠ .stopped ∧ l.parkOwned = true then s.raiseLoad n .localStart else s).alerts := by
  by_cases hrun : r.run = .stopped
  · rw [if_neg (fun h => h.1 hrun)]
    by_cases hparks : l.toBeParked
    · rw [State.adopt_parks hl hrun hparks, State.adoptParked_alerts]
    · rw [State.adopt_stops hl hrun hparks]
      rfl
  · rw [State.adopt_running_alerts hp hl hstate hrun]
    simp only [hrun, ne_eq, not_false_eq_true, true_and]

/-- How a load comes to be adopted matters only where it is adopted as PARKED (R13, R117). -/
theorem State.adopt_how (hl : s.load? n = some l)
    (h : r.run ≠ .stopped ∨ (l.parkOwned = false ∧ l.cfg.adoptParked = false)) (how : Adoption) :
    s.adopt n how r = s.adopt n .plain r := by
  by_cases hrun : r.run = .stopped
  · obtain ⟨hown, hadopt⟩ := h.resolve_left (fun hne => hne hrun)
    have hparks : ¬l.toBeParked := by simp [Load.toBeParked, hown, hadopt]
    rw [State.adopt_stops hl hrun hparks, State.adopt_stops hl hrun hparks]
  · rw [State.adopt_running hl hrun, State.adopt_running hl hrun]

/-- A load of a restarted station that comes out PARKED has MOTOR OFF due, and one whose wake was interrupted is woken. -/
theorem State.adopt_restarted (hp : s.plant.sound) (hl : s.load? n = some l) (hstate : l.state = .offline)
    (hrun : r.run = .stopped) (hparks : l.toBeParked) :
    (l.wakeDue = false → (s.adopt n .restarted r).load? n = some { l with
        state := .parked, parkOwned := true, due := if l.hold.byLockout then l.due else some .motorOff,
        cfg := if l.parkOwned then l.cfg else { l.cfg with adoptParked := false } }) ∧
      ∀ how, l.wakeDue = true ∨ how = .interrupted → ∃ m, (s.adopt n how r).load? n = some m ∧
        (m.state = .wakeQueued ∨ ∃ w, m.state = .waking w) ∧ m.parkOwned = true ∧ m.wakeDue = false := by
  refine ⟨fun hwake => ?_, fun how hwake => ?_⟩
  · have hcfg := l.adoptedParked_cfg
    have hdue : (if Adoption.restarted = .plain ∨ l.hold.byLockout = true then l.due else some .motorOff) =
        if l.hold.byLockout then l.due else some .motorOff := by simp
    rw [State.adopt_parks hl hrun hparks, State.adoptParked_still hp hl hstate (by simp [hwake]), Load.adoptedStill, hdue, ← hcfg]
    rfl
  · obtain ⟨m, hm, hway, hdue, hcore⟩ := State.adoptParked_wakes hp hl hstate hwake
    obtain ⟨-, -, -, -, hown, -⟩ := Load.adoptedParked_of_core hcore
    rw [State.adopt_parks hl hrun hparks]
    exact ⟨m, hm, hway, hown, hdue⟩

end

end Sys2Proof.Machine
end

section
/-!
PROOFS. A station restart: what it makes of loads, feeders, slot and notices (R65, R87, R117, R118).
-/

namespace Sys2Proof.Machine

section

variable {s : State} {n : Nat} {l x : Load} {i : StationId} {ls : List Load}

/-! ## The end of one sequence -/

theorem State.endSequence_parking (h : l.isParking = true) (s : State) :
    s.endSequence l = (s.setLoad l.num (fun l =>
      { l with state := .offline, timer := none, manual := false, wakeDue := false })).raiseLoad l.num .parkAborted := by
  obtain ⟨step, hstep⟩ := Load.isParking_iff.mp h
  simp only [State.endSequence, hstep]

theorem State.endSequence_waking (h : l.isWaking = true) (s : State) :
    s.endSequence l = (s.setLoad l.num (fun l => { l with state := .offline, timer := none })).returnUnits l := by
  obtain ⟨w, hw⟩ := Load.isWaking_iff.mp h
  simp only [State.endSequence, hw]

theorem State.endSequence_none (hparking : l.isParking = false) (hwaking : l.isWaking = false) (s : State) :
    s.endSequence l = s := by
  unfold State.endSequence
  split
  · next step h => exact absurd (Load.isParking_iff.mpr ⟨step, h⟩) (by simp [hparking])
  · next w h => exact absurd (Load.isWaking_iff.mpr ⟨w, h⟩) (by simp [hwaking])
  · rfl

theorem State.endSequence_alerts (l : Load) (s : State) : s.alerts.sameButQueue (s.endSequence l).alerts := by
  unfold State.endSequence
  split
  · exact State.raiseLoad_alerts (s.setLoad l.num _) l.num .parkAborted
  · exact Eq.refl _
  · exact Eq.refl _

/-- Without units to return the feeders and stations stay, and no load changes but one whose park sequence ends. -/
theorem State.endSequence_settled (hwaking : l.isWaking = false) (s : State) :
    (s.endSequence l).plant.feeders = s.plant.feeders ∧ (s.endSequence l).plant.stations = s.plant.stations ∧
      ∀ n, (l.num = n → l.isParking = false) → (s.endSequence l).load? n = s.load? n := by
  cases hparking : l.isParking with
  | true =>
    rw [State.endSequence_parking hparking, State.raiseLoad_plant]
    refine ⟨rfl, rfl, fun n hn => ?_⟩
    rw [State.load?, State.raiseLoad_plant]
    exact Plant.load?_set_other fun h => absurd (hn h.symm) (by simp)
  | false =>
    rw [State.endSequence_none hparking hwaking]
    exact ⟨rfl, rfl, fun _ _ => rfl⟩

/-- The units that the end of a sequence gives back to a feeder. -/
def Load.unitsEnded (f : FeederId) (l : Load) : Nat := if l.isWaking && l.cfg.feeder == f then l.cfg.demand else 0

theorem Feeder.add_zero (f : Feeder) : { f with free := f.free + 0 } = f := rfl

theorem State.feeder_endSequence {f : FeederId} (hqueue : (s.plant.feeder f).queue = []) (l : Load) :
    (s.endSequence l).plant.feeder f =
      { s.plant.feeder f with free := (s.plant.feeder f).free + l.unitsEnded f } := by
  cases hwaking : l.isWaking with
  | false =>
    have hunits : l.unitsEnded f = 0 := by simp [Load.unitsEnded, hwaking]
    rw [hunits, Feeder.add_zero]
    exact Plant.feeder_of_feeders (State.endSequence_settled hwaking s).1 f
  | true =>
    rw [State.endSequence_waking hwaking, State.returnUnits_plant, Plant.returnUnits_eq]
    have hback := Plant.feeder_giveBack l (s.plant.setLoad l.num (fun l => { l with state := .offline, timer := none })) f
    by_cases hf : l.cfg.feeder = f
    · have hunits : l.unitsEnded f = l.cfg.demand := by simp [Load.unitsEnded, hwaking, hf]
      rw [if_pos hf] at hback
      rw [hunits, Plant.grantAttempt_empty _ _ _ (by rw [hf]; exact (congrArg Feeder.queue hback).trans hqueue)]
      exact hback
    · have hunits : l.unitsEnded f = 0 := by simp [Load.unitsEnded, hf]
      rw [if_neg hf] at hback
      rw [hunits, Plant.feeder_grantAttempt_other _ (Ne.symm hf)]
      exact hback

/-! ## The ends of several sequences -/

theorem State.endAll_cons (l : Load) (ls : List Load) (s : State) : s.endAll (l :: ls) = (s.endSequence l).endAll ls := rfl

theorem State.endAll_append (as bs : List Load) (s : State) : s.endAll (as ++ bs) = (s.endAll as).endAll bs :=
  List.foldl_append

theorem State.endAll_alerts (ls : List Load) (s : State) : s.alerts.sameButQueue (s.endAll ls).alerts := by
  induction ls generalizing s with
  | nil => exact Eq.refl _
  | cons l ls ih => exact Alerts.sameButQueue_trans (s.endSequence_alerts l) (ih _)

theorem State.endAll_settled (hwaking : ∀ l ∈ ls, l.isWaking = false) (s : State) :
    (s.endAll ls).plant.feeders = s.plant.feeders ∧ (s.endAll ls).plant.stations = s.plant.stations ∧
      ∀ n, (∀ l ∈ ls, l.num = n → l.isParking = false) → (s.endAll ls).load? n = s.load? n := by
  induction ls generalizing s with
  | nil => exact ⟨rfl, rfl, fun _ _ => rfl⟩
  | cons l ls ih =>
    obtain ⟨hfeeders, hstations, hloads⟩ := State.endSequence_settled (hwaking l List.mem_cons_self) s
    obtain ⟨ihfeeders, ihstations, ihloads⟩ := ih (fun m hm => hwaking m (List.mem_cons_of_mem l hm)) (s.endSequence l)
    rw [State.endAll_cons]
    exact ⟨ihfeeders.trans hfeeders, ihstations.trans hstations, fun n hn =>
      (ihloads n fun m hm => hn m (List.mem_cons_of_mem l hm)).trans (hloads n (hn l List.mem_cons_self))⟩

theorem State.feeder_endAll {f : FeederId} (hqueue : (s.plant.feeder f).queue = []) (ls : List Load) :
    (s.endAll ls).plant.feeder f =
      { s.plant.feeder f with free := (s.plant.feeder f).free + (ls.map (Load.unitsEnded f)).sum } := by
  induction ls generalizing s with
  | nil => rfl
  | cons l ls ih =>
    have hone := State.feeder_endSequence hqueue l
    rw [State.endAll_cons, ih ((congrArg Feeder.queue hone).trans hqueue), hone, List.map_cons, List.sum_cons]
    simp only [Nat.add_assoc]

/-- The loads of a station in channel order are those that the load table has for it. -/
theorem Plant.recordsOf_perm {p : Plant} (hp : p.numbered) (hplaced : p.placed) (i : StationId) :
    (p.recordsOf i).Perm (p.loads.filter (fun l => l.cfg.station == i)) := by
  have hrecords : (p.recordsOf i).Nodup := List.Nodup.of_map Load.num (Plant.loadsOf_eq p i ▸ Plant.loadsOf_nodup hp i)
  have hloads : p.loads.Nodup := List.Pairwise.imp (fun {a b} (h : a.num < b.num) => fun hab => absurd (congrArg Load.num hab) (Nat.ne_of_lt h)) hp.1
  refine (List.perm_ext_iff_of_nodup hrecords (hloads.filter _)).mpr fun l => ?_
  rw [Plant.mem_recordsOf hplaced, List.mem_filter, beq_iff_eq]

theorem Plant.sum_unitsEnded {p : Plant} (hp : p.numbered) (hplaced : p.placed) (i : StationId) (f : FeederId) :
    ((p.recordsOf i).map (Load.unitsEnded f)).sum =
      ((p.loads.filter (fun l => l.cfg.station == i && l.isWaking && l.cfg.feeder == f)).map (fun l => l.cfg.demand)).sum := by
  have hsum (ls : List Load) : (ls.map (Load.unitsEnded f)).sum =
      ((ls.filter (fun l => l.isWaking && l.cfg.feeder == f)).map (fun l => l.cfg.demand)).sum := by
    induction ls with
    | nil => rfl
    | cons l ls ih =>
      rw [List.map_cons, List.sum_cons, ih, List.filter_cons, Load.unitsEnded]
      split
      · rfl
      · exact Nat.zero_add _
  rw [((Plant.recordsOf_perm hp hplaced i).map (Load.unitsEnded f)).sum_eq, hsum, List.filter_filter]
  refine congrArg (fun ls : List Load => (ls.map (fun l => l.cfg.demand)).sum) (List.filter_congr fun l _ => ?_)
  rw [Bool.and_comm, Bool.and_assoc]

end

end Sys2Proof.Machine
end

section
/-!
PROOFS. Adoption and the station restart (R13, R117, R118): the obligation.
-/

namespace Sys2Proof.Machine

section

variable {s : State} {n : Nat} {l x : Load} {i : StationId}

/-- A load that a restart marks for adoption, if its state is such (R117). -/
def Load.marked (i : StationId) (l : Load) : Load :=
  if l.cfg.station == i && l.state.isMarked then { l with state := .offline, manual := false } else l

@[simp] theorem Load.marked_num (i : StationId) (l : Load) : (l.marked i).num = l.num := by
  unfold Load.marked
  split <;> rfl

theorem Load.marked_other (h : ¬l.cfg.station = i) : l.marked i = l :=
  if_neg fun hand => h (beq_iff_eq.mp (Bool.and_eq_true_iff.mp hand).1)

/-- The steps of a restart on a load of the station, one after another. -/
theorem Load.restarted_eq (l : Load) : l.undue.sequenceEnded.marked l.cfg.station = l.afterRestart := by
  unfold Load.sequenceEnded Load.afterRestart Load.undue Load.marked
  cases l.state <;> simp [LoadState.isMarked]

/-! ## The plant after a restart -/

theorem State.restartStation_plant (i : StationId) (s : State) :
    (s.restartStation i).plant = ((s.sequencesEnded i).plant.markLoads i).setStation i
      (fun st => { st with restartNoted := true }) := by
  rw [State.restartStation_eq, State.raiseStation_plant]
  rfl

theorem State.restartStation_load? (i : StationId) (n : Nat) (s : State) :
    (s.restartStation i).load? n = ((s.sequencesEnded i).load? n).map (Load.marked i) := by
  rw [State.load?, State.restartStation_plant]
  exact Plant.load?_map (q := (s.sequencesEnded i).plant.markLoads i) (Load.marked_num i) rfl n

theorem State.restartStation_station (i : StationId) (s : State) :
    (s.restartStation i).station i = { (s.sequencesEnded i).station i with restartNoted := true } := by
  rw [State.station, State.restartStation_plant, Plant.station_setStation_self]
  rfl

/-- Every load that was not WAKE_QUEUED (R65, R87, R117). -/
theorem State.restartStation_self (hp : s.plant.sound) (hplaced : s.plant.placed) (hx : s.load? n = some x)
    (hstate : x.state ≠ .wakeQueued) :
    (s.restartStation i).load? n = some (if x.cfg.station = i then x.afterRestart else x) := by
  have hdropped : (s.plant.dropOrders i).load? n = some (if x.cfg.station == i then x.undue else x) := by
    rw [Plant.dropOrders_load?, show s.plant.load? n = some x from hx, Option.map_some]
  obtain ⟨y, hy, hended⟩ := (State.moves_sequencesEnded hp i).loads.bound Load.EndedBy.num hdropped
  rw [State.restartStation_load?, show (s.sequencesEnded i).load? n = some y from hy, Option.map_some]
  have hmem := Plant.mem_of_load? hx
  have hcontains : ((s.plant.recordsOf i).map Load.num).contains x.num = true ↔ x.cfg.station = i := by
    rw [List.contains_iff_mem, ← Plant.loadsOf_eq]
    exact Plant.mem_loadsOf hplaced hmem hp.numbered
  unfold Load.EndedBy at hended
  by_cases hi : x.cfg.station = i
  · rw [beq_iff_eq.mpr hi, if_pos rfl, if_neg (show ¬x.undue.state = .wakeQueued from hstate),
      if_pos (show ((s.plant.recordsOf i).map Load.num).contains x.undue.num = true from hcontains.mpr hi)] at hended
    rw [if_pos hi, hended, ← hi, Load.restarted_eq]
  · rw [if_neg (fun h => hi (beq_iff_eq.mp h)), if_neg hstate, if_neg (fun h => hi (hcontains.mp h))] at hended
    rw [if_neg hi, hended, Load.marked_other hi]

/-- A feeder without a queue takes back the units of the wakes that the restart ended (R87). -/
theorem State.restartStation_feeder (hp : s.plant.sound) (hplaced : s.plant.placed) {f : FeederId}
    (hqueue : (s.plant.feeder f).queue = []) :
    (s.restartStation i).plant.feeder f = { s.plant.feeder f with
      free := (s.plant.feeder f).free +
        ((s.plant.loads.filter (fun l => l.cfg.station == i && l.isWaking && l.cfg.feeder == f)).map
          (fun l => l.cfg.demand)).sum } := by
  have hended := State.feeder_endAll (s := s.onPlant (Plant.dropOrders i)) hqueue (s.plant.recordsOf i)
  rw [Plant.sum_unitsEnded hp.numbered hplaced] at hended
  rw [State.restartStation_plant]
  exact hended

/-- Without a WAKING load at the station its slot is empty, no feeder changes, and every load is exactly as the restart
leaves it. -/
theorem State.restartStation_settled (hp : s.plant.sound) (hplaced : s.plant.placed)
    (hwaking : ∀ l ∈ s.plant.loads, l.cfg.station = i → l.isWaking = false) :
    ((s.restartStation i).station i).slot = none ∧ (s.restartStation i).plant.feeders = s.plant.feeders ∧
      ∀ n x, s.load? n = some x →
        (s.restartStation i).load? n = some (if x.cfg.station = i then x.afterRestart else x) := by
  have hnone : ∀ l ∈ s.plant.recordsOf i, l.isWaking = false := fun l hl =>
    hwaking l (Plant.mem_recordsOf_of hl).1 (Plant.mem_recordsOf_of hl).2
  obtain ⟨hfeeders, hstations, hloads⟩ := State.endAll_settled hnone (s.onPlant (Plant.dropOrders i))
  have hslot : ((s.sequencesEnded i).station i).slot = none := by
    have hstation : (s.sequencesEnded i).station i = (s.plant.dropOrders i).station i := by
      rw [State.station, Plant.station, Plant.station]
      exact congrArg (fun v => v[i]) hstations
    rw [hstation, Plant.dropOrders, Plant.station_setStation_self]
  refine ⟨?_, ?_, fun n x hx => ?_⟩
  · rw [State.restartStation_station]
    exact hslot
  · rw [State.restartStation_plant]
    exact hfeeders
  · by_cases hstate : x.state = .wakeQueued
    · have hstay : (s.sequencesEnded i).load? n = (s.plant.dropOrders i).load? n := by
        refine hloads n fun l hl hn => ?_
        have hmem := Plant.load?_of_mem hp.numbered (Plant.mem_recordsOf_of hl).1
        rw [hn, show s.plant.load? n = some x from hx] at hmem
        cases hmem
        rw [Bool.eq_false_iff, ne_eq, Load.isParking_iff, hstate]
        exact fun ⟨_, h⟩ => LoadState.noConfusion h
      rw [State.restartStation_load?, hstay, Plant.dropOrders_load?, show s.plant.load? n = some x from hx, Option.map_some,
        Option.map_some]
      have hended : x.undue.sequenceEnded = x.undue := by simp [Load.sequenceEnded, Load.undue, hstate]
      by_cases hi : x.cfg.station = i
      · rw [if_pos hi, if_pos (beq_iff_eq.mpr hi), ← hended, ← hi, Load.restarted_eq]
      · rw [if_neg hi, if_neg (fun h => hi (beq_iff_eq.mp h)), Load.marked_other hi]
    · exact State.restartStation_self hp hplaced hx hstate

/-! ## The notices of a restart -/

theorem State.restartStation_alerts (i : StationId) (s : State) : s.alerts.sameButQueue (s.restartStation i).alerts := by
  rw [State.restartStation_eq]
  exact Alerts.sameButQueue_trans (State.endAll_alerts (s.plant.recordsOf i) (s.onPlant (Plant.dropOrders i)))
    (State.raiseStation_alerts (((s.sequencesEnded i).onPlant (Plant.markLoads i)).setStation i
      (fun st => { st with restartNoted := true })) i .restarted)

theorem State.works_sequencesEnded (i : StationId) (s : State) : (s.onPlant (Plant.dropOrders i)).Works (s.sequencesEnded i) :=
  State.works_endAll _ _

theorem State.restartStation_beyond (i : StationId) (s : State) : s.sameBeyondPlant (s.restartStation i) := by
  have hended := (State.works_sequencesEnded i s).beyond
  have hraised := (State.works_raiseStation i .restarted (((s.sequencesEnded i).onPlant (Plant.markLoads i)).setStation i
    (fun st => { st with restartNoted := true }))).beyond
  exact State.sameBeyondPlant_trans (s := s) (t := s.sequencesEnded i) hended hraised

theorem State.restartStation_shows (henabled : s.alerts.enabled = true) (hset : s.alerts.stationSet.getLsbD 2 = true) :
    (s.restartStation i).alerts.shows (.station i) 2 := by
  have hended := (State.works_sequencesEnded i s).alerts
  rw [State.restartStation_eq]
  exact State.raiseStation_shows (e := .restarted) (hended.enabled.trans henabled)
    (by rw [show ((((s.sequencesEnded i).onPlant (Plant.markLoads i)).setStation i
      (fun st => { st with restartNoted := true })).alerts.stationSet) = s.alerts.stationSet from hended.stationSet]; exact hset)

/-- The end of a sequence keeps the configured fields of every load. -/
theorem State.endSequence_cfg (hx : s.load? n = some x) (l : Load) : ∃ y, (s.endSequence l).load? n = some y ∧ y.cfg = x.cfg := by
  have hset {f : Load → Load} (hf : ∀ z, (f z).num = z.num) (hcfg : ∀ z, (f z).cfg = z.cfg) :
      ∃ y, (s.plant.setLoad l.num f).load? n = some y ∧ y.cfg = x.cfg := by
    by_cases hn : n = l.num
    · subst hn
      exact ⟨_, Plant.load?_set hx hf, hcfg x⟩
    · exact ⟨x, (Plant.load?_set_other hn hf).trans hx, rfl⟩
  cases hparking : l.isParking with
  | true =>
    rw [State.load?, State.endSequence_parking hparking, State.raiseLoad_plant]
    exact hset (fun _ => rfl) fun _ => rfl
  | false =>
    cases hwaking : l.isWaking with
    | true =>
      obtain ⟨y, hy, hcfg⟩ := hset (f := fun l => { l with state := .offline, timer := none }) (fun _ => rfl) fun _ => rfl
      obtain ⟨z, hz, hcore⟩ := (Plant.sameFrame_returnUnits s.calendar.clock l.cfg.feeder l.cfg.demand _).bound hy
      rw [State.endSequence_waking hwaking]
      have hkept := congrArg Load.cfg hcore
      exact ⟨z, hz, hkept.trans hcfg⟩
    | false =>
      rw [State.endSequence_none hparking hwaking]
      exact ⟨x, hx, rfl⟩

theorem State.endAll_cfg (hx : s.load? n = some x) (ls : List Load) : ∃ y, (s.endAll ls).load? n = some y ∧ y.cfg = x.cfg := by
  induction ls generalizing s x with
  | nil => exact ⟨x, hx, rfl⟩
  | cons l ls ih =>
    obtain ⟨y, hy, hcfg⟩ := State.endSequence_cfg hx l
    obtain ⟨z, hz, hkept⟩ := ih hy
    exact ⟨z, hz, hkept.trans hcfg⟩

/-- A park sequence that a restart ends raises PARK_ABORTED (R65). -/
theorem State.restartStation_shows_aborted (hplaced : s.plant.placed) (henabled : s.alerts.enabled = true)
    (hl : s.load? n = some l) (hstation : l.cfg.station = i) (hparking : l.isParking = true)
    (hevent : l.cfg.events.getLsbD 2 = true) : (s.restartStation i).alerts.shows (.load n) 2 := by
  obtain rfl := Plant.load?_num hl
  obtain ⟨as, bs, hrecords⟩ := List.append_of_mem ((Plant.mem_recordsOf hplaced).mpr ⟨Plant.mem_of_load? hl, hstation⟩)
  have hself : (s.plant.dropOrders i).load? l.num = some l.undue := by
    rw [Plant.dropOrders_load?, show s.plant.load? l.num = some l from hl, Option.map_some, if_pos (beq_iff_eq.mpr hstation)]
  have hworks : (s.onPlant (Plant.dropOrders i)).Works ((s.onPlant (Plant.dropOrders i)).endAll as) := State.works_endAll _ _
  obtain ⟨y, hy, hcfg⟩ := State.endAll_cfg (s := s.onPlant (Plant.dropOrders i)) hself as
  have hshows : ((s.onPlant (Plant.dropOrders i)).endAll (as ++ [l])).alerts.shows (.load l.num) 2 := by
    rw [State.endAll_append, State.endAll_cons, State.endSequence_parking hparking]
    have hchanged : (((s.onPlant (Plant.dropOrders i)).endAll as).setLoad l.num (fun l =>
      { l with state := .offline, timer := none, manual := false, wakeDue := false })).load? l.num =
        some { y with state := .offline, timer := none, manual := false, wakeDue := false } := Plant.load?_set hy
    exact State.raiseLoad_shows (e := .parkAborted) hchanged (hworks.alerts.enabled.trans henabled)
      ((congrArg (fun c : LoadConfig => c.events.getLsbD 2) hcfg).trans hevent)
  have hafter : (s.sequencesEnded i).alerts.shows (.load l.num) 2 := by
    rw [State.sequencesEnded, hrecords, List.append_cons, State.endAll_append]
    exact (State.works_endAll bs _).alerts.shows hshows
  rw [State.restartStation_eq]
  exact (State.works_raiseStation i .restarted _).alerts.shows hafter

/-! ## The obligation -/

theorem State.adoptionOf_restartMark (hp : s.plant.sound) (hplaced : s.plant.placed) (flag : Bool) (hl : s.load? n = some l)
    (hstation : l.cfg.station = i) :
    adoptionOf (s.restartMark i flag) n =
      if flag = true ∧ (s.station i).restartNoted = false then
        if l.isWaking = true then .interrupted else .restarted
      else .plain := by
  have hacts : s.actsOnRestart i flag = true ↔ flag = true ∧ (s.station i).restartNoted = false := by
    simp [State.actsOnRestart]
  by_cases h : flag = true ∧ (s.station i).restartNoted = false
  · have hcontains : (((s.plant.recordsOf i).filter Load.isWaking).map Load.num).contains n = true ↔ l.isWaking = true := by
      rw [List.contains_iff_mem, List.mem_map]
      constructor
      · rintro ⟨x, hx, hnum⟩
        obtain ⟨hrecord, hwaking⟩ := List.mem_filter.mp hx
        have hmem := Plant.load?_of_mem hp.numbered (Plant.mem_recordsOf_of hrecord).1
        rw [hnum, show s.plant.load? n = some l from hl] at hmem
        cases hmem
        exact hwaking
      · exact fun hwaking => ⟨l, List.mem_filter.mpr ⟨(Plant.mem_recordsOf hplaced).mpr ⟨Plant.mem_of_load? hl, hstation⟩,
          hwaking⟩, Plant.load?_num hl⟩
    rw [if_pos h, State.restartMark, if_pos (hacts.mpr h), adoptionOf]
    simp only [hcontains]
  · rw [if_neg h, State.restartMark, if_neg (fun hand => h (hacts.mp hand))]
    rfl

theorem State.judgeRestart_restarts (hflag : flag = true) (hnoted : (s.station i).restartNoted = false) :
    s.judgeRestart i flag = s.restartStation i :=
  if_pos (by rw [State.actsOnRestart, hflag, hnoted]; rfl)

/-- Settles O30: the branches of an adoption, and the steps of a station restart on its loads, units and notices. -/
theorem adoptionFollowsItsTable : Obligations.AdoptionFollowsItsTable := by
  refine ⟨fun s n l r hp hl hstate => State.adopt_plain hp hl hstate r, fun s n l r hp hl hstate =>
    ⟨State.adopt_alerts hp hl hstate r, fun how h => State.adopt_how hl h how, fun hrun hparks =>
      State.adopt_restarted hp hl hstate hrun hparks⟩, fun s i flag => ⟨fun hflag hnoted => ?_, fun hflag => ?_,
    fun hp hplaced => ⟨fun n l hl hstation => State.adoptionOf_restartMark hp hplaced flag hl hstation,
      fun hflag hnoted => ?_⟩⟩⟩
  · rw [State.judgeRestart, if_neg (by simp [State.actsOnRestart, hnoted]), if_pos hflag]
  · rw [State.judgeRestart, if_neg (by simp [State.actsOnRestart, hflag]), if_neg (by simp [hflag])]
    rfl
  · rw [State.judgeRestart_restarts hflag hnoted]
    exact ⟨congrArg Station.restartNoted (State.restartStation_station i s), State.restartStation_beyond i s,
      State.restartStation_alerts i s, fun n x hx hstate => State.restartStation_self hp hplaced hx hstate,
      fun f hqueue => State.restartStation_feeder hp hplaced hqueue,
      fun hwaking => State.restartStation_settled hp hplaced hwaking, fun henabled =>
        ⟨fun hset => State.restartStation_shows henabled hset, fun n l p hl hstation hstate hevent =>
          State.restartStation_shows_aborted hplaced henabled hl hstation (Load.isParking_iff.mpr ⟨p, hstate⟩) hevent⟩⟩

end

end Sys2Proof.Machine
end

section
/-!
PROOFS. The holds of a report and its edges (R19 to R21).
-/

namespace Sys2Proof.Machine

section

variable {s : State} {n : Nat} {l : Load} {r : Report}

theorem State.heldBy_eq (hp : s.plant.numbered) (hl : s.load? n = some l) (r : Report) :
    s.heldBy n r = { s with plant := s.plant.setLoad n (fun _ => l.heldBy r) } := by
  refine congrArg (fun p => ({ s with plant := p } : State)) ?_
  exact Plant.setLoad_congr (f := Load.heldBy r) hp fun x hx => by
    rw [show s.plant.load? n = some l from hl] at hx; cases hx; rfl

/-- The holds of a report, and then a further change of the same record. -/
theorem Plant.setLoad_heldBy {p : Plant} {f : Load → Load} (hp : p.numbered) (hl : p.load? n = some l) (r : Report) :
    (p.setLoad n (Load.heldBy r)).setLoad n f = p.setLoad n (fun _ => f (l.heldBy r)) := by
  rw [Plant.setLoad_setLoad n (Load.heldBy r) f fun _ => rfl]
  exact Plant.setLoad_congr hp fun x hx => by rw [hl] at hx; cases hx; rfl

/-- The alert block after an event of the load whose holds the report has set. -/
theorem State.heldBy_alerts (hl : s.load? n = some l) (r : Report) (e : LoadEvent) :
    ((s.heldBy n r).raiseLoad n e).alerts = (s.raiseLoad n e).alerts :=
  State.raiseLoad_alerts_congr hl (State.heldBy_load? hl r) rfl rfl rfl

/-! ## A call edge (R19) -/

theorem State.callEdge_rising (hr : r.call = true) (s : State) : s.callEdge n false r = (s.raiseLoad n .callOn).wake n := by
  rw [State.callEdge, hr]
  rfl

theorem State.callEdge_falling (hr : r.call = false) (s : State) : s.callEdge n true r = s.raiseLoad n .callOff := by
  rw [State.callEdge, hr]
  rfl

/-- A call that rises raises CALL_ON and is a wake request. -/
theorem State.applyHolds_callOn (hp : s.plant.sound) (hl : s.load? n = some l) (hr : r.call = true) :
    (s.applyHolds n false r.lockout r).alerts = (s.raiseLoad n .callOn).alerts ∧
      (s.applyHolds n false r.lockout r).plant = (s.heldBy n r).plant.wake s.calendar.clock n ∧
      (l.state = .parked → ∃ m, (s.applyHolds n false r.lockout r).load? n = some m ∧ m.onItsWay ∧
        m.hold = (l.heldBy r).hold ∧ m.cfg = l.cfg) := by
  have hplant : (s.applyHolds n false r.lockout r).plant = (s.heldBy n r).plant.wake s.calendar.clock n := by
    rw [State.applyHolds_eq, State.callEdge_rising hr, State.lockoutEdge_same, State.wake_plant, State.raiseLoad_plant,
      State.raiseLoad_calendar]
    rfl
  refine ⟨?_, hplant, fun hstate => ?_⟩
  · rw [State.applyHolds_eq, State.callEdge_rising hr, State.lockoutEdge_same]
    exact State.heldBy_alerts hl r .callOn
  · obtain ⟨m, hm, hway, -, hcore⟩ := Plant.wake_parked s.calendar.clock (State.heldBy_sound hp n r)
      (State.heldBy_load? hl r) hstate
    have hhold := congrArg Load.hold hcore
    have hcfg := congrArg Load.cfg hcore
    rw [State.load?, hplant]
    exact ⟨m, hm, hway, hhold, hcfg⟩

/-- The call of a load that a wake request only marks, and of one that it leaves. -/
theorem State.applyHolds_callOn_plant (hp : s.plant.sound) (hl : s.load? n = some l) (hr : r.call = true) :
    ((∃ p, l.state = .parking p) ∨ (l.state = .offline ∧ l.parkOwned = true) →
      (s.applyHolds n false r.lockout r).plant = s.plant.setLoad n (fun _ => { l.heldBy r with wakeDue := true })) ∧
    (l.state ≠ .parked → (∀ p, l.state ≠ .parking p) → ¬(l.state = .offline ∧ l.parkOwned = true) →
      (s.applyHolds n false r.lockout r).plant = s.plant.setLoad n (fun _ => l.heldBy r)) := by
  obtain ⟨-, hplant, -⟩ := State.applyHolds_callOn hp hl hr
  have hself := State.heldBy_load? hl r
  have hmark : (s.heldBy n r).plant.setLoad n (fun l => { l with wakeDue := true }) =
      s.plant.setLoad n (fun _ => { l.heldBy r with wakeDue := true }) := Plant.setLoad_heldBy hp.numbered hl r
  have hheld := congrArg State.plant (State.heldBy_eq hp.numbered hl r)
  rw [hplant]
  refine ⟨fun h => ?_, fun hparked hparking howned => ?_⟩
  · rcases h with ⟨step, hstate⟩ | ⟨hstate, hown⟩
    · exact (Plant.wakeBy_parking hself hstate _).trans hmark
    · exact (Plant.wakeBy_owned hself hstate hown _).trans hmark
  · exact (Plant.wakeBy_other hself hparked hparking howned _).trans hheld

/-! ## A lockout edge (R19, R21) -/

theorem State.lockoutEdge_rising (hr : r.lockout = true) (s : State) : s.lockoutEdge n false r = s.lockoutAdded n r := by
  rw [State.lockoutEdge, hr]
  rfl

theorem State.lockoutEdge_falling (hl : s.load? n = some l) (hr : r.lockout = false) :
    s.lockoutEdge n true r = s.onPlantNow (fun c => Plant.grantAttempt c l.cfg.feeder) := by
  simp only [State.lockoutEdge, hr, hl]
  rfl

theorem State.lockoutAdded_parking (hl : s.load? n = some l) (hparking : l.isParking = true) (r : Report) :
    s.lockoutAdded n r = (if r.run.isRunning then
        ((s.withdraw n).setLoad n (fun l => { l with timer := none, manual := false, wakeDue := false })).enterActive n
      else ((s.withdraw n).setLoad n (fun l => { l with timer := none, manual := false, wakeDue := false })).setLoad n
        (fun l => { l with state := .stopped, dwell := 0 })).raiseLoad n .parkAborted := by
  simp only [State.lockoutAdded, hl, hparking, if_true]

/-- An event that was raised when its load already was as it is after it. -/
theorem State.raised_alerts {t : State} {m : Load} {e : LoadEvent} (hl : s.load? n = some l)
    (hm : (t.raiseLoad n e).load? n = some m) (hcfg : m.cfg = l.cfg) (hcalendar : t.calendar = s.calendar)
    (halerts : t.alerts = s.alerts) : (t.raiseLoad n e).alerts = (s.raiseLoad n e).alerts := by
  rw [State.load?, State.raiseLoad_plant] at hm
  exact State.raiseLoad_alerts_congr hl hm (congrArg LoadConfig.events hcfg) hcalendar halerts

theorem Load.lockedOut_num (r : Report) (l : Load) : (l.lockedOut r).num = l.num := by
  unfold Load.lockedOut
  cases r.run.isRunning <;> rfl

/-- A lockout abandons a park sequence: the load follows the run state, and PARK_ABORTED is raised (R21). -/
theorem State.lockoutAdded_abandons (hp : s.plant.sound) (hl : s.load? n = some l) (hparking : l.isParking = true)
    (r : Report) :
    (s.lockoutAdded n r).load? n = some (l.lockedOut r) ∧
      (s.lockoutAdded n r).alerts = (s.raiseLoad n .parkAborted).alerts := by
  have hstate : (l.lockedOut r).state ≠ .wakeQueued := by
    unfold Load.lockedOut
    cases r.run.isRunning <;> exact LoadState.noConfusion
  have hcfg : (l.lockedOut r).cfg = l.cfg := by
    unfold Load.lockedOut
    cases r.run.isRunning <;> rfl
  have hself : (s.lockoutAdded n r).load? n = some (l.lockedOut r) :=
    (State.becomes_lockoutAdded hp hl hparking r).self hl (Load.lockedOut_num r) hstate
  refine ⟨hself, ?_⟩
  rw [State.lockoutAdded_parking hl hparking] at hself
  rw [State.lockoutAdded_parking hl hparking]
  refine State.raised_alerts hl hself hcfg ?_ ?_
  · split <;> rfl
  · split <;> rfl

/-- The record of a load whose lockout rises (R21). -/
theorem Load.lockedOut_eq (r : Report) (l : Load) : l.lockedOut r =
    if r.run = .stopped then
      { l with due := none, timer := none, manual := false, wakeDue := false, state := .stopped, dwell := 0 }
    else { l with due := none, timer := none, manual := false, wakeDue := false, state := .active, dwell := 0, idle := false } := by
  unfold Load.lockedOut
  cases r.run <;> rfl

/-- A lockout that rises: a park sequence is abandoned, and otherwise the due order alone is withdrawn. -/
theorem State.applyHolds_lockoutOn (hp : s.plant.sound) (hl : s.load? n = some l) (hr : r.lockout = true) :
    (l.isParking = true →
      (s.applyHolds n r.call false r).load? n = some ((l.heldBy r).lockedOut r) ∧
      (∀ m x, m ≠ n → s.load? m = some x → x.state ≠ .wakeQueued → (s.applyHolds n r.call false r).load? m = some x) ∧
      (s.applyHolds n r.call false r).alerts = (s.raiseLoad n .parkAborted).alerts) ∧
    (l.isParking = false →
      (s.applyHolds n r.call false r).load? n = some { l.heldBy r with due := none } ∧
      (∀ m, m ≠ n → (s.applyHolds n r.call false r).load? m = s.load? m) ∧
      (s.applyHolds n r.call false r).plant.feeders = s.plant.feeders ∧
      (s.applyHolds n r.call false r).alerts = s.alerts) := by
  have hself := State.heldBy_load? hl r
  have hheld := State.heldBy_sound hp n r
  have hothers (m : Nat) (hm : m ≠ n) : (s.heldBy n r).load? m = s.load? m := Plant.load?_set_other (f := Load.heldBy r) hm
  rw [State.applyHolds_eq, State.callEdge_same, State.lockoutEdge_rising hr]
  refine ⟨fun hparking => ?_, fun hparking => ?_⟩
  · obtain ⟨hload, halerts⟩ := State.lockoutAdded_abandons hheld hself hparking r
    exact ⟨hload, fun m x hm hx hstate => (State.becomes_lockoutAdded hheld hself hparking r).other (Load.lockedOut_num r) hm
      ((hothers m hm).trans hx) hstate, halerts.trans (State.heldBy_alerts hl r .parkAborted)⟩
  · rw [State.lockoutAdded_other hself hparking]
    refine ⟨?_, fun m hm => ?_, Plant.withdraw_feeders n _, rfl⟩
    · rw [State.load?, State.withdraw_plant, Plant.withdraw_load?, if_pos rfl,
        show (s.heldBy n r).plant.load? n = some (l.heldBy r) from hself]
      rfl
    · rw [State.load?, State.withdraw_plant, Plant.withdraw_load?, if_neg hm]
      exact hothers m hm

theorem State.applyHolds_lockoutOff (hp : s.plant.sound) (hl : s.load? n = some l) (hr : r.lockout = false) :
    s.applyHolds n r.call true r =
      { s with plant := (s.plant.setLoad n (fun _ => l.heldBy r)).grantAttempt s.calendar.clock l.cfg.feeder } := by
  have hheld := State.heldBy_eq hp.numbered hl r
  rw [State.applyHolds_eq, State.callEdge_same, State.lockoutEdge_falling (State.heldBy_load? hl r) hr, hheld]
  rfl

end

end Sys2Proof.Machine
end

section
/-!
PROOFS. Reports of loads in PARKING and WAKING (R56 to R63, R85).
-/

namespace Sys2Proof.Machine

section

variable {s : State} {n m : Nat} {l x : Load} {r : Report} {how : Adoption} {step : ParkStep} {curves : Vector Knots 8}
  {now : Option Stamp}

/-! ## What an assessment leaves of a load that is not assessed -/

/-- A park step may begin before or after the report's sample and latest flags. -/
theorem Load.underReport_stepped (curves : Vector Knots 8) (now : Option Stamp) (r : Report) (state : LoadState)
    (timer : Option Timer) (due : Option OrderKind) (l : Load) :
    ({ l with state, timer, due } : Load).underReport curves now r =
      { l.underReport curves now r with state, timer, due } := by
  rw [Load.underReport_eq, Load.underReport_eq, Load.keepFlags_eq, Load.keepFlags_eq]
  unfold Load.seen
  cases r.sample <;> rfl

theorem Load.underReport_begins (curves : Vector Knots 8) (now : Option Stamp) (r : Report) (step : ParkStep) (l : Load) :
    (l.begins step).underReport curves now r =
      { l.underReport curves now r with state := .parking step, timer := some (Timer.start (l.cfg.limitOf step)) } := by
  rw [Load.underReport_eq, Load.underReport_eq, Load.keepFlags_eq, Load.keepFlags_eq]
  unfold Load.seen
  cases r.sample <;> rfl

/-- And so may the entry into PARKED. -/
theorem Load.underReport_parkedNow (curves : Vector Knots 8) (now : Option Stamp) (r : Report) (l : Load) :
    (l.parkedNow now).underReport curves now r = (l.underReport curves now r).parkedNow now := by
  rw [Load.underReport_eq, Load.underReport_eq, Load.keepFlags_eq, Load.keepFlags_eq]
  unfold Load.seen
  cases r.sample <;> rfl

theorem Load.isAssessed_parking (hstate : l.state = .parking step) : l.isAssessed = false := by
  rw [Bool.eq_false_iff, ne_eq, Load.isAssessed_iff, hstate]
  rintro (h | h | h) <;> exact LoadState.noConfusion h

theorem Load.isAssessed_onItsWay (h : l.onItsWay) : l.isAssessed = false := by
  rw [Bool.eq_false_iff, ne_eq, Load.isAssessed_iff]
  rcases h with h | ⟨w, h⟩ <;> rw [h] <;> rintro (h | h | h) <;> exact LoadState.noConfusion h

/-- What the assessment keeps of a load that it does not judge. -/
theorem Load.assessed_kept (h : l.isAssessed = false) : l.assessed curves now r =
    { l with a16 := (l.assessed curves now r).a16, sampleAge := (l.assessed curves now r).sampleAge,
             sampleTime := (l.assessed curves now r).sampleTime, latest := (l.assessed curves now r).latest } := by
  have hseen : (l.seen curves now r).isAssessed = false := by rw [Load.seen_kept]; exact h
  have hjudged : (l.seen curves now r).judged r = l.seen curves now r :=
    if_neg fun hand => Bool.false_ne_true (hseen.symm.trans hand.2)
  have hstruck : (l.seen curves now r).struck (r.strokes.getD 0) = l.seen curves now r :=
    if_neg fun hand => Bool.false_ne_true (hseen.symm.trans hand.2.1)
  rw [Load.assessed_eq, hjudged, hstruck, Load.keepFlags_eq, Load.seen_kept]

/-! ## Parking reports -/

theorem State.applyRunState_parking (hl : s.load? n = some l) (hstate : l.state = .parking step) :
    s.applyRunState n how r = s.parkingReport n step r := by
  simp only [State.applyRunState, hl, hstate]

/-- The assessment of a load in PARKING whose report has changed it alone. -/
theorem Plant.assess_changed {p q : Plant} (hq : q.sound) (hx : q.load? n = some (x.heldBy r)) (h : x.isAssessed = false)
    (hothers : ∀ m, m ≠ n → q.load? m = p.load? m) (hcurves : q.curves = p.curves) (clock : Option Clock) :
    (q.assess clock n r).load? n = some (x.underReport p.curves (clock.map Clock.stamp) r) ∧
      (∀ m, m ≠ n → (q.assess clock n r).load? m = p.load? m) ∧ (q.assess clock n r).feeders = q.feeders := by
  rw [Plant.assess_plain hq hx (fun hand => Bool.false_ne_true (h.symm.trans hand.2))]
  have hnum (y : Load) := (Load.sameUnitView_assessed q.curves (clock.map Clock.stamp) y r).num
  refine ⟨?_, fun m hm => (Plant.load?_set_other hm hnum).trans (hothers m hm), rfl⟩
  rw [Plant.load?_set hx hnum, hcurves, Load.assessed_resting h]

/-- A park step that the report begins. -/
theorem State.takeReport_beginStep (hp : s.plant.sound) (hl : s.load? n = some l) (hrests : l.rests) {next : ParkStep}
    (hstep : (s.heldBy n r).applyRunState n how r = (s.heldBy n r).beginStep n next) :
    (s.takeReport n how r.call r.lockout r).load? n = some { l.underReport s.plant.curves s.now r with
        state := .parking next, timer := some (Timer.start (l.cfg.limitOf next)),
        due := match next.order? with
          | none => l.due
          | some k => if r.lockout then l.due else some k } ∧
      (∀ m, m ≠ n → (s.takeReport n how r.call r.lockout r).load? m = s.load? m) ∧
      (s.takeReport n how r.call r.lockout r).plant.feeders = s.plant.feeders ∧
      (s.takeReport n how r.call r.lockout r).alerts = s.alerts := by
  have hheld := State.heldBy_sound hp n r
  have hself := State.heldBy_load? hl r
  have hbegun := State.becomes_beginStep hheld hself hrests next
  have hloads := State.beginStep_loads hself hheld.numbered next
  have hothers (m : Nat) (hm : m ≠ n) : ((s.heldBy n r).beginStep n next).plant.load? m = s.plant.load? m := by
    rw [Plant.load?_of_loads hloads, Plant.load?_set_other (f := Load.inStep next) hm]
    exact Plant.load?_set_other (f := Load.heldBy r) hm
  have hcurves : ((s.heldBy n r).beginStep n next).plant.curves = s.plant.curves :=
    (State.works_beginStep n next (s.heldBy n r)).plant.curves
  have hclock : ((s.heldBy n r).beginStep n next).calendar = s.calendar :=
    (State.works_beginStep n next (s.heldBy n r)).beyond.1
  have halerts : ((s.heldBy n r).beginStep n next).alerts = s.alerts := by
    unfold State.beginStep
    split <;> rfl
  obtain ⟨hload, hrest, hfeeders⟩ := Plant.assess_changed
    (x := { l with
      state := .parking next, timer := some (Timer.start (l.cfg.limitOf next)),
      due := match next.order? with
        | none => l.due
        | some k => if r.lockout then l.due else some k })
    hbegun.sound (hbegun.self hself (fun _ => rfl) LoadState.noConfusion) (Load.isAssessed_parking rfl) hothers hcurves
    s.calendar.clock
  rw [Load.underReport_stepped] at hload
  have hplant : (s.takeReport n how r.call r.lockout r).plant =
      ((s.heldBy n r).beginStep n next).plant.assess s.calendar.clock n r := by
    rw [State.takeReport_plain, hstep, State.onPlantNow_plant, hclock]
  simp only [State.load?, hplant]
  refine ⟨hload, hrest, hfeeders.trans (State.beginStep_feeders next), ?_⟩
  rw [State.takeReport_plain, hstep, State.onPlantNow_alerts, halerts]

/-- A running report in PARKING that moves nothing. -/
theorem State.parkingReport_still (hrun : r.run ≠ .stopped) (hcoast : ¬(step = .coasting ∧ r.speedLow = true))
    (htaken : ¬(step = .unloading .orderTaken ∧ r.unloaded = true)) (hdwell : ¬(step = .unloading .dwell ∧ r.unloaded = false))
    (s : State) : s.parkingReport n step r = s := by
  unfold State.parkingReport
  rw [if_pos (RunState.isRunning_iff.mpr hrun)]
  match step with
  | .declutching => rfl
  | .coasting => exact if_neg fun h => hcoast ⟨rfl, h⟩
  | .unloading .order => rfl
  | .unloading .orderTaken => exact if_neg fun h => htaken ⟨rfl, h⟩
  | .unloading .dwell => exact if_pos (Bool.not_eq_false _ ▸ fun h => hdwell ⟨rfl, h⟩)
  | .stopping => rfl

/-- UNLOADED after the echo begins the dwell phase (R58). -/
theorem State.takeReport_dwell (hp : s.plant.sound) (hl : s.load? n = some l) (hrests : l.rests)
    (hdwell : (s.heldBy n r).applyRunState n how r = (s.heldBy n r).beginStep n (.unloading .dwell)) :
    s.takeReport n how r.call r.lockout r = { s with plant := s.plant.setLoad n (fun _ =>
      { l.underReport s.plant.curves s.now r with
        state := .parking (.unloading .dwell), timer := some (Timer.start l.cfg.unloadDwell) }) } := by
  have hset : (s.plant.setLoad n (fun x => (x.heldBy r).begins (.unloading .dwell))).sound :=
    Plant.sound_setLoad_rests hp hl hrests (fun _ => rfl) (Load.rests_of_state nofun nofun)
  have hassess := Plant.assess_set (f := fun x => (x.heldBy r).begins (.unloading .dwell)) (fun _ => rfl) hp hset hl
    (fun h => Bool.false_ne_true h.2) s.calendar.clock r
  have hplant := Plant.setLoad_setLoad n (Load.heldBy r) (Load.begins (.unloading .dwell)) (fun _ => rfl) s.plant
  have hafter : ((l.heldBy r).begins (.unloading .dwell)).assessed s.plant.curves s.now r =
      { l.underReport s.plant.curves s.now r with
        state := .parking (.unloading .dwell), timer := some (Timer.start l.cfg.unloadDwell) } := by
    rw [show (l.heldBy r).begins (.unloading .dwell) = (l.begins (.unloading .dwell)).heldBy r from rfl,
      Load.assessed_resting (l := l.begins (.unloading .dwell)) rfl, Load.underReport_begins]
    rfl
  rw [State.takeReport_plain, hdwell]
  rw [show s.calendar.clock.map Clock.stamp = s.now from rfl, hafter, ← hplant] at hassess
  exact congrArg (fun p => ({ s with plant := p } : State)) hassess

/-- The record of a load in PARKING whose sequence ends without its being parked (R21, R60). -/
def Load.sequenceDropped (l : Load) : Load := { l with timer := none, manual := false, wakeDue := false }

theorem State.abandonReload_plant (n : Nat) (s : State) :
    (s.abandonReload n).plant = (s.plant.finish n Load.sequenceDropped).enterActive s.calendar.clock n := by
  rw [State.abandonReload, State.raiseLoad_plant]
  rfl

/-- A compressor that has taken load again in its dwell phase (R60). -/
theorem State.takeReport_reload (hp : s.plant.sound) (hl : s.load? n = some l) (hrests : l.rests)
    (habandon : (s.heldBy n r).applyRunState n how r = (s.heldBy n r).abandonReload n) :
    (s.takeReport n how r.call r.lockout r).load? n =
        some (({ l with timer := none, manual := false, wakeDue := false, due := none } : Load).activated
          s.plant.curves s.now r) ∧
      (∀ m x, m ≠ n → s.load? m = some x → x.state ≠ .wakeQueued →
        (s.takeReport n how r.call r.lockout r).load? m = some x) ∧
      (s.takeReport n how r.call r.lockout r).alerts = (s.raiseLoad n .parkAborted).alerts := by
  have hstarts : s.plant.Starts n ((s.plant.setLoad n (Load.heldBy r)).finish n Load.sequenceDropped)
      ({ l with timer := none, manual := false, wakeDue := false, due := none }.heldBy r) :=
    Plant.starts_finish (f := Load.sequenceDropped) hp hl hrests hrests
  have hcalendar : ((s.heldBy n r).abandonReload n).calendar = s.calendar :=
    (State.works_abandonReload n (s.heldBy n r)).beyond.1
  have hplant : (s.takeReport n how r.call r.lockout r).plant =
      ((s.plant.setLoad n (Load.heldBy r)).finish n Load.sequenceDropped).runs s.calendar.clock n r := by
    rw [State.takeReport_plain, habandon, State.onPlantNow_plant, hcalendar, State.abandonReload_plant]
    rfl
  obtain ⟨hself, hothers, -, -⟩ := hstarts.ran (l := l) rfl hplant
  refine ⟨hself, hothers, ?_⟩
  have hraised : ((s.heldBy n r).abandonReload n).load? n = some (l.heldBy r).abandoned :=
    (State.becomes_abandonReload (State.heldBy_sound hp n r) (State.heldBy_load? hl r) hrests).self
      (State.heldBy_load? hl r) (fun _ => rfl) LoadState.noConfusion
  rw [State.takeReport_plain, habandon, State.onPlantNow_alerts]
  exact State.raised_alerts hl hraised rfl rfl rfl

/-! ## A load in PARKING that is found stopped (R62, R63) -/

theorem State.reachParked_plant (n : Nat) (s : State) :
    (s.reachParked n).plant = s.plant.finish n (fun l =>
      { l with state := .parked, timer := none, parkOwned := true, manual := false,
               stopTime := if l.cfg.kind = .compressor then s.now else l.stopTime }) := by
  rw [State.reachParked, State.raiseLoad_plant]
  rfl

theorem State.enterParked_alerts (hp : s.plant.sound) (hl : s.load? n = some l) (hrests : l.rests) :
    (s.enterParked n).alerts = (s.raiseLoad n .parked).alerts := by
  have hraised : (s.reachParked n).load? n = some (l.parkedNow s.now) :=
    (State.becomes_reachParked hp hl hrests).self hl (fun _ => rfl) LoadState.noConfusion
  have hreach : (s.reachParked n).alerts = (s.raiseLoad n .parked).alerts := State.raised_alerts hl hraised rfl rfl rfl
  rw [State.enterParked_eq hl]
  split <;> exact hreach

/-- Without a wake-due flag the load is PARKED, and nothing else changes. -/
theorem State.takeReport_parks (hp : s.plant.sound) (hl : s.load? n = some l) (hrests : l.rests) (hwake : l.wakeDue = false)
    (hparks : (s.heldBy n r).applyRunState n how r = (s.heldBy n r).enterParked n) :
    (s.takeReport n how r.call r.lockout r).load? n = some ((l.underReport s.plant.curves s.now r).parkedNow s.now) ∧
      (∀ m, m ≠ n → (s.takeReport n how r.call r.lockout r).load? m = s.load? m) ∧
      (s.takeReport n how r.call r.lockout r).plant.feeders = s.plant.feeders := by
  have hself := State.heldBy_load? hl r
  have hreach := State.becomes_reachParked (State.heldBy_sound hp n r) hself hrests
  have henter : (s.heldBy n r).enterParked n = (s.heldBy n r).reachParked n := by
    rw [State.enterParked_eq hself, if_neg (by rw [show (l.heldBy r).wakeDue = false from hwake]; exact Bool.false_ne_true)]
  have hplant := State.reachParked_plant n (s.heldBy n r)
  have hcalendar : ((s.heldBy n r).reachParked n).calendar = s.calendar := by
    rw [State.reachParked, State.raiseLoad_calendar]
    rfl
  have hothers (m : Nat) (hm : m ≠ n) : ((s.heldBy n r).reachParked n).plant.load? m = s.plant.load? m := by
    rw [hplant, (Plant.finish_sameButLoad n _ (s.heldBy n r).plant).1 m hm]
    exact Plant.load?_set_other (f := Load.heldBy r) hm
  have hcurves : ((s.heldBy n r).reachParked n).plant.curves = s.plant.curves := by
    rw [hplant]
    exact (Plant.finish_sameButLoad n _ (s.heldBy n r).plant).2.2
  obtain ⟨hload, hrest, hfeeders⟩ := Plant.assess_changed (x := l.parkedNow s.now) hreach.sound
    (hreach.self hself (fun _ => rfl) LoadState.noConfusion) rfl hothers hcurves s.calendar.clock
  have hafter : (s.takeReport n how r.call r.lockout r).plant =
      ((s.heldBy n r).reachParked n).plant.assess s.calendar.clock n r := by
    rw [State.takeReport_plain, hparks, henter, State.onPlantNow_plant, hcalendar]
  have hkept : ((s.heldBy n r).reachParked n).plant.feeders = s.plant.feeders := by
    rw [hplant, Plant.finish_feeders]
    rfl
  rw [show s.calendar.clock.map Clock.stamp = s.now from rfl, Load.underReport_parkedNow] at hload
  simp only [State.load?, hafter]
  exact ⟨hload, hrest, hfeeders.trans hkept⟩

/-- With a wake-due flag the load is woken at once (R63). -/
theorem State.takeReport_parksThenWakes (hp : s.plant.sound) (hl : s.load? n = some l) (hrests : l.rests)
    (hwake : l.wakeDue = true) (hparks : (s.heldBy n r).applyRunState n how r = (s.heldBy n r).enterParked n) :
    ∃ m, (s.takeReport n how r.call r.lockout r).load? n = some m ∧ m.onItsWay ∧ m.wakeDue = false ∧ m.parkOwned = true ∧
      m.manual = false ∧ m.cfg = l.cfg := by
  have hself := State.heldBy_load? hl r
  have hreach := State.becomes_reachParked (State.heldBy_sound hp n r) hself hrests
  have henter : (s.heldBy n r).enterParked n = ((s.heldBy n r).reachParked n).wake n := by
    rw [State.enterParked_eq hself, if_pos (show (l.heldBy r).wakeDue = true from hwake)]
  obtain ⟨m, hm, hway, hdue, hcore⟩ := Plant.wake_parked ((s.heldBy n r).reachParked n).calendar.clock hreach.sound
    (hreach.self hself (fun _ => rfl) LoadState.noConfusion) rfl
  have hwoken := Plant.moves_wake ((s.heldBy n r).reachParked n).calendar.clock n hreach.sound
  have hnot := Load.isAssessed_onItsWay hway
  have hown := congrArg Load.parkOwned hcore
  have hmanual := congrArg Load.manual hcore
  have hcfg := congrArg Load.cfg hcore
  have hload := Plant.assess_plain hwoken.sound hm (fun hand => Bool.false_ne_true (hnot.symm.trans hand.2))
    (((s.heldBy n r).reachParked n).wake n).calendar.clock r
  refine ⟨m.assessed (((s.heldBy n r).reachParked n).wake n).plant.curves (((s.heldBy n r).reachParked n).wake n).now r,
    ?_, ?_⟩
  · rw [State.takeReport_plain, hparks, henter]
    exact (congrArg (Plant.load? · n) hload).trans
      (Plant.load?_set hm fun x => (Load.sameUnitView_assessed _ _ x r).num)
  · rw [Load.assessed_kept hnot]
    exact ⟨hway, hdue, hown, hmanual, hcfg⟩

/-! ## Waking reports (R85) -/

theorem State.applyRunState_waking {w : WakeStep} (hl : s.load? n = some l) (hstate : l.state = .waking w) :
    s.applyRunState n how r = s.wakingReport n l r := by
  simp only [State.applyRunState, hl, hstate]

/-- A WAKING load reported RUNNING, before its entry into ACTIVE. -/
def Load.waked (l : Load) : Load := { l with state := .active, dwell := 0, idle := false, timer := none, parkOwned := false }

theorem State.wakingReport_plant (hrun : r.run = .running) (l : Load) (s : State) :
    (s.wakingReport n l r).plant = (((s.plant.finish n Load.waked).giveBack l).grantAttempt s.calendar.clock
      l.cfg.feeder).enterActive s.calendar.clock n := by
  rw [State.wakingReport, if_pos hrun, State.raiseLoad_plant]
  rfl

theorem State.takeReport_woken_plant {w : WakeStep} (hl : s.load? n = some l) (hstate : l.state = .waking w) :
    (s.takeReport n how r.call r.lockout r).plant =
      ((s.heldBy n r).wakingReport n (l.heldBy r) r).plant.assess s.calendar.clock n r := by
  have hcalendar : ((s.heldBy n r).wakingReport n (l.heldBy r) r).calendar = s.calendar :=
    (State.works_wakingReport n (l.heldBy r) r (s.heldBy n r)).beyond.1
  rw [State.takeReport_plain, State.applyRunState_waking (State.heldBy_load? hl r) hstate, State.onPlantNow_plant, hcalendar]

/-- RUNNING brings a WAKING load into ACTIVE. -/
theorem State.takeReport_woken {w : WakeStep} (hp : s.plant.sound) (hl : s.load? n = some l) (hstate : l.state = .waking w)
    (hrun : r.run = .running) :
    (s.takeReport n how r.call r.lockout r).load? n =
        some (({ l with timer := none, parkOwned := false, due := none } : Load).activated s.plant.curves s.now r) ∧
      (s.takeReport n how r.call r.lockout r).alerts = (s.raiseLoad n .woken).alerts ∧
      (∀ m x, m ≠ n → s.load? m = some x → x.state ≠ .wakeQueued →
        (s.takeReport n how r.call r.lockout r).load? m = some x) := by
  have hself := State.heldBy_load? hl r
  have hwoken := State.becomes_wakingReport (State.heldBy_sound hp n r) hself (Load.isWaking_iff.mpr ⟨w, hstate⟩) hrun
  have hafter : ((s.heldBy n r).wakingReport n (l.heldBy r) r).load? n = some (l.heldBy r).wokenNow :=
    hwoken.self hself (fun _ => rfl) LoadState.noConfusion
  have hcurves : ((s.heldBy n r).wakingReport n (l.heldBy r) r).plant.curves = s.plant.curves :=
    (State.works_wakingReport n (l.heldBy r) r (s.heldBy n r)).plant.curves
  have hassess := Plant.becomes_assess hwoken.sound hafter s.calendar.clock r
  rw [hcurves] at hassess
  have hnum (x : Load) := (Load.sameUnitView_assessed s.plant.curves (s.calendar.clock.map Clock.stamp) x r).num
  refine ⟨?_, ?_, fun m x hm hx hq => ?_⟩
  · have hload := hassess.self hafter hnum (Load.assessed_not_queued _)
    rw [show (l.heldBy r).wokenNow = (({ l with timer := none, parkOwned := false, due := none } : Load).heldBy r).activeNow
      from rfl, Load.assessed_activeNow, ← State.takeReport_woken_plant (how := how) hl hstate] at hload
    exact hload
  · have hraised := hafter
    rw [State.wakingReport, if_pos hrun] at hraised
    rw [State.takeReport_plain, State.applyRunState_waking hself hstate, State.onPlantNow_alerts, State.wakingReport,
      if_pos hrun]
    exact State.raised_alerts hl hraised rfl rfl rfl
  · rw [State.load?, State.takeReport_woken_plant hl hstate]
    have hheld : (s.heldBy n r).plant.load? m = some x := (Plant.load?_set_other (f := Load.heldBy r) hm).trans hx
    exact hassess.other hnum hm (hwoken.other (fun _ => rfl) hm hheld hq) hq

/-- With nothing in its feeder's queue, and but for a fan of a zone, the load alone changes and its units are free again. -/
theorem State.takeReport_woken_plain {w : WakeStep} (hp : s.plant.sound) (hl : s.load? n = some l)
    (hstate : l.state = .waking w) (hrun : r.run = .running) (hqueue : (s.plant.feeder l.cfg.feeder).queue = [])
    (hfan : ¬l.isZoneFan) :
    (∀ m, m ≠ n → (s.takeReport n how r.call r.lockout r).load? m = s.load? m) ∧
      (s.takeReport n how r.call r.lockout r).plant.feeders =
        (s.plant.setFeeder l.cfg.feeder (fun f => { f with free := f.free + l.cfg.demand })).feeders := by
  have hself := State.heldBy_load? hl r
  have hwoken := State.becomes_wakingReport (State.heldBy_sound hp n r) hself (Load.isWaking_iff.mpr ⟨w, hstate⟩) hrun
  have hafter := hwoken.self hself (fun _ => rfl) LoadState.noConfusion
  have hfinish := Plant.finish_sameButLoad n Load.waked (s.heldBy n r).plant
  have hempty : ((((s.heldBy n r).plant.finish n Load.waked).giveBack (l.heldBy r)).feeder (l.heldBy r).cfg.feeder).queue = [] := by
    rw [Plant.feeder_giveBack, Plant.feeder_of_feeders Plant.finish_feeders]
    exact hqueue
  have hreached : (((s.heldBy n r).plant.finish n Load.waked).giveBack (l.heldBy r)).load? n =
      some ((l.heldBy r).waked.undue) := Plant.finish_load? (f := Load.waked) hself
  have hplant : ((s.heldBy n r).wakingReport n (l.heldBy r) r).plant =
      (((s.heldBy n r).plant.finish n Load.waked).giveBack (l.heldBy r)).setLoad n Load.activeNow := by
    rw [State.wakingReport_plant hrun, Plant.grantAttempt_empty _ _ _ hempty, Plant.enterActive_plain hreached hfan]
  have hnum (x : Load) := (Load.sameUnitView_assessed ((s.heldBy n r).wakingReport n (l.heldBy r) r).plant.curves
    (s.calendar.clock.map Clock.stamp) x r).num
  have htaken : (s.takeReport n how r.call r.lockout r).plant =
      ((s.heldBy n r).wakingReport n (l.heldBy r) r).plant.setLoad n
        (Load.assessed ((s.heldBy n r).wakingReport n (l.heldBy r) r).plant.curves (s.calendar.clock.map Clock.stamp) r) := by
    rw [State.takeReport_woken_plant hl hstate]
    exact Plant.assess_plain hwoken.sound hafter (fun hand => hfan hand.1) s.calendar.clock r
  refine ⟨fun m hm => ?_, ?_⟩
  · rw [State.load?, htaken, Plant.load?_set_other hm hnum, hplant, Plant.load?_set_other (f := Load.activeNow) hm]
    exact (hfinish.1 m hm).trans (Plant.load?_set_other (f := Load.heldBy r) hm)
  · rw [htaken]
    change ((s.heldBy n r).wakingReport n (l.heldBy r) r).plant.feeders = _
    rw [hplant]
    change (((s.heldBy n r).plant.finish n Load.waked).giveBack (l.heldBy r)).feeders = _
    simp only [Plant.giveBack, Plant.setFeeder, Plant.finish_feeders]
    rfl

end

end Sys2Proof.Machine
end

section
/-!
PROOFS. Echoes (R55 to R61, R84, R112, R113).
-/

namespace Sys2Proof.Machine

section

variable {p q : Plant} {s : State} {n m : Nat} {l x y : Load} {i j : StationId} {o : Order} {k : OrderKind} {refused : Bool}
  {step : ParkStep}

/-! ## Withdrawing where no order sits in the slot -/

theorem Plant.withdraw_of_none (hl : p.load? n = some l) (hdue : l.due = none) : p.withdraw n = p := by
  simp only [Plant.withdraw, hl, hdue, Option.isNone_none, if_true]

/-- Where the slot is empty no slot changes. -/
theorem Plant.withdraw_station_empty (hl : p.load? n = some l) (hslot : (p.station l.cfg.station).slot = none)
    (j : StationId) : (p.withdraw n).station j = p.station j := by
  simp only [Plant.withdraw, hl, hslot]
  split <;> rfl

/-- The order of a grant enters an empty slot before any that waits (R112, log entry 20). -/
theorem Plant.grantTo_station (hl : p.load? n = some l) (hlock : l.hold.byLockout = false)
    (hslot : (p.station l.cfg.station).slot = none) (f : FeederId) (rest : List QueueEntry) :
    (p.grantTo f n rest).station l.cfg.station =
      { p.station l.cfg.station with slot := some { channel := l.cfg.channel, kind := .motorOn }, lastServed := l.cfg.channel } := by
  simp only [Plant.grantTo, hl]
  generalize hq : Plant.setLoad n (fun l => { l with state := .waking .ordered, awaitingFan := false })
    (p.setFeeder f (fun x => { x with free := x.free - l.cfg.demand, queue := rest })) = q
  have hstation (j : StationId) : q.station j = p.station j := by rw [← hq]; rfl
  have hload : q.load? n = some { l with state := .waking .ordered, awaitingFan := false } := by
    rw [← hq]
    exact Plant.load?_set hl
  have hempty : (q.station l.cfg.station).slot = none := by rw [hstation]; exact hslot
  have hwithdrawn : (q.withdraw n).load? n = some ({ l with state := .waking .ordered, awaitingFan := false } : Load).undue := by
    rw [Plant.withdraw_load?, if_pos rfl, hload]
    rfl
  have hkept := Plant.withdraw_station_empty hload hempty l.cfg.station
  change ((q.withdraw n).makeDue n .motorOn).station l.cfg.station = _
  rw [Plant.makeDue_station hwithdrawn, if_pos ⟨rfl, hlock, (congrArg Station.slot hkept).trans hempty⟩, hkept, hstation]
  rfl

/-! ## The load of an echo -/

theorem Load.afterEcho_undue (k : OrderKind) (refused : Bool) (l : Load) :
    l.undue.afterEcho k refused = l.afterEcho k refused := by
  unfold Load.afterEcho Load.undue
  cases l.state <;> rfl

/-- What TAKEN makes of a load in PARKING (R56, R58). -/
def Load.stepTaken (step : ParkStep) (k : OrderKind) (l : Load) : Load :=
  match step, k with
  | .declutching, .declutch => l.begins .coasting
  | .unloading .order, .unload => { l with state := .parking (.unloading .orderTaken) }
  | _, _ => l

theorem State.parkTaken_plant (n : Nat) (step : ParkStep) (k : OrderKind) (s : State) :
    (s.parkTaken n step k).plant = s.plant.setLoad n (Load.stepTaken step k) := by
  have hsame (h : Load.stepTaken step k = id) : s.plant = s.plant.setLoad n (Load.stepTaken step k) := by
    rw [h, Plant.setLoad_id]
  match step, k with
  | .declutching, .declutch => rfl
  | .unloading .order, .unload => rfl
  | .declutching, .unload | .declutching, .motorOff | .declutching, .motorOn => exact hsame rfl
  | .unloading .order, .declutch | .unloading .order, .motorOff | .unloading .order, .motorOn => exact hsame rfl
  | .unloading .orderTaken, _ | .unloading .dwell, _ | .coasting, _ | .stopping, _ => exact hsame rfl

theorem Load.afterEcho_taken (hstate : l.state = .parking step) (k : OrderKind) :
    l.afterEcho k false = l.undue.stepTaken step k := by
  cases l
  cases hstate
  match step with
  | .unloading .order => cases k <;> rfl
  | .unloading .orderTaken => rfl
  | .unloading .dwell => rfl
  | .declutching => cases k <;> rfl
  | .coasting => rfl
  | .stopping => rfl

/-- TAKEN of another order than the MOTOR ON that a WAKING load waits for. -/
theorem Load.afterEcho_heard {w : WakeStep} (hstate : l.state = .waking w) (horder : ¬(w = .ordered ∧ k = .motorOn)) :
    l.afterEcho k false = l.undue := by
  cases l
  cases hstate
  exact if_neg horder

/-- A load that no echo moves. -/
theorem Load.afterEcho_other (hparking : ∀ step, l.state ≠ .parking step) (hwaking : ∀ w, l.state ≠ .waking w) :
    l.afterEcho k refused = l.undue := by
  unfold Load.afterEcho
  split
  · next step h => exact absurd h (hparking step)
  · next w h => exact absurd h (hwaking w)
  · rfl

theorem State.passEcho_other (hl : s.load? n = some l) (hparking : ∀ step, l.state ≠ .parking step)
    (hwaking : ∀ w, l.state ≠ .waking w) : s.passEcho n k refused = s := by
  simp only [State.passEcho, hl]

theorem State.enterFaulted_waking (hl : s.load? n = some l) (h : l.isWaking = true) :
    (s.enterFaulted n).plant =
      ((s.plant.finish n Load.failing).giveBack l).grantAttempt s.calendar.clock l.cfg.feeder := by
  simp only [State.enterFaulted, hl, h, if_true, State.returnUnits_plant, State.countFault_plant, State.raiseLoad_plant,
    State.countFault_calendar, State.raiseLoad_calendar]
  rfl

/-- Where the order is gone already, the entry into FAULTED withdraws none. -/
theorem Plant.finish_failing (hl : p.load? n = some l) (hdue : l.due = none) :
    p.finish n Load.failing = p.setLoad n Load.failing := by
  have hset : (p.setLoad n Load.failing).load? n = some l.failing := Plant.load?_set hl
  exact Plant.withdraw_of_none hset hdue

/-- Unless units go back to a feeder with a queue, an echo changes the record of its load alone. -/
theorem State.passEcho_settled (hp : s.plant.numbered) (hl : s.load? n = some y) (hdue : y.due = none)
    (h : refused = false ∨ y.isWaking = false ∨ (s.plant.feeder y.cfg.feeder).queue = []) :
    (s.passEcho n k refused).plant.stations = s.plant.stations ∧
      (s.passEcho n k refused).plant.loads = (s.plant.setLoad n (Load.afterEcho k refused)).loads := by
  have hundue : y.undue = y := by rw [Load.undue, ← hdue]
  have hset {q : Plant} {f : Load → Load} (hq : q = s.plant.setLoad n f) (hf : f y = y.afterEcho k refused) :
      q.stations = s.plant.stations ∧ q.loads = (s.plant.setLoad n (Load.afterEcho k refused)).loads := by
    rw [hq, Plant.setLoad_congr hp (g := Load.afterEcho k refused) fun x hx => by
      rw [show s.plant.load? n = some y from hl] at hx; cases hx; exact hf]
    exact ⟨rfl, rfl⟩
  have hstay (hf : y = y.afterEcho k refused) : s.plant.stations = s.plant.stations ∧
      s.plant.loads = (s.plant.setLoad n (Load.afterEcho k refused)).loads :=
    hset (f := id) (Plant.setLoad_id n s.plant).symm hf
  have hfails := Plant.finish_failing hl hdue
  cases hstate : y.state with
  | parking step =>
    simp only [State.passEcho, hl, hstate]
    cases refused with
    | true =>
      have hwaking : y.isWaking = false := by rw [Load.isWaking, hstate]
      rw [if_pos rfl, State.enterFaulted_parking hl hwaking, State.countFault_plant, State.raiseLoad_plant]
      exact hset hfails (by simp [Load.failing, Load.afterEcho, Load.faulted, hstate, hdue])
    | false =>
      rw [if_neg Bool.false_ne_true]
      exact hset (State.parkTaken_plant n step k s) (by rw [Load.afterEcho_taken hstate, hundue])
  | waking w =>
    simp only [State.passEcho, hl, hstate]
    have hwaking : y.isWaking = true := Load.isWaking_iff.mpr ⟨w, hstate⟩
    cases refused with
    | true =>
      have hqueue := (h.resolve_left nofun).resolve_left (by simp [hwaking])
      have hempty : (((s.plant.finish n Load.failing).giveBack y).feeder y.cfg.feeder).queue = [] := by
        rw [Plant.feeder_giveBack, Plant.feeder_of_feeders Plant.finish_feeders]
        exact hqueue
      rw [if_pos rfl, State.enterFaulted_waking hl hwaking, Plant.grantAttempt_empty _ _ _ hempty, hfails]
      exact hset (q := s.plant.setLoad n Load.failing) rfl
        (by simp [Load.failing, Load.afterEcho, Load.faulted, hstate, hdue])
    | false =>
      rw [if_neg Bool.false_ne_true]
      split
      · next horder =>
        rw [State.setLoad_plant]
        exact hset (f := fun l => { l with state := .waking .settling }) rfl
          (by simp [Load.afterEcho, hstate, horder, hdue])
      · next horder =>
        exact hstay (by rw [Load.afterEcho_heard hstate horder, hundue])
  | _ =>
    have hparking : ∀ step, y.state ≠ .parking step := by simp [hstate]
    have hwaking : ∀ w, y.state ≠ .waking w := by simp [hstate]
    rw [State.passEcho_other hl hparking hwaking]
    exact hstay (by rw [Load.afterEcho_other hparking hwaking, hundue])

end

end Sys2Proof.Machine
end

section
/-!
PROOFS. The slot after an echo, and the obligation about echoes, parking and waking reports and edges (R112, R113).
-/

namespace Sys2Proof.Machine

section

variable {p q : Plant} {s : State} {n m : Nat} {l x y : Load} {i j : StationId} {c : Channel} {o : Order} {k : OrderKind}
  {e : Echo} {refused : Bool}

/-! ## An echo that matches -/

/-- The slot is empty and the due order gone: the state in which the load takes the result of its order (R113). -/
def State.echoed (i : StationId) (n : Nat) (s : State) : State :=
  (s.setStation i (fun st => { st with slot := none })).setLoad n Load.undue

theorem State.takeEcho_ignored (h : ∀ o, (s.station i).slot = some o → ¬(o.channel.val = e.channel ∧ o.kind = e.kind)) :
    s.takeEcho i e = s := by
  unfold State.takeEcho
  split
  · rfl
  · next o ho => exact if_neg (h o ho)

theorem State.takeEcho_matching (hslot : (s.station i).slot = some o) (hchannel : o.channel.val = e.channel)
    (hkind : o.kind = e.kind) (hl : s.plant.loadAt? i o.channel = some l) :
    s.takeEcho i e = ((s.echoed i l.num).passEcho l.num e.kind e.refused).onPlant (Plant.refillSlot i) := by
  simp only [State.takeEcho, hslot, hchannel, hkind, and_self, if_true, hl]
  rfl

theorem State.echoed_sound (hp : s.plant.sound) (i : StationId) (n : Nat) : (s.echoed i n).plant.sound :=
  ((Plant.sameUnits_setStation i (fun st => { st with slot := none }) s.plant).trans
    (Plant.sameUnits_setLoad n Load.undue _)).sound hp

theorem State.echoed_load? (hl : s.load? n = some l) (i : StationId) : (s.echoed i n).load? n = some l.undue :=
  Plant.load?_set (p := s.plant.setStation i (fun st => { st with slot := none })) (f := Load.undue) hl

theorem State.echoed_other (hm : m ≠ n) (i : StationId) (s : State) : (s.echoed i n).load? m = s.load? m :=
  Plant.load?_set_other (p := s.plant.setStation i (fun st => { st with slot := none })) (f := Load.undue) hm

theorem State.echoed_station (i : StationId) (n : Nat) (s : State) :
    (s.echoed i n).station i = { s.station i with slot := none } ∧
      ∀ j, j ≠ i → (s.echoed i n).station j = s.station j :=
  ⟨Plant.station_setStation_self s.plant i (fun st => { st with slot := none }),
    fun _ hj => Plant.station_setStation_other s.plant hj (fun st => { st with slot := none })⟩

/-- An echo keeps number and configured fields, and ends the due order. -/
theorem Load.afterEcho_keeps (k : OrderKind) (refused : Bool) (l : Load) :
    (l.afterEcho k refused).num = l.num ∧ (l.afterEcho k refused).cfg = l.cfg ∧ (l.afterEcho k refused).due = none := by
  unfold Load.afterEcho Load.faulted
  split
  · split
    · exact ⟨rfl, rfl, rfl⟩
    · split <;> exact ⟨rfl, rfl, rfl⟩
  · split
    · exact ⟨rfl, rfl, rfl⟩
    · split <;> exact ⟨rfl, rfl, rfl⟩
  · exact ⟨rfl, rfl, rfl⟩

theorem Load.afterEcho_num (k : OrderKind) (refused : Bool) (l : Load) : (l.afterEcho k refused).num = l.num :=
  (l.afterEcho_keeps k refused).1

/-- The echo before the slot is filled again, where no grant comes first. -/
theorem State.echoed_settled (hp : s.plant.sound) (hl : s.load? n = some l)
    (h : refused = false ∨ l.isWaking = false ∨ (s.plant.feeder l.cfg.feeder).queue = []) :
    (∀ j, ((s.echoed i n).passEcho n k refused).station j = (s.echoed i n).station j) ∧
      ((s.echoed i n).passEcho n k refused).plant.loads = (s.plant.setLoad n (Load.afterEcho k refused)).loads := by
  obtain ⟨hstations, hloads⟩ := State.passEcho_settled (k := k) (State.echoed_sound hp i n).numbered
    (State.echoed_load? hl i) rfl h
  refine ⟨fun j => congrArg (fun v => v[j]) hstations, hloads.trans ?_⟩
  have htwice := Plant.setLoad_loads_of (p := s.plant) (q := (s.echoed i n).plant) (n := n) (f := Load.undue) rfl
    (Load.afterEcho k refused)
  have hsame : (fun x : Load => x.undue.afterEcho k refused) = Load.afterEcho k refused :=
    funext fun x => x.afterEcho_undue k refused
  rw [htwice, hsame]

/-- The load of a matching echo, and the others. -/
theorem State.echoed_loads (hp : s.plant.sound) (hl : s.load? n = some l) (i : StationId) (k : OrderKind) (refused : Bool) :
    ((s.echoed i n).passEcho n k refused).load? n = some (l.afterEcho k refused) ∧
      ∀ m x, m ≠ n → s.load? m = some x → x.state ≠ .wakeQueued →
        ((s.echoed i n).passEcho n k refused).load? m = some x := by
  by_cases h : refused = false ∨ l.isWaking = false
  · obtain ⟨-, hloads⟩ := State.echoed_settled (i := i) (k := k) hp hl (h.imp_right .inl)
    have hnum (x : Load) := x.afterEcho_num k refused
    refine ⟨(Plant.load?_of_loads hloads n).trans (Plant.load?_set hl hnum), fun m x hm hx _ => ?_⟩
    exact (Plant.load?_of_loads hloads m).trans ((Plant.load?_set_other hm hnum).trans hx)
  · obtain ⟨hrefused, hwaking⟩ := not_or.mp h
    obtain ⟨w, hstate⟩ := Load.isWaking_iff.mp (Bool.not_eq_false _ ▸ hwaking)
    obtain rfl : refused = true := Bool.not_eq_false _ ▸ hrefused
    have hself := State.echoed_load? hl i
    have hfaults : (s.echoed i n).passEcho n k true = (s.echoed i n).enterFaulted n := by
      simp only [State.passEcho, hself]
      rw [show l.undue.state = .waking w from hstate]
      rfl
    have hbecomes := State.becomes_enterFaulted (State.echoed_sound hp i n) hself
      (.inr (Load.isWaking_iff.mpr ⟨w, hstate⟩))
    have hafter : l.afterEcho k true = l.undue.faulted := by
      unfold Load.afterEcho
      rw [hstate]
      rfl
    rw [hfaults, hafter]
    exact ⟨hbecomes.self hself (fun _ => rfl) LoadState.noConfusion, fun m x hm hx hq =>
      hbecomes.other (fun _ => rfl) hm ((State.echoed_other hm i s).trans hx) hq⟩

/-! ## The slot is filled again (R112) -/

theorem Plant.loadAt?_setLoad {f : Load → Load} (hp : p.numbered) (hl : p.load? n = some l) (hplace : (f l).cfg = l.cfg)
    (hq : q.loads = (p.setLoad n f).loads) (i : StationId) (c : Channel) :
    q.loadAt? i c = (p.loadAt? i c).map (fun x => if x.num == n then f x else x) := by
  have hcfg (x : Load) (hx : x ∈ p.loads) : (if x.num == n then f x else x).cfg = x.cfg := by
    split
    · next hn =>
      have hsame := Plant.load?_of_mem hp hx
      rw [beq_iff_eq.mp hn, hl] at hsame
      cases hsame
      exact hplace
    · rfl
  rw [Plant.loadAt?, hq, Plant.setLoad, List.find?_map]
  refine congrArg _ (List.find?_congr fun x hx => ?_)
  exact congrArg (fun cfg : LoadConfig => cfg.station == i && cfg.channel == c) (hcfg x hx)

/-- The orders that wait once the load's is gone. -/
theorem Plant.waitingOrder_ended {f : Load → Load} (hp : p.numbered) (hl : p.load? n = some l) (hcfg : (f l).cfg = l.cfg)
    (hdue : (f l).due = none) (hq : q.loads = (p.setLoad n f).loads) (i : StationId) (c : Channel) :
    q.waitingOrder i c = if l.cfg.station = i ∧ l.cfg.channel = c ∧ p.loadAt? i c = some l then none else p.waitingOrder i c := by
  rw [Plant.waitingOrder, Plant.loadAt?_setLoad hp hl hcfg hq, Plant.waitingOrder]
  cases hx : p.loadAt? i c with
  | none => simp
  | some x =>
    obtain ⟨hmem, hstation, hchannel⟩ := Plant.loadAt?_some hx
    by_cases hn : x.num = n
    · have hsame := Plant.load?_of_mem hp hmem
      rw [hn, hl] at hsame
      cases hsame
      rw [if_pos ⟨hstation, hchannel, rfl⟩, Option.map_some, if_pos (beq_iff_eq.mpr hn), Option.bind_some, hdue]
      rfl
    · rw [if_neg fun h => hn (by cases h.2.2; exact Plant.load?_num hl), Option.map_some,
        if_neg (fun h => hn (beq_iff_eq.mp h))]

/-- The first channel in turn that has something is found. -/
theorem findSome?_turns {α : Type} {g : Channel → Option α} {a : α} {last c : Channel} {turn : Nat} (hturn : turn ≤ 3)
    (hc : c.val = (last.val + 1 + turn) % 4) (hg : g c = some a)
    (hearlier : ∀ (earlier : Nat) (d : Channel), earlier < turn → d.val = (last.val + 1 + earlier) % 4 → g d = none) :
    (turns last).findSome? g = some a := by
  have hnext (t : Nat) (d : Channel) (hd : d.val = (last.val + 1 + t) % 4) : d = last + 1 + Fin.ofNat 4 t := by
    apply Fin.ext
    rw [hd, Fin.val_add, Fin.val_add, Fin.val_ofNat]
    change (last.val + 1 + t) % 4 = ((last.val + 1) % 4 + t % 4) % 4
    omega
  have hnone (t : Nat) (d : Channel) (ht : t < turn) (hd : d = last + 1 + Fin.ofNat 4 t) : g d = none := by
    refine hearlier t d ht ?_
    rw [hd, Fin.val_add, Fin.val_add, Fin.val_ofNat]
    change ((last.val + 1) % 4 + t % 4) % 4 = (last.val + 1 + t) % 4
    omega
  have hturns : turns last = [last + 1 + Fin.ofNat 4 0, last + 1 + Fin.ofNat 4 1, last + 1 + Fin.ofNat 4 2,
      last + 1 + Fin.ofNat 4 3] := by
    clear hearlier hnext hnone hc
    revert last
    decide
  have hfound := hnext turn c hc ▸ hg
  rw [hturns]
  interval_cases turn
  · simp only [List.findSome?_cons, hfound]
  · simp only [List.findSome?_cons, hnone 0 _ (by decide) rfl, hfound]
  · simp only [List.findSome?_cons, hnone 0 _ (by decide) rfl, hnone 1 _ (by decide) rfl, hfound]
  · simp only [List.findSome?_cons, hnone 0 _ (by decide) rfl, hnone 1 _ (by decide) rfl, hnone 2 _ (by decide) rfl, hfound]

/-- A slot that is not empty is not filled again. -/
theorem Plant.refillSlot_of_some (h : (p.station i).slot = some o) : p.refillSlot i = p := by
  simp only [Plant.refillSlot, h]

/-- The stations after a matching echo that brings no grant. -/
theorem State.takeEcho_stations (hp : s.plant.sound) (hslot : (s.station i).slot = some o) (hchannel : o.channel.val = e.channel)
    (hkind : o.kind = e.kind) (hat : s.plant.loadAt? i o.channel = some l)
    (h : e.refused = false ∨ l.isWaking = false ∨ (s.plant.feeder l.cfg.feeder).queue = []) :
    (∀ j, j ≠ i → (s.takeEcho i e).station j = s.station j) ∧
      ((∀ c x, c ≠ o.channel → s.plant.loadAt? i c = some x → x.due = none) →
        (s.takeEcho i e).station i = { s.station i with slot := none }) ∧
      ∀ (turn : Nat) (c : Channel) (x : Load) (k : OrderKind), turn ≤ 3 →
        c.val = ((s.station i).lastServed.val + 1 + turn) % 4 → c ≠ o.channel → s.plant.loadAt? i c = some x →
        x.due = some k →
        (∀ (earlier : Nat) (d : Channel) (y : Load), earlier < turn →
          d.val = ((s.station i).lastServed.val + 1 + earlier) % 4 →
          d ≠ o.channel → s.plant.loadAt? i d = some y → y.due = none) →
        (s.takeEcho i e).station i = { s.station i with slot := some { channel := c, kind := k }, lastServed := c } := by
  obtain ⟨hmem, hstation, hown⟩ := Plant.loadAt?_some hat
  have hl := Plant.load?_of_mem hp.numbered hmem
  obtain ⟨hstations, hloads⟩ := State.echoed_settled (i := i) (k := e.kind) hp hl h
  obtain ⟨hself, hothers⟩ := State.echoed_station i l.num s
  obtain ⟨-, hcfg, hdue⟩ := l.afterEcho_keeps e.kind e.refused
  rw [State.takeEcho_matching hslot hchannel hkind hat]
  generalize hq : (s.echoed i l.num).passEcho l.num e.kind e.refused = q at hstations hloads ⊢
  have hwaiting (c : Channel) : q.plant.waitingOrder i c = if c = o.channel then none else s.plant.waitingOrder i c := by
    rw [Plant.waitingOrder_ended hp.numbered hl hcfg hdue hloads]
    by_cases hc : c = o.channel
    · subst hc
      rw [if_pos ⟨hstation, hown, hat⟩, if_pos rfl]
    · rw [if_neg fun hand => hc (hand.2.1.symm.trans hown), if_neg hc]
  have hnone (c : Channel) (hdue : ∀ x, c ≠ o.channel → s.plant.loadAt? i c = some x → x.due = none) :
      q.plant.waitingOrder i c = none := by
    rw [hwaiting]
    split
    · rfl
    · next hc =>
      rw [Plant.waitingOrder]
      cases hx : s.plant.loadAt? i c with
      | none => rfl
      | some x => rw [Option.bind_some, hdue x hc hx, Option.map_none]
  have hempty : q.plant.station i = { s.station i with slot := none } := (hstations i).trans hself
  refine ⟨fun j hj => ?_, fun hall => ?_, fun turn c x k hturn hc hne hx hk hearlier => ?_⟩
  · rw [State.station, State.onPlant_plant, Plant.refillSlot_station_other hj]
    exact (hstations j).trans (hothers j hj)
  · rw [State.station, State.onPlant_plant, Plant.refillSlot_of_none fun c => hnone c (hall c)]
    exact hempty
  · have hfound : q.plant.waitingOrder i c = some { channel := c, kind := k } := by
      rw [hwaiting, if_neg hne, Plant.waitingOrder, hx, Option.bind_some, hk, Option.map_some]
    have hlast : (q.plant.station i).lastServed = (s.station i).lastServed := by rw [hempty]
    have hturns : (turns (q.plant.station i).lastServed).findSome? (q.plant.waitingOrder i) =
        some { channel := c, kind := k } := by
      rw [hlast]
      exact findSome?_turns hturn hc hfound fun earlier d hlt hd => hnone d fun y hne hy => hearlier earlier d y hlt hd hne hy
    rw [State.station, State.onPlant_plant, Plant.refillSlot_of_waiting (congrArg Station.slot hempty) hturns,
      Plant.station_setStation_self, hempty]

/-- REFUSED returns the units of a WAKING load; the grant that they make possible takes the empty slot (R22, R88,
log entry 20). -/
theorem State.takeEcho_granted {first : QueueEntry} {rest : List QueueEntry} (hp : s.plant.sound)
    (hslot : (s.station i).slot = some o) (hchannel : o.channel.val = e.channel) (hkind : o.kind = e.kind)
    (hat : s.plant.loadAt? i o.channel = some l) (hrefused : e.refused = true) (hwaking : l.isWaking = true)
    (htimer : (s.plant.feeder l.cfg.feeder).spacingTimer = none) (hspacing : 0 < (s.plant.feeder l.cfg.feeder).spacing)
    (hqueue : (s.plant.feeder l.cfg.feeder).queue = first :: rest) (hx : s.load? first.load = some x)
    (hstation : x.cfg.station = i) (hlive : (s.station i).link = .live) (hlock : x.hold.byLockout = false)
    (hfan : x.awaitingFan = false) (hoff : x.cfg.kind = .compressor → minimumOffElapsed s.calendar.clock x = true)
    (hfits : x.cfg.demand ≤ (s.plant.feeder l.cfg.feeder).free + l.cfg.demand) :
    (s.takeEcho i e).load? first.load = some x.granted ∧
      (s.takeEcho i e).station i = { s.station i with
        slot := some { channel := x.cfg.channel, kind := .motorOn }, lastServed := x.cfg.channel } := by
  obtain ⟨hmem, -, -⟩ := Plant.loadAt?_some hat
  have hl : s.load? l.num = some l := Plant.load?_of_mem hp.numbered hmem
  obtain ⟨w, hstate⟩ := Load.isWaking_iff.mp hwaking
  have hself := State.echoed_load? hl i
  have hsound := State.echoed_sound hp i l.num
  have hne : first.load ≠ l.num := by
    intro heq
    have hin : first.load ∈ s.plant.queueOf l.cfg.feeder := by
      rw [Plant.queueOf, hqueue]
      exact List.mem_cons_self
    exact hp.not_mem_queueOf hl (by rw [hstate]; exact LoadState.noConfusion) _ (heq ▸ hin)
  have hfaults : (s.echoed i l.num).passEcho l.num e.kind e.refused = (s.echoed i l.num).enterFaulted l.num := by
    simp only [State.passEcho, hself, hrefused]
    rw [show l.undue.state = .waking w from hstate]
    rfl
  obtain ⟨hempty, -⟩ := State.echoed_station i l.num s
  generalize hq : ((s.echoed i l.num).plant.setLoad l.num Load.failing).giveBack l.undue = q
  have hplant : ((s.echoed i l.num).enterFaulted l.num).plant = q.grantAttempt s.calendar.clock l.cfg.feeder := by
    rw [State.enterFaulted_waking hself hwaking, Plant.finish_failing hself rfl, hq]
    rfl
  have hfeeder : q.feeder l.cfg.feeder =
      { s.plant.feeder l.cfg.feeder with free := (s.plant.feeder l.cfg.feeder).free + l.cfg.demand } := by
    rw [← hq, Plant.feeder_giveBack, if_pos (show l.undue.cfg.feeder = l.cfg.feeder from rfl)]
    rfl
  have hstationq : q.station i = { s.station i with slot := none } := by
    rw [← hq]
    exact hempty
  have hxq : q.load? first.load = some x := by
    rw [← hq]
    exact (Plant.load?_set_other (f := Load.failing) hne).trans ((State.echoed_other hne i s).trans hx)
  have hnumbered : q.numbered := by
    rw [← hq]
    exact Plant.numbered_congr (Plant.setLoad_nums l.num Load.failing _) hsound.numbered
  have heligible : q.eligible s.calendar.clock first = true :=
    Plant.eligible_of hxq (by rw [hstation, hstationq]; exact hlive) hlock hfan hoff
  have hgrant : q.grantAttempt s.calendar.clock l.cfg.feeder = q.grantTo l.cfg.feeder first.load rest :=
    Plant.grantAttempt_oldest hxq (by rw [hfeeder]; exact hqueue) (by rw [hfeeder]; exact htimer)
      (by rw [hfeeder]; exact hspacing) heligible (by rw [hfeeder]; exact hfits)
  have hfilled := Plant.grantTo_station hxq hlock (by rw [hstation, hstationq]) l.cfg.feeder rest
  rw [hstation, hstationq] at hfilled
  have htaken : (s.takeEcho i e).plant = q.grantTo l.cfg.feeder first.load rest := by
    rw [State.takeEcho_matching hslot hchannel hkind hat, State.onPlant_plant, hfaults, hplant, hgrant]
    exact Plant.refillSlot_of_some (congrArg Station.slot hfilled)
  simp only [State.load?, State.station, htaken]
  exact ⟨(Plant.load?_grantTo hnumbered hxq hlock).1, hfilled⟩

/-! ## The obligation -/

theorem Load.parkedNow_underReport (curves : Vector Knots 8) (now : Option Stamp) (r : Report) (l : Load) :
    (l.underReport curves now r).parkedNow now = { l.underReport curves now r with
      state := .parked, timer := none, due := none, parkOwned := true, manual := false,
      stopTime := if l.cfg.kind = .compressor then now else l.stopTime } := by
  rw [Load.underReport_eq, Load.keepFlags_eq]
  unfold Load.seen
  cases r.sample <;> rfl

/-- An echo for its load's due order, or for none. -/
theorem State.takeEcho_clause (s : State) (i : StationId) (e : Echo) :
    ((∀ o, (s.station i).slot = some o → ¬(o.channel.val = e.channel ∧ o.kind = e.kind)) → s.takeEcho i e = s) ∧
    ∀ (o : Order) (l : Load), s.plant.sound → (s.station i).slot = some o → o.channel.val = e.channel → o.kind = e.kind →
      s.plant.loadAt? i o.channel = some l →
      (s.takeEcho i e).load? l.num = some (l.afterEcho e.kind e.refused) ∧
      ∀ m x, m ≠ l.num → s.load? m = some x → x.state ≠ .wakeQueued → (s.takeEcho i e).load? m = some x := by
  refine ⟨State.takeEcho_ignored, fun o l hp hslot hchannel hkind hat => ?_⟩
  have hl : s.load? l.num = some l := Plant.load?_of_mem hp.numbered (Plant.loadAt?_some hat).1
  obtain ⟨hself, hothers⟩ := State.echoed_loads hp hl i e.kind e.refused
  have hloads (m : Nat) : (s.takeEcho i e).load? m = ((s.echoed i l.num).passEcho l.num e.kind e.refused).load? m := by
    rw [State.takeEcho_matching hslot hchannel hkind hat]
    exact Plant.load?_of_loads (Plant.refillSlot_loads i _) m
  exact ⟨(hloads _).trans hself, fun m x hm hx hq => (hloads m).trans (hothers m x hm hx hq)⟩

/-- Settles O28: echoes, reports in PARKING and WAKING, and edges, each by the step of the model that takes it. -/
theorem echoesActOnTheirLoad : Obligations.EchoesActOnTheirLoad := by
  refine ⟨fun s i e => ⟨(State.takeEcho_clause s i e).1, fun o l hp hslot hchannel hkind hat => ?_⟩,
    fun s n l r how step hp hl hstate => ?_, fun s n l r how w hp hl hstate hrun => ?_,
    fun s n l r lastCall lastLockout hp hl => ?_⟩
  · obtain ⟨hself, hothers⟩ := (State.takeEcho_clause s i e).2 o l hp hslot hchannel hkind hat
    exact ⟨hself, hothers, fun h => State.takeEcho_stations hp hslot hchannel hkind hat h,
      fun hrefused hwaking htimer hspacing q rest x hqueue hx hstation hlive hlock hfan hoff hfits =>
        State.takeEcho_granted hp hslot hchannel hkind hat hrefused hwaking htimer hspacing hqueue hx hstation hlive hlock
          hfan hoff hfits⟩
  · have hrests : l.rests := Load.rests_of_parking (Load.isParking_iff.mpr ⟨step, hstate⟩)
    have hself := State.heldBy_load? hl r
    have hreport : (s.heldBy n r).applyRunState n how r = (s.heldBy n r).parkingReport n step r :=
      State.applyRunState_parking hself hstate
    have hruns (hrun : r.run ≠ .stopped) := RunState.isRunning_iff.mpr hrun
    refine ⟨(State.works_takeReport n how r.call r.lockout r s).beyond, fun hrun hstep hslow => ?_,
      fun hrun hstep hun => ?_, fun hrun hstep hun => ?_, fun hrun hcoast htaken hdwell => ?_, fun hrun => ?_⟩
    · subst hstep
      have hbegin : (s.heldBy n r).applyRunState n how r = (s.heldBy n r).beginStep n .stopping := by
        simp only [hreport, State.parkingReport, hruns hrun, hslow, if_true]
      exact State.takeReport_beginStep hp hl hrests hbegin
    · subst hstep
      refine State.takeReport_dwell hp hl hrests ?_
      simp only [hreport, State.parkingReport, hruns hrun, hun, if_true]
    · subst hstep
      refine State.takeReport_reload hp hl hrests ?_
      simp only [hreport, State.parkingReport, hruns hrun, hun, if_true, Bool.false_eq_true, if_false]
    · have hstill := hreport.trans (State.parkingReport_still hrun hcoast htaken hdwell _)
      have hnot := Load.isAssessed_parking hstate
      rw [State.takeReport_still hp hl hstill (fun h => Bool.false_ne_true (hnot.symm.trans h.2)), Load.assessed_resting hnot]
    · have hparks : (s.heldBy n r).applyRunState n how r = (s.heldBy n r).enterParked n := by
        rw [hreport]
        unfold State.parkingReport
        exact if_neg (by rw [hrun]; exact RunState.not_isRunning)
      refine ⟨?_, fun hwake => ?_, fun hwake => State.takeReport_parksThenWakes hp hl hrests hwake hparks⟩
      · rw [State.takeReport_plain, hparks, State.onPlantNow_alerts,
          State.enterParked_alerts (State.heldBy_sound hp n r) hself hrests]
        exact State.heldBy_alerts hl r .parked
      · obtain ⟨hload, hrest, hfeeders⟩ := State.takeReport_parks hp hl hrests hwake hparks
        exact ⟨hload.trans (congrArg some (l.parkedNow_underReport s.plant.curves s.now r)), hrest, hfeeders⟩
  · obtain ⟨hself, halerts, hothers⟩ := State.takeReport_woken (how := how) hp hl hstate hrun
    exact ⟨hself, (State.works_takeReport n how r.call r.lockout r s).beyond, halerts, hothers, fun hqueue hplain =>
      State.takeReport_woken_plain hp hl hstate hrun hqueue fun hfan =>
        hplain.elim (fun hkind => hkind hfan.1) fun hzone => hfan.2 hzone⟩
  · have hheld := State.heldBy_eq hp.numbered hl r
    refine ⟨fun hcall hlock => ?_, fun hcall hr hlock => ?_, fun hcall hr hlock => ?_, fun hlock hr hcall => ?_,
      fun hlock hr hcall => ?_⟩
    · subst hcall hlock
      rw [State.applyHolds_eq, State.callEdge_same, State.lockoutEdge_same]
      exact hheld
    · subst hcall hlock
      obtain ⟨halerts, -, hparked⟩ := State.applyHolds_callOn hp hl hr
      obtain ⟨hmarked, hleft⟩ := State.applyHolds_callOn_plant hp hl hr
      exact ⟨halerts, (State.works_applyHolds n false r.lockout r s).beyond, hparked, hmarked, hleft⟩
    · subst hcall hlock
      rw [State.applyHolds_eq, State.callEdge_falling hr, State.lockoutEdge_same]
      exact congrArg (fun u : State => u.raiseLoad n .callOff) hheld
    · subst hcall hlock
      obtain ⟨habandons, hwithdraws⟩ := State.applyHolds_lockoutOn hp hl hr
      refine ⟨(State.works_applyHolds n r.call false r s).beyond, fun hparking => ?_, fun hparking => ?_⟩
      · obtain ⟨hload, hrest⟩ := habandons (Load.isParking_iff.mpr hparking)
        exact ⟨hload.trans (congrArg some (Load.lockedOut_eq r _)), hrest⟩
      · refine hwithdraws (Bool.eq_false_iff.mpr fun h => ?_)
        obtain ⟨step, hstate⟩ := Load.isParking_iff.mp h
        exact hparking step hstate
    · subst hcall hlock
      exact State.applyHolds_lockoutOff hp hl hr

end

end Sys2Proof.Machine
end

section
/-!
PROOFS. A valid reply (R108): what its steps make of the station records, of the round flags and of the notices.
-/

namespace Sys2Proof.Machine

section

variable {s t u : State} {i j : StationId} {c : Channel} {r : Report} {v : Visit} {g h : Station → Station} {st : Station}
  {cs : List Channel} {rs : List Report} {mark : RestartMark}

/-! ## Station records through the steps -/

/-- But for order slots and last-served channels, one station's record has become what a function makes of it, and the
others are as before. -/
structure State.Records (i : StationId) (g : Station → Station) (s t : State) : Prop where
  own : (t.station i).core = g (s.station i).core
  others : ∀ j, j ≠ i → (t.station j).core = (s.station j).core

theorem State.Records.trans (a : State.Records i g s t) (b : State.Records i h t u) : State.Records i (fun st => h (g st)) s u :=
  ⟨by rw [b.own, a.own], fun j hj => (b.others j hj).trans (a.others j hj)⟩

theorem State.Works.records (a : s.Works t) (i : StationId) : State.Records i id s t :=
  ⟨a.plant.stations i, fun j _ => a.plant.stations j⟩

theorem State.Records.refl (i : StationId) (s : State) : State.Records i id s s := ⟨rfl, fun _ _ => rfl⟩

/-- A function of a station's record that neither reads nor changes order slot and last-served channel. -/
abbrev Station.BesideSlot (g : Station → Station) : Prop := ∀ st : Station, (g st).core = g st.core

theorem State.records_setStation (hg : Station.BesideSlot g) (i : StationId) (s : State) :
    State.Records i g s (s.setStation i g) := by
  refine ⟨?_, fun j hj => ?_⟩
  · rw [State.station, State.setStation_plant, Plant.station_setStation_self]
    exact hg _
  · rw [State.station, State.setStation_plant, Plant.station_setStation_other _ hj]
    rfl

/-! ## Steps 1 to 4 (R108, R113, R115, R117, R118) -/

theorem State.records_heard (i : StationId) (s : State) : State.Records i Station.heardNow s (s.heard i) :=
  (State.records_setStation (g := Station.heardNow) (fun _ => rfl) i s).trans ((State.works_heard i s).records i)

theorem Station.store_besideSlot (results : Results) : Station.BesideSlot (Station.store results) := by
  intro st
  cases results <;> rfl

theorem Station.afterInquiry_besideSlot : Station.BesideSlot Station.afterInquiry := by
  intro st
  rw [Station.afterInquiry]
  change _ = if st.round then (if st.once ∧ st.inquiry = .faults then _ else _) else (if st.once then _ else _)
  split_ifs <;> rfl

theorem Station.afterRoutine_besideSlot : Station.BesideSlot Station.afterRoutine := by
  intro st
  rw [Station.afterRoutine]
  change _ = if st.round ∧ st.inquiry = .routine then _ else _
  split_ifs <;> rfl

/-- The station's record after step 3 of a reply (R114, R115). -/
def Station.answered (v : Visit) (results : Results) (st : Station) : Station :=
  if v.kind = .routine then
    if v.inquiryReplaced then st else st.afterRoutine
  else if v.inquiryReplaced then st.store results else (st.store results).afterInquiry

theorem State.records_takeResults (v : Visit) (results : Results) (s : State) :
    State.Records v.station (Station.answered v results) s (s.takeResults v results) := by
  have hstored : State.Records v.station (Station.store results) s
      ((s.setStation v.station (Station.store results)).raiseStation v.station .inquiryDone) :=
    (State.records_setStation (Station.store_besideSlot results) v.station s).trans
      ((State.works_raiseStation v.station .inquiryDone _).records v.station)
  by_cases hkind : v.kind = .routine
  · by_cases hreplaced : v.inquiryReplaced = true
    · have hg : Station.answered v results = id := funext fun st => by rw [Station.answered, if_pos hkind, if_pos hreplaced]; rfl
      rw [State.takeResults, if_pos hkind, if_pos hreplaced, hg]
      exact .refl _ _
    · have hg : Station.answered v results = Station.afterRoutine :=
        funext fun st => by rw [Station.answered, if_pos hkind, if_neg hreplaced]
      rw [State.takeResults, if_pos hkind, if_neg hreplaced, hg]
      exact State.records_setStation Station.afterRoutine_besideSlot _ _
  · by_cases hreplaced : v.inquiryReplaced = true
    · have hg : Station.answered v results = Station.store results :=
        funext fun st => by rw [Station.answered, if_neg hkind, if_pos hreplaced]
      simp only [State.takeResults, if_neg hkind, if_pos hreplaced, hg]
      exact hstored
    · have hg : Station.answered v results = fun st => (st.store results).afterInquiry :=
        funext fun st => by rw [Station.answered, if_neg hkind, if_neg hreplaced]
      simp only [State.takeResults, if_neg hkind, if_neg hreplaced, hg]
      exact hstored.trans (State.records_setStation Station.afterInquiry_besideSlot _ _)

theorem State.records_resultsTaken (v : Visit) (reply : Reply) (s : State) :
    State.Records v.station (fun st => st.heardNow.answered v reply.results) s (s.resultsTaken v reply) := by
  have hheard := State.records_heard v.station s
  unfold State.resultsTaken
  split
  · exact hheard.trans (State.records_takeResults v reply.results _)
  · exact (hheard.trans ((State.works_takeEcho v.station _ _).records v.station)).trans
      (State.records_takeResults v reply.results _)

theorem State.resultsTaken_sweep (v : Visit) (reply : Reply) (s : State) : (s.resultsTaken v reply).sweep = s.sweep := by
  have hresults (s : State) : (s.takeResults v reply.results).sweep = s.sweep := by
    unfold State.takeResults
    split
    · split <;> rfl
    · dsimp only
      split
      · exact State.raiseStation_sweep _ _ _
      · exact State.raiseStation_sweep _ _ _
  have hheard : (s.heard v.station).sweep = s.sweep := (State.works_heard v.station s).beyond.2.1
  unfold State.resultsTaken
  rw [hresults]
  split
  · exact hheard
  · exact (State.works_takeEcho v.station _ _).beyond.2.1.trans hheard

/-- The restart flag of a reply is what restart-noted becomes. -/
theorem State.records_judgeRestart (i : StationId) (flag : Bool) (s : State) :
    State.Records i (fun st => { st with restartNoted := flag }) s (s.judgeRestart i flag) := by
  cases flag with
  | false => exact State.records_setStation (g := fun st => { st with restartNoted := false }) (fun _ => rfl) i s
  | true =>
    cases hnoted : (s.station i).restartNoted with
    | false =>
      rw [State.judgeRestart_restarts rfl hnoted, State.restartStation_eq]
      exact (((State.works_marked i s).records i).trans (State.records_setStation
        (g := fun st => { st with restartNoted := true }) (fun _ => rfl) i _)).trans
        ((State.works_raiseStation i .restarted _).records i)
    | true =>
      have hsame : s.judgeRestart i true = s := by
        rw [State.judgeRestart, if_neg (by simp [State.actsOnRestart, hnoted]), if_pos rfl]
      rw [hsame]
      refine ⟨?_, fun _ _ => rfl⟩
      rw [show (s.station i).core = { (s.station i).core with restartNoted := (s.station i).restartNoted } from rfl, hnoted]

theorem State.judgeRestart_sweep (i : StationId) (flag : Bool) (s : State) : (s.judgeRestart i flag).sweep = s.sweep := by
  unfold State.judgeRestart
  split
  · exact (State.restartStation_beyond i s).2.1
  · split <;> rfl

/-! ## Step 5: the channel reports (R116, R132) -/

theorem State.records_noteReport (i : StationId) (c : Channel) (r : Report) (s : State) :
    State.Records i (Station.reported c r) s (s.noteReport i c r) := by
  have hkept := State.records_setStation (g := Station.reported c r) (fun _ => rfl) i s
  unfold State.noteReport
  split
  · exact ⟨hkept.own, hkept.others⟩
  · exact hkept

theorem State.records_takeChannel (i : StationId) (mark : RestartMark) (c : Channel) (r : Report) (s : State) :
    State.Records i (Station.reported c r) s (s.takeChannel i mark c r) := by
  rw [State.takeChannel_eq]
  split
  · exact s.records_noteReport i c r
  · exact (s.records_noteReport i c r).trans ((State.works_takeReport _ _ _ _ _ _).records i)

theorem State.takeChannel_newCall (i : StationId) (mark : RestartMark) (c : Channel) (r : Report) (s : State) :
    (s.takeChannel i mark c r).sweep.flags.newCall = true ↔
      s.sweep.flags.newCall = true ∨ (r.call = true ∧ (s.station i).lastCall[c] = false) := by
  have hnoted : (s.noteReport i c r).sweep.flags.newCall = true ↔
      s.sweep.flags.newCall = true ∨ (r.call = true ∧ (s.station i).lastCall[c] = false) := by
    unfold State.noteReport
    split
    · next h =>
      have hrises : r.call = true ∧ (s.station i).lastCall[c] = false := by simpa using h
      exact iff_of_true rfl (.inr hrises)
    · next h =>
      refine ⟨.inl, fun hor => hor.elim id fun hrises => absurd ?_ h⟩
      simp [hrises]
  rw [State.takeChannel_eq]
  split
  · exact hnoted
  · rw [(State.works_takeReport _ _ _ _ _ _).beyond.2.1]
    exact hnoted

/-- The record of a station whose reports have been noted, channel by channel (R116). -/
def Station.noteAll : List Channel → List Report → Station → Station
  | c :: cs, r :: rs, st => Station.noteAll cs rs (if c.val < st.fitted then st.reported c r else st)
  | _, _, st => st

theorem Station.noteAll_cons (c : Channel) (r : Report) (cs : List Channel) (rs : List Report) (st : Station) :
    Station.noteAll (c :: cs) (r :: rs) st = Station.noteAll cs rs (if c.val < st.fitted then st.reported c r else st) := rfl

theorem Station.noteAll_kept (cs : List Channel) (rs : List Report) (st : Station) :
    Station.noteAll cs rs st = { st with lastCall := (Station.noteAll cs rs st).lastCall,
                                         lastLockout := (Station.noteAll cs rs st).lastLockout } := by
  induction cs generalizing rs st with
  | nil => rfl
  | cons c cs ih =>
    cases rs with
    | nil => rfl
    | cons r rs =>
      rw [Station.noteAll_cons, ih]
      split <;> rfl

theorem State.records_takeChannels (i : StationId) (mark : RestartMark) (cs : List Channel) (rs : List Report) (s : State) :
    State.Records i (Station.noteAll cs rs) s (s.takeChannels i mark cs rs) := by
  induction cs generalizing rs s with
  | nil => exact .refl i s
  | cons c cs ih =>
    cases rs with
    | nil => exact .refl i s
    | cons r rs =>
      have hfitted : (s.station i).core.fitted = (s.station i).fitted := rfl
      rw [State.takeChannels]
      split
      · next h =>
        have hall := (s.records_takeChannel i mark c r).trans (ih rs _)
        refine ⟨?_, hall.others⟩
        rw [hall.own, Station.noteAll_cons, if_pos (hfitted ▸ h)]
      · next h =>
        have hall := ih rs s
        refine ⟨?_, hall.others⟩
        rw [hall.own, Station.noteAll_cons, if_neg (hfitted ▸ h)]

end

end Sys2Proof.Machine
end

section
/-!
PROOFS. A valid reply: last values, NEW_CALL, results, notices, and the obligation (R108, R115, R116, R132).
-/

namespace Sys2Proof.Machine

section

variable {s t : State} {i j : StationId} {c d : Channel} {r : Report} {v : Visit} {st : Station} {cs : List Channel}
  {rs : List Report} {k : Nat}

/-! ## Last call and last lockout (R116) -/

/-- The last call and the last lockout of a channel. -/
def Station.lastValues (c : Channel) (st : Station) : Bool × Bool := (st.lastCall[c], st.lastLockout[c])

theorem Station.lastValues_reported_self (c : Channel) (r : Report) (st : Station) :
    (st.reported c r).lastValues c = (r.call, r.lockout) := by
  simp [Station.lastValues, Station.reported]

theorem Station.lastValues_reported_other (h : c ≠ d) (r : Report) (st : Station) :
    (st.reported d r).lastValues c = st.lastValues c := by
  have hval : d.val ≠ c.val := fun hval => h (Fin.ext hval.symm)
  simp [Station.lastValues, Station.reported, Vector.getElem_set_ne, hval]

theorem Station.lastValues_if {p : Prop} [Decidable p] (h : c ≠ d) (r : Report) (st : Station) :
    (if p then st.reported d r else st).lastValues c = st.lastValues c := by
  split
  · exact Station.lastValues_reported_other h r st
  · rfl

theorem Station.fitted_if {p : Prop} [Decidable p] (d : Channel) (r : Report) (st : Station) :
    (if p then st.reported d r else st).fitted = st.fitted := by
  split <;> rfl

theorem Station.noteAll_not_mem (h : c ∉ cs) (rs : List Report) (st : Station) :
    (Station.noteAll cs rs st).lastValues c = st.lastValues c := by
  induction cs generalizing rs st with
  | nil => rfl
  | cons d cs ih =>
    obtain ⟨hd, hcs⟩ := not_or.mp (mt List.mem_cons.mpr h)
    cases rs with
    | nil => rfl
    | cons r rs => rw [Station.noteAll_cons, ih hcs, Station.lastValues_if hd]

/-- A channel without a report keeps its values. -/
theorem Station.noteAll_none (hcs : cs.Nodup) (hk : cs[k]? = some c) (hr : rs[k]? = none) (st : Station) :
    (Station.noteAll cs rs st).lastValues c = st.lastValues c := by
  induction cs generalizing rs st k with
  | nil => rfl
  | cons d cs ih =>
    obtain ⟨hd, hcs⟩ := List.nodup_cons.mp hcs
    cases rs with
    | nil => rfl
    | cons r rs =>
      cases k with
      | zero => exact absurd hr (Option.some_ne_none r)
      | succ k =>
        have hmem : c ∈ cs := List.mem_of_getElem? hk
        rw [Station.noteAll_cons, ih hcs hk hr, Station.lastValues_if (ne_of_mem_of_not_mem hmem hd)]

/-- A channel with a report takes its values, if it is fitted. -/
theorem Station.noteAll_some (hcs : cs.Nodup) (hk : cs[k]? = some c) (hr : rs[k]? = some r) (st : Station) :
    (Station.noteAll cs rs st).lastValues c = if c.val < st.fitted then (r.call, r.lockout) else st.lastValues c := by
  induction cs generalizing rs st k with
  | nil => exact absurd hk nofun
  | cons d cs ih =>
    obtain ⟨hd, hcs⟩ := List.nodup_cons.mp hcs
    cases rs with
    | nil => exact absurd hr nofun
    | cons x rs =>
      rw [Station.noteAll_cons]
      cases k with
      | zero =>
        obtain rfl : d = c := Option.some.inj hk
        obtain rfl : x = r := Option.some.inj hr
        rw [Station.noteAll_not_mem hd]
        split
        · exact Station.lastValues_reported_self d x st
        · rfl
      | succ k =>
        have hmem : c ∈ cs := List.mem_of_getElem? hk
        rw [ih hcs hk hr, Station.fitted_if, Station.lastValues_if (ne_of_mem_of_not_mem hmem hd)]

theorem channelIds_getElem?_iff : channelIds[k]? = some c ↔ k = c.val := by
  constructor
  · intro h
    obtain ⟨hk, hc⟩ := List.getElem?_eq_some_iff.mp h
    change k < 4 at hk
    interval_cases k <;> subst hc <;> rfl
  · rintro rfl
    revert c
    decide

theorem channelIds_nodup : channelIds.Nodup := by decide

/-! ## NEW_CALL (R132) -/

/-- A call that was off rises in one of the reports. -/
abbrev Station.newCallIn (cs : List Channel) (rs : List Report) (st : Station) : Prop :=
  ∃ (k : Nat) (c : Channel) (r : Report), cs[k]? = some c ∧ rs[k]? = some r ∧ c.val < st.fitted ∧ r.call = true ∧
    st.lastCall[c] = false

theorem Station.newCallIn_cons (d : Channel) (cs : List Channel) (x : Report) (rs : List Report) (st : Station) :
    Station.newCallIn (d :: cs) (x :: rs) st ↔
      (d.val < st.fitted ∧ x.call = true ∧ st.lastCall[d] = false) ∨ Station.newCallIn cs rs st := by
  constructor
  · rintro ⟨k, c, r, hk, hr, hrest⟩
    cases k with
    | zero =>
      obtain rfl : d = c := Option.some.inj hk
      obtain rfl : x = r := Option.some.inj hr
      exact .inl hrest
    | succ k => exact .inr ⟨k, c, r, hk, hr, hrest⟩
  · rintro (h | ⟨k, c, r, hk, hr, hrest⟩)
    · exact ⟨0, d, x, rfl, rfl, h⟩
    · exact ⟨k + 1, c, r, hk, hr, hrest⟩

theorem Station.newCallIn_congr {a b : Station} (hfitted : b.fitted = a.fitted)
    (hlast : ∀ c ∈ cs, b.lastCall[c] = a.lastCall[c]) (rs : List Report) :
    Station.newCallIn cs rs b ↔ Station.newCallIn cs rs a := by
  refine exists_congr fun k => exists_congr fun c => exists_congr fun r => and_congr_right fun hk => ?_
  rw [hfitted, hlast c (List.mem_of_getElem? hk)]

theorem State.takeChannels_newCall (hcs : cs.Nodup) (i : StationId) (mark : RestartMark) (rs : List Report) (s : State) :
    (s.takeChannels i mark cs rs).sweep.flags.newCall = true ↔
      s.sweep.flags.newCall = true ∨ Station.newCallIn cs rs (s.station i) := by
  induction cs generalizing rs s with
  | nil => exact (or_iff_left fun ⟨_, _, _, hk, _⟩ => absurd hk nofun).symm
  | cons d cs ih =>
    obtain ⟨hd, hcs⟩ := List.nodup_cons.mp hcs
    cases rs with
    | nil => exact (or_iff_left fun ⟨_, _, _, _, hr, _⟩ => absurd hr nofun).symm
    | cons x rs =>
      rw [State.takeChannels, ih hcs, Station.newCallIn_cons]
      split
      · next hfits =>
        have hown := (s.records_takeChannel i mark d x).own
        have hfitted : ((s.takeChannel i mark d x).station i).fitted = (s.station i).fitted := by
          have hcore := congrArg Station.fitted hown
          exact hcore
        have hlast (c : Channel) (hc : c ∈ cs) :
            ((s.takeChannel i mark d x).station i).lastCall[c] = (s.station i).lastCall[c] := by
          have hcore := congrArg (Station.lastValues c) hown
          rw [Station.lastValues_reported_other (ne_of_mem_of_not_mem hc hd)] at hcore
          exact congrArg Prod.fst hcore
        rw [State.takeChannel_newCall, Station.newCallIn_congr hfitted hlast, or_assoc]
        simp only [hfits, true_and]
      · next hfits => simp only [hfits, false_and, false_or]

/-! ## Inquiries (R114, R115) -/

/-- A reply that passes its checks carries the results of the kind that was asked for. -/
theorem parseReply_results {frame : List Byte} {reply : Reply} (h : parseReply v frame = some reply) :
    reply.results = .routine ↔ v.kind = .routine := by
  have hkind (kind : InquiryKind) (count : Nat) (bytes : List Byte) :
      resultsOf kind count bytes = .routine ↔ kind = .routine := by
    cases kind <;> simp [resultsOf]
  unfold parseReply at h
  split at h
  · exact absurd h nofun
  · unfold replyOf at h
    dsimp only at h
    split at h
    · exact absurd h nofun
    · rw [Option.ite_none_right_eq_some] at h
      obtain ⟨-, h⟩ := h
      split at h
      · exact absurd h nofun
      · cases h
        exact hkind _ _ _

/-- What the results of a reply leave of a station's record. -/
theorem Station.answered_kept (v : Visit) (results : Results) (st : Station) : st.answered v results =
    { st with inquiry := (st.answered v results).inquiry, once := (st.answered v results).once,
              round := (st.answered v results).round, runHours := (st.answered v results).runHours,
              temperatures := (st.answered v results).temperatures, faultList := (st.answered v results).faultList,
              ident := (st.answered v results).ident } := by
  have hstore : st.store results = { st with
      runHours := (st.store results).runHours, temperatures := (st.store results).temperatures,
      faultList := (st.store results).faultList, ident := (st.store results).ident } := by cases results <;> rfl
  unfold Station.answered
  split
  · split
    · rfl
    · unfold Station.afterRoutine
      split <;> rfl
  · split
    · cases results <;> rfl
    · unfold Station.afterInquiry
      rw [hstore]
      split
      · split <;> rfl
      · split <;> rfl

/-- The results that a reply stores, and those that are kept (R115). -/
theorem Station.store_results (results : Results) (st : Station) :
    (st.store results).runHours = (match results with
        | .hours counts => some (counts.take st.fitted)
        | _ => st.runHours) ∧
      (st.store results).temperatures = (match results with
        | .temps degrees => some (degrees.take st.fitted)
        | _ => st.temperatures) ∧
      (st.store results).faultList = (match results with
        | .faults codes => some codes
        | _ => st.faultList) ∧
      (st.store results).ident = (match results with
        | .ident type level => some (type, level)
        | _ => st.ident) := by
  cases results <;> exact ⟨rfl, rfl, rfl, rfl⟩

/-- The results of the kind that was sent are stored, and the inquiry slot's advance changes none. -/
theorem Station.answered_results {results : Results} (h : results = .routine ↔ v.kind = .routine) (st : Station) :
    (st.answered v results).runHours = (st.store results).runHours ∧
      (st.answered v results).temperatures = (st.store results).temperatures ∧
      (st.answered v results).faultList = (st.store results).faultList ∧
      (st.answered v results).ident = (st.store results).ident := by
  by_cases hkind : v.kind = .routine
  · obtain rfl := h.mpr hkind
    rw [Station.answered, if_pos hkind]
    split
    · exact ⟨rfl, rfl, rfl, rfl⟩
    · unfold Station.afterRoutine
      split <;> exact ⟨rfl, rfl, rfl, rfl⟩
  · rw [Station.answered, if_neg hkind]
    split
    · exact ⟨rfl, rfl, rfl, rfl⟩
    · unfold Station.afterInquiry
      split
      · split <;> exact ⟨rfl, rfl, rfl, rfl⟩
      · split <;> exact ⟨rfl, rfl, rfl, rfl⟩

/-- The inquiry slot after a reply, by what was sent and whether it was replaced since (R114, R115). -/
theorem Station.answered_inquiry (v : Visit) (results : Results) (st : Station) :
    ((st.answered v results).inquiry, (st.answered v results).once, (st.answered v results).round) =
      (if v.inquiryReplaced = true then (st.inquiry, st.once, st.round)
      else if v.kind = .routine then
        (if st.round = true ∧ st.inquiry = .routine then .hours else st.inquiry, st.once, st.round)
      else if st.round = true then
        match st.inquiry with
        | .hours => (.temps, st.once, true)
        | .temps => (.faults, st.once, true)
        | .faults => (.routine, false, !st.once)
        | .routine => (.hours, st.once, true)
        | .ident => (.hours, st.once, true)
      else if st.once = true then (.routine, false, false)
      else (st.inquiry, false, false)) := by
  have hstore : (st.store results).inquiry = st.inquiry ∧ (st.store results).once = st.once ∧
      (st.store results).round = st.round := by cases results <;> exact ⟨rfl, rfl, rfl⟩
  obtain ⟨hinquiry, honce, hround⟩ := hstore
  unfold Station.answered
  by_cases hreplaced : v.inquiryReplaced = true
  · rw [if_pos hreplaced, if_pos hreplaced, if_pos hreplaced]
    split
    · rfl
    · rw [hinquiry, honce, hround]
  · rw [if_neg hreplaced, if_neg hreplaced, if_neg hreplaced]
    by_cases hkind : v.kind = .routine
    · rw [if_pos hkind, if_pos hkind, Station.afterRoutine]
      split
      · next hstart => rfl
      · next hstart => rfl
    · rw [if_neg hkind, if_neg hkind, Station.afterInquiry, hround, honce, hinquiry]
      cases hr : st.round with
      | true =>
        cases hi : st.inquiry with
        | faults => cases st.once <;> simp [InquiryKind.following]
        | _ => simp [InquiryKind.following]
      | false => cases ho : st.once <;> simp [hround, honce, hinquiry, hr, ho]

end

end Sys2Proof.Machine
end

section
/-!
PROOFS. The whole effect of a valid reply: the obligation (R108).
-/

namespace Sys2Proof.Machine

section

variable {s : State} {v : Visit} {reply : Reply} {frame : List Byte}

theorem exec_validReply (hs : s.inReset = false) (hline : s.sweep.line = .slot v)
    (hphase : v.phase = .listening ∨ v.phase = .receiving) (hparse : parseReply v frame = some reply) :
    exec (.fieldReplyReceived frame) s = .next ((s.setPhase v .over).validReply v reply).settlePins := by
  rw [exec_fieldReplyReceived, State.perform_out hs]
  simp [State.replyEnds, hline, Visit.listens_iff.mpr hphase, hparse]

/-! ## The station records -/

/-- The record of the visited station after a valid reply. -/
def Station.replied (v : Visit) (reply : Reply) (st : Station) : Station :=
  Station.noteAll channelIds reply.reports { st.heardNow.answered v reply.results with restartNoted := reply.restart }

theorem State.records_validReply (v : Visit) (reply : Reply) (s : State) :
    State.Records v.station (Station.replied v reply) s (s.validReply v reply) := by
  have htaken := (s.records_resultsTaken v reply).trans
    (State.records_judgeRestart v.station reply.restart (s.resultsTaken v reply))
  have hchannels := htaken.trans (State.records_takeChannels v.station
    ((s.resultsTaken v reply).restartMark v.station reply.restart) channelIds reply.reports _)
  rw [State.validReply_eq]
  exact hchannels.trans ((State.works_gateChecks v.station _).records v.station)

theorem Station.replied_fitted (v : Visit) (reply : Reply) (st : Station) :
    ({ st.heardNow.answered v reply.results with restartNoted := reply.restart } : Station).fitted = st.fitted := by
  rw [Station.answered_kept]
  rfl

/-- The last values of a channel, from the reply's report of it. -/
theorem Station.replied_lastValues (c : Channel) (v : Visit) (reply : Reply) (st : Station) :
    (st.replied v reply).lastValues c = match reply.reports[c.val]? with
      | some x => if c.val < st.fitted then (x.call, x.lockout) else st.lastValues c
      | none => st.lastValues c := by
  have hbefore : ({ st.heardNow.answered v reply.results with restartNoted := reply.restart } : Station).lastValues c =
      st.lastValues c := by
    rw [Station.answered_kept]
    rfl
  have hindex := channelIds_getElem?_iff (c := c) (k := c.val) |>.mpr rfl
  rw [Station.replied]
  cases hr : reply.reports[c.val]? with
  | none => rw [Station.noteAll_none channelIds_nodup hindex hr, hbefore]
  | some x => rw [Station.noteAll_some channelIds_nodup hindex hr, hbefore, Station.replied_fitted]

/-- Last call and last lockout of every channel after a valid reply (R116). -/
theorem State.validReply_lastValues (v : Visit) (reply : Reply) (s : State) :
    (∀ c : Channel, ((s.validReply v reply).station v.station).lastCall[c] =
      (match reply.reports[c.val]? with
        | some x => if c.val < (s.station v.station).fitted then x.call else (s.station v.station).lastCall[c]
        | none => (s.station v.station).lastCall[c])) ∧
    ∀ c : Channel, ((s.validReply v reply).station v.station).lastLockout[c] =
      (match reply.reports[c.val]? with
        | some x => if c.val < (s.station v.station).fitted then x.lockout else (s.station v.station).lastLockout[c]
        | none => (s.station v.station).lastLockout[c]) := by
  have hvalues (c : Channel) : ((s.validReply v reply).station v.station).lastValues c =
      ((s.station v.station).core.replied v reply).lastValues c := by
    have hown := congrArg (Station.lastValues c) (s.records_validReply v reply).own
    exact hown
  refine ⟨fun c => ?_, fun c => ?_⟩
  · refine (congrArg Prod.fst ((hvalues c).trans (Station.replied_lastValues c v reply _))).trans ?_
    cases reply.reports[c.val]? with
    | none => rfl
    | some x => exact apply_ite Prod.fst _ _ _
  · refine (congrArg Prod.snd ((hvalues c).trans (Station.replied_lastValues c v reply _))).trans ?_
    cases reply.reports[c.val]? with
    | none => rfl
    | some x => exact apply_ite Prod.snd _ _ _

/-- What a valid reply makes of the visited station's record beside slot and last values. -/
theorem Station.replied_fields (v : Visit) (reply : Reply) (st : Station) :
    (st.replied v reply).link = .live ∧ (st.replied v reply).misses = 0 ∧
      (st.replied v reply).restartNoted = reply.restart ∧
      (st.replied v reply).runHours = (st.heardNow.answered v reply.results).runHours ∧
      (st.replied v reply).temperatures = (st.heardNow.answered v reply.results).temperatures ∧
      (st.replied v reply).faultList = (st.heardNow.answered v reply.results).faultList ∧
      (st.replied v reply).ident = (st.heardNow.answered v reply.results).ident ∧
      (st.replied v reply).inquiry = (st.heardNow.answered v reply.results).inquiry ∧
      (st.replied v reply).once = (st.heardNow.answered v reply.results).once ∧
      (st.replied v reply).round = (st.heardNow.answered v reply.results).round := by
  have hlink : (st.heardNow.answered v reply.results).link = .live ∧ (st.heardNow.answered v reply.results).misses = 0 := by
    rw [Station.answered_kept]
    exact ⟨rfl, rfl⟩
  rw [Station.replied, Station.noteAll_kept]
  exact ⟨hlink.1, hlink.2, rfl, rfl, rfl, rfl, rfl, rfl, rfl, rfl⟩

/-! ## NEW_CALL (R132) -/

theorem State.validReply_newCall (v : Visit) (reply : Reply) (s : State) :
    (s.validReply v reply).sweep.flags.newCall = true ↔ s.sweep.flags.newCall = true ∨
      ∃ (c : Channel) (x : Report), reply.reports[c.val]? = some x ∧ c.val < (s.station v.station).fitted ∧
        x.call = true ∧ (s.station v.station).lastCall[c] = false := by
  have htaken := (s.records_resultsTaken v reply).trans
    (State.records_judgeRestart v.station reply.restart (s.resultsTaken v reply))
  have hkept (st : Station) : ({ st.heardNow.answered v reply.results with restartNoted := reply.restart } : Station).lastCall =
      st.lastCall := by
    rw [Station.answered_kept]
    rfl
  have hfitted : (((s.resultsTaken v reply).judgeRestart v.station reply.restart).station v.station).fitted =
      (s.station v.station).fitted := by
    have hcore := congrArg Station.fitted htaken.own
    exact hcore.trans (Station.replied_fitted v reply _)
  have hlast : (((s.resultsTaken v reply).judgeRestart v.station reply.restart).station v.station).lastCall =
      (s.station v.station).lastCall := by
    have hcore := congrArg Station.lastCall htaken.own
    exact hcore.trans (hkept _)
  rw [State.validReply_eq, (State.works_gateChecks v.station _).beyond.2.1, State.takeChannels_newCall channelIds_nodup,
    State.judgeRestart_sweep, State.resultsTaken_sweep]
  refine or_congr_right ⟨?_, ?_⟩
  · rintro ⟨k, c, x, hk, hx, hfits, hcall, hoff⟩
    obtain rfl := channelIds_getElem?_iff.mp hk
    exact ⟨c, x, hx, hfitted ▸ hfits, hcall, hlast ▸ hoff⟩
  · rintro ⟨c, x, hx, hfits, hcall, hoff⟩
    exact ⟨c.val, c, x, channelIds_getElem?_iff.mpr rfl, hx, hfitted.symm ▸ hfits, hcall, hlast.symm ▸ hoff⟩

/-! ## Notices (R108, R115, R117) -/

theorem State.validReply_after (v : Visit) (reply : Reply) (s : State) :
    ((s.resultsTaken v reply).judgeRestart v.station reply.restart).alerts.Evolves (s.validReply v reply).alerts := by
  rw [State.validReply_eq]
  exact (State.visits_takeChannels v.station _ channelIds reply.reports _).alerts.trans
    (State.works_gateChecks v.station _).alerts

/-- BACK is raised by a station that was LOST or UNHEARD. -/
theorem State.heard_back {i : StationId} (henabled : s.alerts.enabled = true) (hset : s.alerts.stationSet.getLsbD 1 = true)
    (hlink : (s.station i).link = .lost ∨ (s.station i).link = .unheard) : (s.heard i).alerts.shows (.station i) 1 := by
  have hraised : (((s.setStation i Station.heardNow).raiseBack (s.station i).link i).alerts).shows (.station i) 1 := by
    rw [State.raiseBack, if_pos hlink]
    exact State.raiseStation_shows (e := .back) henabled hset
  rw [State.heard_eq]
  exact ((State.works_releaseLost _ _).trans (State.works_grantLive _ _)).alerts.shows hraised

theorem State.resultsTaken_alerts (v : Visit) (reply : Reply) (s : State) :
    (s.heard v.station).alerts.Evolves (s.resultsTaken v reply).alerts := by
  unfold State.resultsTaken
  refine Alerts.Evolves.trans ?_ (State.visits_takeResults v reply.results _).alerts
  split
  · exact .rfl
  · exact (State.works_takeEcho v.station _ _).alerts

theorem State.takeResults_done (henabled : s.alerts.enabled = true) (hset : s.alerts.stationSet.getLsbD 3 = true)
    (hkind : v.kind ≠ .routine) (results : Results) : (s.takeResults v results).alerts.shows (.station v.station) 3 := by
  have hraised : ((s.setStation v.station (Station.store results)).raiseStation v.station .inquiryDone).alerts.shows
      (.station v.station) 3 := State.raiseStation_shows (e := .inquiryDone) henabled hset
  rw [State.takeResults, if_neg hkind]
  dsimp only
  split
  · exact hraised
  · exact hraised

/-- INQUIRY_DONE is raised after every inquiry visit. -/
theorem State.resultsTaken_done (henabled : s.alerts.enabled = true) (hset : s.alerts.stationSet.getLsbD 3 = true)
    (hkind : v.kind ≠ .routine) : (s.resultsTaken v reply).alerts.shows (.station v.station) 3 := by
  have hheard := (s.visits_heard v.station).alerts
  unfold State.resultsTaken
  split
  · exact State.takeResults_done (hheard.enabled.trans henabled) (by rw [hheard.stationSet]; exact hset) hkind _
  · have hecho (e : Echo) := hheard.trans (State.works_takeEcho v.station e (s.heard v.station)).alerts
    exact State.takeResults_done ((hecho _).enabled.trans henabled) (by rw [(hecho _).stationSet]; exact hset) hkind _

theorem State.resultsTaken_restartNoted (v : Visit) (reply : Reply) (s : State) :
    ((s.resultsTaken v reply).station v.station).restartNoted = (s.station v.station).restartNoted := by
  have hcore := congrArg Station.restartNoted (s.records_resultsTaken v reply).own
  rw [Station.answered_kept] at hcore
  exact hcore

/-- Which notices a valid reply raises where they are due. -/
theorem State.validReply_shows (henabled : s.alerts.enabled = true) :
    ((s.station v.station).link = .lost ∨ (s.station v.station).link = .unheard →
        s.alerts.stationSet.getLsbD 1 = true → (s.validReply v reply).alerts.shows (.station v.station) 1) ∧
      (reply.restart = true → (s.station v.station).restartNoted = false → s.alerts.stationSet.getLsbD 2 = true →
        (s.validReply v reply).alerts.shows (.station v.station) 2) ∧
      (v.kind ≠ .routine → s.alerts.stationSet.getLsbD 3 = true →
        (s.validReply v reply).alerts.shows (.station v.station) 3) := by
  have htaken := (s.visits_resultsTaken v reply).alerts
  have hjudged := (State.visits_judgeRestart v.station reply.restart (s.resultsTaken v reply)).alerts
  have hafter := s.validReply_after v reply
  refine ⟨fun hlink hset => ?_, fun hrestart hnoted hset => ?_, fun hkind hset => ?_⟩
  · exact hafter.shows (hjudged.shows ((s.resultsTaken_alerts v reply).shows (State.heard_back henabled hset hlink)))
  · refine hafter.shows ?_
    rw [State.judgeRestart_restarts hrestart ((s.resultsTaken_restartNoted v reply).trans hnoted)]
    exact State.restartStation_shows (htaken.enabled.trans henabled) (by rw [htaken.stationSet]; exact hset)
  · exact hafter.shows (hjudged.shows (State.resultsTaken_done henabled hset hkind))

/-! ## The obligation -/

/-- Settles O26: the steps of section 6.3 in their order, and what each leaves of the station, the flags and the notices. -/
theorem validReplyMakesTheStationLive : Obligations.ValidReplyMakesTheStationLive := by
  intro s v frame reply hs hline hphase hparse
  have hvisits := (s.setPhase v .over).visits_validReply v reply
  have hrecords := (s.setPhase v .over).records_validReply v reply
  obtain ⟨hlink, hmisses, hnoted, hhours, htemps, hfaults, hident, hinquiry, honce, hround⟩ :=
    Station.replied_fields v reply (s.station v.station).core
  have hresults := parseReply_results hparse
  obtain ⟨hhours', htemps', hfaults', hident'⟩ := Station.answered_results hresults (s.station v.station).core.heardNow
  obtain ⟨hhours'', htemps'', hfaults'', hident''⟩ :=
    Station.store_results reply.results (s.station v.station).core.heardNow
  have hslot := Station.answered_inquiry v reply.results (s.station v.station).core.heardNow
  have hown {α : Type} (f : Station → α) : f (((s.setPhase v .over).validReply v reply).station v.station).core =
      f ((s.station v.station).core.replied v reply) := congrArg f hrecords.own
  have hothers {α : Type} (f : Station → α) (j : StationId) (hj : j ≠ v.station) :
      f (((s.setPhase v .over).validReply v reply).station j).core = f (s.station j).core :=
    congrArg f (hrecords.others j hj)
  have hsweep := hvisits.sweep
  have hflags {α : Type} (f : RoundFlags → α) := congrArg (fun w : Sweep => f w.flags) hsweep
  obtain ⟨hcalls, hlockouts⟩ := State.validReply_lastValues v reply (s.setPhase v .over)
  refine ⟨((s.setPhase v .over).validReply v reply).settlePins, exec_validReply hs hline hphase hparse,
    (hown Station.link).trans hlink, (hown Station.misses).trans hmisses, (hown Station.restartNoted).trans hnoted,
    hcalls, hlockouts, fun j hj => ⟨hothers Station.link j hj, hothers Station.misses j hj, hothers Station.lastCall j hj,
      hothers Station.lastLockout j hj⟩, ?_, hflags RoundFlags.anyMiss, hflags RoundFlags.newLoss,
    (s.setPhase v .over).validReply_newCall v reply, hvisits.calendar, hvisits.assent, hvisits.link, hvisits.pending,
    (hown Station.runHours).trans (hhours.trans (hhours'.trans hhours'')),
    (hown Station.temperatures).trans (htemps.trans (htemps'.trans htemps'')),
    (hown Station.faultList).trans (hfaults.trans (hfaults'.trans hfaults'')),
    (hown Station.ident).trans (hident.trans (hident'.trans hident'')), hresults, ?_,
    State.validReply_shows (s := s.setPhase v .over), ?_⟩
  · exact hsweep.trans (congrArg (fun flags => ({ s.sweep with line := .slot { v with phase := .over }, flags } : Sweep))
      (hflags id).symm)
  · have hpair := (hown fun st => (st.inquiry, st.once, st.round)).trans
      ((congrArg₂ Prod.mk hinquiry (congrArg₂ Prod.mk honce hround)).trans hslot)
    exact hpair
  · exact congrArg State.settlePins rfl

end

end Sys2Proof.Machine
end
